-- ==== Sys2Proof/Word.lean ====
section
/-!
DEFINITION. The words of the part: bytes, 48-bit part time, 16-bit pixels, and the two fixed limits of
plain arithmetic that every file uses.
-/
namespace Sys2Proof

/-- One byte on a link, on the card or in the stacked DRAM. -/
abbrev Byte := BitVec 8

/-- Part time: a free-running 48-bit count of microseconds (R176). -/
abbrev Time := BitVec 48

/-- One pixel of the sensor link (R42). -/
abbrev Pixel := BitVec 16

/-- The largest value of a 32-bit count or card block number. -/
def lim32 : Nat := 4294967295

/-- The largest value of a 16-bit count. -/
def lim16 : Nat := 65535

end Sys2Proof
end

