-- ==== Sys2Proof/Machine/Arith.lean ====
section
/-!
DEFINITION. The arithmetic the rules share: roundings, saturation, counts that stand still, bytes of a number and the
16-bit check of R178.
-/
namespace Sys2Proof.Machine

/-- n / d rounded to nearest, halves up (00_scope.md, Rounding; for values that are never negative). -/
def roundNat (n d : Nat) : Nat := (2 * n + d) / (2 * d)

/-- n / d rounded to nearest, halves away from zero (00_scope.md, Rounding). -/
def roundInt (n : Int) (d : Nat) : Int :=
  if n < 0 then -((roundNat n.natAbs d : Nat) : Int) else ((roundNat n.natAbs d : Nat) : Int)

/-- Saturation to [lo, hi] (00_scope.md, Numbers and ranges). -/
def saturate (lo hi x : Int) : Int := if x < lo then lo else if hi < x then hi else x

/-- Saturation of a count to [lo, hi]. -/
def clampNat (lo hi n : Nat) : Nat := if n < lo then lo else if hi < n then hi else n

/-- A count raised by k that stands still at its upper limit. -/
def raise (limit n k : Nat) : Nat := min limit (n + k)

/-- Rounding down to a multiple of 25 mA (00_scope.md, Rounding). -/
def floor25 (n : Nat) : Nat := n / 25 * 25

/-- The w bytes of a number, most significant first (R178). -/
def beBytes : Nat → Nat → List Byte
  | 0, _ => []
  | w + 1, n => BitVec.ofNat 8 (n / 256 ^ w) :: beBytes w n

/-- The w bytes of a signed number in two's complement, most significant first (R178). -/
def beSigned (w : Nat) (n : Int) : List Byte := beBytes w (n % (256 : Int) ^ w).toNat

/-- The number that bytes hold, most significant first (R178). -/
def beNat (bs : List Byte) : Nat := bs.foldl (fun n b => n * 256 + b.toNat) 0

/-- A 16-bit number read in two's complement. -/
def signed16 (n : Nat) : Int := if n < 32768 then (n : Int) else (n : Int) - 65536

/-- One bit of the check: R178, step 3. -/
def checkBit (register : BitVec 16) (bit : Bool) : BitVec 16 :=
  if register.msb ^^ bit then (register <<< 1) ^^^ 0x1021#16 else register <<< 1

/-- One byte of the check, its bits from the most significant down: R178, steps 2 and 3. -/
def checkByte (register : BitVec 16) (b : Byte) : BitVec 16 :=
  [7, 6, 5, 4, 3, 2, 1, 0].foldl (fun r k => checkBit r (b.getLsbD k)) register

/-- The check of a header and payload (R178). -/
def linkCheck (bs : List Byte) : BitVec 16 := bs.foldl checkByte 0xFFFF#16

/-- Bytes with their check behind them, high byte first (R178). -/
def withCheck (bs : List Byte) : List Byte := bs ++ beBytes 2 (linkCheck bs).toNat

/-- A flag as a byte (R179). -/
def flagByte (b : Bool) : Byte := if b then 1 else 0

/-- Eight flags as a byte, bit 0 first. -/
def flagBits (bits : List Bool) : Byte := BitVec.ofNat 8 (bits.foldr (fun b n => 2 * n + b.toNat) 0)

end Sys2Proof.Machine
end

