-- ==== Sys2Proof/Config.lean ====
section
/-!
DEFINITION. What the part fixes once and for all: sizes and times the rules name, and the two values the
manual leaves open, which stand here as constants without a body.
-/
namespace Sys2Proof.Config

/-- FREE VALUE (log entry 12). The END REASON byte of a QUERY CLIP answer for an OPEN clip: R122 says the END
REASON is absent while OPEN, and R180's layout names no byte for that. -/
opaque openEndReasonByte : Byte

/-- FREE VALUE (log entry 13). Byte k of the PROFILE rows beyond ROW COUNT in a QUERY TABLE answer: R179 says such
rows are sent and ignored in a load, and no rule says what an answer holds in their place. -/
opaque unusedProfileByte : Nat → Byte

/-- C_LIM of chapter 1: the bound of the correction (R14). -/
def cLim : Int := 16777215

/-- Slots of the stacked DRAM (R70). -/
def slotCount : Nat := 1024

/-- Bytes of a slot (R71). -/
def slotBytes : Nat := 65536

/-- Slots of one power quarter (R89). -/
def quarterSlots : Nat := 256

/-- Card blocks of one slot (R91, R112). -/
def slotBlocks : Nat := 128

/-- The settle time of the card-detect line in microseconds (R105). -/
def settleTime : Nat := 20000

/-- The wait after RESET in microseconds (R106). -/
def resetWait : Nat := 1000

/-- The answer timer of IDENTIFY and SET GRADE in microseconds (R106, R111). -/
def answerWait : Nat := 100000

/-- The length of a buffer wake in microseconds (R166). -/
def wakeTime : Nat := 2000

/-- The sweep period in microseconds (R141). -/
def sweepPeriod : Nat := 10000

end Sys2Proof.Config
end

