-- ==== Sys2Proof/Syntax.lean ====
section
/-!
DEFINITION. The commands of the part: one constructor for each row of spec/opcode_table.json, with the operands the
outside world brings. A command row of the control channel carries the cell's TAG and its parameter bytes (R170,
R179); a LOAD TABLE or QUERY row carries the bytes after its TABLE or SUBJECT byte.
-/
namespace Sys2Proof

/-- Two consecutive bytes of a motion burst, in the order they were clocked in (R3). -/
structure BytePair where
  first : Byte
  second : Byte
  deriving DecidableEq, Repr

/-- The twelve bytes of one burst, as the six pairs R3 names. -/
structure Burst where
  gx : BytePair
  gy : BytePair
  gz : BytePair
  ax : BytePair
  ay : BytePair
  az : BytePair
  deriving DecidableEq, Repr

/-- What the buffer's ECC finds in the 16 words of the block a command makes the Card Port read (R86, R87): how many
words have a correctable error, and how many an uncorrectable one. An input from outside (log entry 9). -/
structure EccRead where
  corrected : Nat
  damaged : Nat
  deriving DecidableEq, Repr

/-- The card's answer to one block (R112). -/
inductive BlockResult where
  | accepted
  | checkError
  | writeError
  deriving DecidableEq, Repr

/-- When the card raised a ready report: before a STOP reached it, or after one. A report that the busy timer's deadline
overtook is of the first kind (R113, R114; log entry 36). -/
inductive ReportMoment where
  | beforeStop
  | afterStop
  deriving DecidableEq, Repr

/-- A ready report as the recorder takes it: when the card raised it, and the reading that a new attempt then makes of
the page codes of its first block (R113, R114, R112). -/
structure ReadyReport where
  moment : ReportMoment
  ecc : EccRead
  deriving DecidableEq, Repr

/-- The card's IDENTIFY answer: whether its check holds, the capacity in blocks and the grade field (R106, R107). -/
structure IdentifyAnswer where
  checkGood : Bool
  capacity : BitVec 32
  grade : Byte
  deriving DecidableEq, Repr

/-- The measurements of one sweep (R141), before the ends of the ranges are applied. `tBat` is absent for OPEN. -/
structure Readings where
  vIn : Int
  iIn : Int
  vBat : Int
  iBat : Int
  iSys : Int
  tBat : Option Int
  tDie : Int
  deriving DecidableEq, Repr

/-- The commands of the part, in the order of spec/opcode_table.json. -/
inductive Instr where
  /-- R167: first application of supply, or the next one after cutoff; the operand is the card-detect line's level. -/
  | powerOn (cardPresent : Bool)
  /-- R1: the motion sensor raises data-ready. -/
  | dataReady
  /-- R3: the burst's twelfth byte completes. -/
  | sampleArrival (bytes : Burst)
  /-- R6: the gap timer reaches its deadline. -/
  | gapExpiry
  /-- R43: the sensor sends a FRAME START. -/
  | frameStart
  /-- R45: the sensor sends a LINE with its index and pixels. -/
  | line (index : BitVec 12) (pixels : List Pixel)
  /-- R51: the sensor sends a FRAME END. -/
  | frameEnd
  /-- R168: an inbound cell that fails test 1, 2 or 3. -/
  | cellBadCheck
  /-- R121: a CLIP cell with its FLAGS byte, SEQUENCE and payload. -/
  | clipCell (flags : Byte) (sequence : BitVec 16) (payload : List Byte)
  /-- R129: the drain deadline expires. -/
  | drainTimeout
  /-- R174: the last byte of the cell in sending is sent. -/
  | cellSent
  /-- R170, R171, R175: a CONTROL cell whose COMMAND CODE, or whose TABLE or SUBJECT byte, names nothing. -/
  | unknownCommand (tag code : Byte) (params : List Byte)
  /-- R20: LOAD TABLE for the MOTION table. -/
  | loadTableMotion (tag : Byte) (fields : List Byte)
  /-- R34: LOAD TABLE for the LENS table. -/
  | loadTableLens (tag : Byte) (fields : List Byte)
  /-- R35: LOAD TABLE for the WINDOW table. -/
  | loadTableWindow (tag : Byte) (fields : List Byte)
  /-- R138: LOAD TABLE for the RECORDER table. -/
  | loadTableRecorder (tag : Byte) (fields : List Byte)
  /-- R154: LOAD TABLE for the PROFILE table. -/
  | loadTableProfile (tag : Byte) (fields : List Byte)
  /-- R92. -/
  | appendExtent (tag : Byte) (params : List Byte)
  /-- R97. -/
  | clearExtents (tag : Byte) (params : List Byte)
  /-- R100. -/
  | addProtect (tag : Byte) (params : List Byte)
  /-- R101, R68. -/
  | removeProtect (tag : Byte) (params : List Byte)
  /-- R124. -/
  | arm (tag : Byte) (params : List Byte)
  /-- R125. -/
  | disarm (tag : Byte) (params : List Byte)
  /-- R126. -/
  | startRecord (tag : Byte) (params : List Byte)
  /-- R128. -/
  | stopRecord (tag : Byte) (params : List Byte)
  /-- R135. -/
  | abortClip (tag : Byte) (params : List Byte)
  /-- R108. -/
  | setCardGrade (tag : Byte) (params : List Byte)
  /-- R156. -/
  | setInputLimit (tag : Byte) (params : List Byte)
  /-- R157. -/
  | chargeReset (tag : Byte) (params : List Byte)
  /-- R176. -/
  | setTime (tag : Byte) (params : List Byte)
  /-- R163. -/
  | standby (tag : Byte) (params : List Byte)
  /-- R166. -/
  | wake (tag : Byte) (params : List Byte)
  /-- R175, subject STATUS. -/
  | queryStatus (tag : Byte) (argument : List Byte)
  /-- R122, R175, subject CLIP. -/
  | queryClip (tag : Byte) (argument : List Byte)
  /-- R103, R175, subject EXTENTS. -/
  | queryExtents (tag : Byte) (argument : List Byte)
  /-- R103, R175, subject PROTECT. -/
  | queryProtect (tag : Byte) (argument : List Byte)
  /-- R175, subject COUNTERS. -/
  | queryCounters (tag : Byte) (argument : List Byte)
  /-- R175, subject TABLE. -/
  | queryTable (tag : Byte) (argument : List Byte)
  /-- R175. -/
  | clearCounters (tag : Byte) (params : List Byte)
  /-- R177. -/
  | restart (tag : Byte) (params : List Byte)
  /-- R105: the raw card-detect line changes level. -/
  | detectLineChange
  /-- R105: the line has held present for the settle time. -/
  | detectAsserted
  /-- R105, R107, R117: the line has held not present for the settle time. -/
  | detectReleased
  /-- R106: the 1 ms wait after RESET ends. -/
  | resetWaitExpiry
  /-- R107: the card's IDENTIFY answer arrives. -/
  | identifyAnswer (answer : IdentifyAnswer)
  /-- R107: the IDENTIFY answer timer expires. -/
  | identifyTimeout
  /-- R106, R111: the card answers SET GRADE; at a write the first block is then read. -/
  | setGradeAnswer (ecc : EccRead)
  /-- R107, R111: the SET GRADE answer timer expires. -/
  | setGradeTimeout
  /-- R110: a slot write starts; if no grade change is needed the first block is read. -/
  | slotWriteStart (ecc : EccRead)
  /-- R112: the card answers a block; after ACCEPTED the next block, if any, is read. -/
  | blockAnswer (result : BlockResult) (ecc : EccRead)
  /-- R112: a block's answer does not come in time. -/
  | blockAnswerTimeout
  /-- R113: the busy timer in SETTLING expires. -/
  | busyTimerExpiry
  /-- R113, R114: the card reports ready, before or after a STOP reached it; a new attempt reads the first block. -/
  | readyReport (report : ReadyReport)
  /-- R114: the card does not report ready in time after STOP. -/
  | stopTimeout
  /-- R142: a completed sweep. -/
  | sweep (readings : Readings)
  /-- R143: the sweep at which the qualify count reaches 200. -/
  | qualifyEnd (readings : Readings)
  /-- R149: the sweep at which the termination count reaches 10. -/
  | terminationCountReached (readings : Readings)
  /-- R152: the sweep at which a safety count reaches its limit. -/
  | safetyTimerExpiry (readings : Readings)
  /-- R159: the sweep at which the critical count reaches 3. -/
  | criticalCountReached (readings : Readings)
  /-- R166: the wake timer expires. -/
  | wakeTimerExpiry
  deriving DecidableEq, Repr

end Sys2Proof
end

