-- ==== Sys2Proof/Machine/State.lean ====
section
/-!
DEFINITION. The state of the part as plain data: one structure for each block of 00_scope.md's Figure 1, holding the
state its chapter names, and the values right after power-on.
-/
namespace Sys2Proof.Machine

/-! ### Named values, each list in the order the spec gives it (R179 codes a value by its place) -/

/-- R9. -/
inductive MotionState where
  | tracking
  | lost
  deriving DecidableEq, Repr

/-- R3, R20. -/
inductive ByteOrder where
  | highFirst
  | lowFirst
  deriving DecidableEq, Repr

/-- The sensor axis and sign a rate is taken from (R4, R20). -/
inductive RateSource where
  | plusGx
  | minusGx
  | plusGy
  | minusGy
  | plusGz
  | minusGz
  deriving DecidableEq, Repr

/-- The five tables the processor loads (R171). -/
inductive TableName where
  | motion
  | lens
  | window
  | recorder
  | profile
  deriving DecidableEq, Repr

/-- Recorder modes (R121). -/
inductive Mode where
  | idle
  | armed
  | recording
  deriving DecidableEq, Repr

/-- Clip states (R122). -/
inductive ClipState where
  | opened
  | closing
  | closed
  | aborted
  deriving DecidableEq, Repr

/-- END REASON of a clip record (R122). -/
inductive EndReason where
  | stop
  | split
  | power
  | heat
  | abort
  deriving DecidableEq, Repr

/-- Reason of a power close (R136). -/
inductive PowerReason where
  | power
  | heat
  deriving DecidableEq, Repr

/-- Slot states; a FREE slot is one the slot table does not list (R70). -/
inductive SlotState where
  | free
  | filling
  | preroll
  | queued
  | writing
  deriving DecidableEq, Repr

/-- Card states (R105). -/
inductive CardState where
  | absent
  | attaching
  | ready
  | writing
  | settling
  | failed
  | off
  deriving DecidableEq, Repr

/-- Grades (R108), slowest first. -/
inductive Grade where
  | g0
  | g1
  | g2
  | g3
  deriving DecidableEq, Repr

/-- Reason of a suspension (R118). -/
inductive SuspendReason where
  | noExtent
  | noCard
  | cardFailed
  deriving DecidableEq, Repr

/-- Writer states (R110); a SUSPENDED writer holds its reason (R118). -/
inductive Writer where
  | stopped
  | idle
  | mapping
  | sending
  | settling
  | suspended (reason : SuspendReason)
  deriving DecidableEq, Repr

/-- ORIGIN of a protect range (R99). -/
inductive Origin where
  | loaded
  | lock
  deriving DecidableEq, Repr

/-- Charger states (chapter 9). -/
inductive ChargerState where
  | noInput
  | qualify
  | precharge
  | fast
  | taper
  | full
  | paused
  | fault
  deriving DecidableEq, Repr

/-- State reasons of the charger (chapter 9). -/
inductive ChargeReason where
  | removed
  | overVoltage
  | cold
  | hot
  | prechargeTimer
  | fastTimer
  | batteryAbsent
  deriving DecidableEq, Repr

/-- Battery levels (R159). -/
inductive BatteryLevel where
  | normal
  | low
  | critical
  deriving DecidableEq, Repr

/-- Die levels (R161). -/
inductive DieLevel where
  | normal
  | warm
  | hot
  | critical
  deriving DecidableEq, Repr

/-- Standby states (R163 to R166). -/
inductive StandbyState where
  | active
  | standby
  | waking
  deriving DecidableEq, Repr

/-- Standby reasons (R164). -/
inductive StandbyReason where
  | command
  | power
  | heat
  deriving DecidableEq, Repr

/-- Outcomes of a SHOCK (R63, R179). -/
inductive ShockOutcome where
  | noticeOnly
  | started
  | startFailed
  | locked
  | alreadyLocked
  deriving DecidableEq, Repr

/-- Notice kinds, in the order of R173. -/
inductive NoticeKind where
  | motionLost
  | motionBack
  | shock
  | lockPartial
  | extentLow
  | extentExhausted
  | cardChange
  | cardFailed
  | clipClosed
  | clipAborted
  | overrun
  | chargeState
  | batteryLow
  | batteryCritical
  | heat
  | tableTaken
  deriving DecidableEq, Repr

/-- Record kinds, in the order of R180's codes. -/
inductive RecordKind where
  | pad
  | video
  | motion
  | frame
  | mark
  deriving DecidableEq, Repr

/-! ### Motion Engine -/

/-- The MOTION table (R20). -/
structure MotionTable where
  startAddress : Nat
  byteOrder : ByteOrder
  yawSource : RateSource
  pitchSource : RateSource
  rateScale : Nat
  leakShift : Nat
  lead : Nat
  guardRatio : Nat
  period : Nat
  hold : Nat
  shockThreshold : Nat
  shockCount : Nat
  autoTrigger : Bool
  deriving DecidableEq, Repr

/-- The power-on MOTION table (R20). -/
def MotionTable.powerOn : MotionTable where
  startAddress := 0
  byteOrder := .highFirst
  yawSource := .plusGz
  pitchSource := .plusGx
  rateScale := 16384
  leakShift := 7
  lead := 0
  guardRatio := 12
  period := 1000
  hold := 0
  shockThreshold := 32767
  shockCount := 4
  autoTrigger := false

/-- The mapped sample (R4). -/
structure Sample where
  yaw : Int
  pitch : Int
  ax : Int
  ay : Int
  az : Int
  deriving DecidableEq, Repr

/-- The all-zero sample (R6). -/
def Sample.zero : Sample := ⟨0, 0, 0, 0, 0⟩

/-- One entry of the motion queue (R19). -/
structure MotionEntry where
  sample : Sample
  substitute : Bool
  deriving DecidableEq, Repr

/-- What a burst in flight recorded at its start (R1). -/
structure BurstInFlight where
  startAddress : Nat
  byteOrder : ByteOrder
  deriving DecidableEq, Repr

/-- The filter state of one axis (R13 to R17). -/
structure Axis where
  c : Int
  last : Int
  guardOn : Bool
  hold : Nat
  deriving DecidableEq, Repr

/-- An axis at power-on (R22). -/
def Axis.zero : Axis := ⟨0, 0, false, 0⟩

/-- The shock detector (R58, R59): RAISED or QUIET, the run count and the run peak. -/
structure Detector where
  raised : Bool
  run : Nat
  peak : Nat
  deriving DecidableEq, Repr

/-- The shock detector at power-on (R69). -/
def Detector.quiet : Detector := ⟨false, 0, 0⟩

/-- The Motion Engine. -/
structure MotionEngine where
  motion : MotionState
  reading : Bool
  burst : Option BurstInFlight
  gapDeadline : Option Time
  gapCount : Nat
  lastGood : Sample
  yaw : Axis
  pitch : Axis
  queue : List MotionEntry
  table : MotionTable
  pendingTable : Option MotionTable
  detector : Detector
  deriving DecidableEq, Repr

/-- The Motion Engine at power-on (R22). -/
def MotionEngine.powerOn : MotionEngine where
  motion := .lost
  reading := true
  burst := none
  gapDeadline := none
  gapCount := 0
  lastGood := Sample.zero
  yaw := Axis.zero
  pitch := Axis.zero
  queue := []
  table := MotionTable.powerOn
  pendingTable := none
  detector := Detector.quiet

/-! ### Window Unit and Sensor Port -/

/-- The LENS table (R34). -/
structure LensTable where
  hShift : Nat
  hPoints : List Nat
  vShift : Nat
  vPoints : List Nat
  deriving DecidableEq, Repr

/-- The power-on LENS table: linear curves, 320 sixteenths for each segment (R34). -/
def LensTable.powerOn : LensTable where
  hShift := 16
  hPoints := (List.range 17).map (320 * ·)
  vShift := 16
  vPoints := (List.range 17).map (320 * ·)

/-- The WINDOW table (R35). -/
structure WindowTable where
  win : Nat
  hin : Nat
  wout : Nat
  hout : Nat
  bands : Nat
  deriving DecidableEq, Repr

/-- The lift of a frame (R30). -/
structure Lift where
  dy : Int
  py : Int
  clamped : Bool
  beyondCurve : Bool
  guardOn : Bool
  lost : Bool
  deriving DecidableEq, Repr

/-- A present band entry (R32). -/
structure BandEntry where
  dx : Int
  px : Int
  clamped : Bool
  beyondCurve : Bool
  guardOn : Bool
  lost : Bool
  deriving DecidableEq, Repr

/-- The frame record (R31, R44); an absent band entry is `none`. -/
structure FrameRecord where
  number : Nat
  lift : Lift
  bands : Nat
  entries : List (Option BandEntry)
  linesSeen : Nat
  linesSent : Nat
  linesDropped : Nat
  deriving DecidableEq, Repr

/-- The Window Unit. -/
structure WindowUnit where
  lens : LensTable
  pendingLens : Option LensTable
  window : Option WindowTable
  pendingWindow : Option WindowTable
  frame : Option FrameRecord
  deriving DecidableEq, Repr

/-- The Window Unit at power-on (R40). -/
def WindowUnit.powerOn : WindowUnit := ⟨LensTable.powerOn, none, none, none, none⟩

/-- The Sensor Port. -/
structure SensorPort where
  frameNumber : Nat
  frameOpen : Bool
  expectedLine : Nat
  lineLimit : Option Nat
  running : Bool
  deriving DecidableEq, Repr

/-- The Sensor Port at power-on (R55). -/
def SensorPort.powerOn : SensorPort := ⟨0, false, 0, none, true⟩

/-! ### Link Port -/

/-- A cell of the outbound line queue (R49, R51). -/
inductive PictureCell where
  | line (frame lineNumber band : Nat) (adjusted : Bool) (pixels : List Pixel)
  | frameEnd (frame linesSent linesDropped : Nat) (short : Bool)
  deriving DecidableEq, Repr

/-- Reasons of a REFUSED result (R170). -/
inductive RefusalReason where
  | unknown
  | badLength
  | badTable (field : Nat)
  | noRoom
  | overlap
  | badRange
  | noCard
  | lowPower
  | recording
  | standby
  deriving DecidableEq, Repr

/-- The values a DONE result adds (R170, R179). A snapshot holds the bytes of a QUERY answer as it stood. -/
inductive Answer where
  | plain
  | clipNumber (n : Nat)
  | remaining (n : Nat)
  | index (n : Nat)
  | limit (n : Nat)
  | grade (n : Nat)
  | snapshot (bytes : List Byte)
  deriving DecidableEq, Repr

/-- The result of a command (R170). -/
inductive CommandResult where
  | done (answer : Answer)
  | busy
  | refused (reason : RefusalReason)
  deriving DecidableEq, Repr

/-- A reply (R170). -/
structure Reply where
  tag : Byte
  code : Byte
  result : CommandResult
  deriving DecidableEq, Repr

/-- The LATEST VALUE of a notice entry, by what its kind carries (R173). -/
inductive NoticeValue where
  | nothing
  | number (n : Nat)
  | shock (outcome : ShockOutcome) (clip : Nat)
  | card (state : CardState)
  | charger (state : ChargerState) (reason : Option ChargeReason)
  | die (level : DieLevel)
  | table (name : TableName)
  deriving DecidableEq, Repr

/-- An entry of the notice queue (R173). -/
structure Notice where
  kind : NoticeKind
  count : Nat
  value : NoticeValue
  time : Time
  deriving DecidableEq, Repr

/-- An outbound cell (R174). -/
inductive OutCell where
  | picture (cell : PictureCell)
  | reply (r : Reply)
  | notice (n : Notice)
  deriving DecidableEq, Repr

/-- The sixteen counters (R175). -/
structure Counters where
  sampleGaps : Nat
  sampleOverlaps : Nat
  clampedBands : Nat
  linesMalformed : Nat
  linesDropped : Nat
  cellsBadCheck : Nat
  clipCellsMissing : Nat
  clipCellsUnexpected : Nat
  recordsDiscarded : Nat
  eccCorrected : Nat
  slotsDamaged : Nat
  cardRetries : Nat
  cardSkips : Nat
  shocks : Nat
  controlCellsLost : Nat
  framesShort : Nat
  deriving DecidableEq, Repr

/-- All counters at 0 (R175). -/
def Counters.zero : Counters := ⟨0, 0, 0, 0, 0, 0, 0, 0, 0, 0, 0, 0, 0, 0, 0, 0⟩

/-- The Link Port. -/
structure LinkPort where
  expectedSequence : Option (BitVec 16)
  lines : List PictureCell
  replies : List Reply
  notices : List Notice
  sending : Option OutCell
  counters : Counters
  deriving DecidableEq, Repr

/-- The Link Port at power-on (R55, R169, R172, R173, R175). -/
def LinkPort.powerOn : LinkPort := ⟨none, [], [], [], none, Counters.zero⟩

/-! ### Slot Buffer -/

/-- A slot record (R70). -/
structure SlotRecord where
  state : SlotState
  clip : Option Nat
  sequence : Option Nat
  fill : Nat
  firstSync : Option Nat
  firstTime : Option Time
  lastTime : Option Time
  count : Nat
  damaged : Bool
  prerollOrigin : Bool
  trailer : Bool
  final : Bool
  deriving DecidableEq, Repr

/-- The record of a FREE slot (R70). -/
def SlotRecord.free : SlotRecord where
  state := .free
  clip := none
  sequence := none
  fill := 64
  firstSync := none
  firstTime := none
  lastTime := none
  count := 0
  damaged := false
  prerollOrigin := false
  trailer := false
  final := false

/-- The Slot Buffer. `slots` lists the slots that are not FREE, by rising slot number; a slot it does not list is FREE
with the reset record. `mem` is the stacked DRAM: slot n holds addresses n × 65,536 up, and a byte it does not list has
no value (R88, log entry 8). -/
structure SlotBuffer where
  slots : List (Nat × SlotRecord)
  filling : Option Nat
  ring : List Nat
  queue : List Nat
  overrun : Bool
  quarters : List Bool
  mem : List Host.Cell
  deriving DecidableEq, Repr

/-- The Slot Buffer at power-on (R88). -/
def SlotBuffer.powerOn : SlotBuffer := ⟨[], none, [], [], false, [true, true, true, true], []⟩

/-! ### Extent Map -/

/-- An extent (R91). -/
structure Extent where
  first : Nat
  count : Nat
  used : Nat
  deriving DecidableEq, Repr

/-- A protect range (R99); CLIP NUMBER is present for LOCK only. -/
structure ProtectRange where
  first : Nat
  count : Nat
  origin : Origin
  clip : Option Nat
  deriving DecidableEq, Repr

/-- The Extent Map: the extent table, head first, and the sixteen places of the protect table. The cursor and the
remaining space are computed from the table (R91, R96). -/
structure ExtentMap where
  extents : List Extent
  protect : List (Option ProtectRange)
  deriving DecidableEq, Repr

/-- The Extent Map at power-on (R104). -/
def ExtentMap.powerOn : ExtentMap := ⟨[], List.replicate 16 none⟩

/-! ### Card Port -/

/-- The slot write in flight (chapter 7). -/
structure SlotWrite where
  slot : Option Nat
  position : Nat
  positionCount : Nat
  attempts : Nat
  blocksAnswered : Nat
  grade : Grade
  deriving DecidableEq, Repr

/-- What the Card Port waits for on the card bus (R106, R111 to R114). -/
inductive CardWait where
  | resetDone
  | identify
  | attachGrade (sent : Grade)
  | writeGrade
  | block
  | settled
  | stopped
  deriving DecidableEq, Repr

/-- An awaited card event and the deadline of its timer. -/
structure Awaited where
  what : CardWait
  deadline : Time
  deriving DecidableEq, Repr

/-- The last item the Card Port sent on the card bus (R106, R111, R112, R114). `writeBlocks` names the position, and
block 0 of the slot follows it. -/
inductive CardSend where
  | reset
  | identify
  | setGrade (grade : Grade)
  | writeBlocks (position count : Nat)
  | block (index : Nat)
  | stop
  deriving DecidableEq, Repr

/-- The Card Port. -/
structure CardPort where
  card : CardState
  rawDetect : Bool
  detect : Bool
  settle : Option Time
  capacity : Option Nat
  maxGrade : Option Grade
  setGrade : Nat
  gradeInUse : Option Grade
  writer : Writer
  write : Option SlotWrite
  wait : Option Awaited
  sent : Option CardSend
  supplyOn : Bool
  deriving DecidableEq, Repr

/-- The Card Port at power-on (R105, R119), with the card-detect line at the level given. -/
def CardPort.powerOn (cardPresent : Bool) : CardPort where
  card := .absent
  rawDetect := cardPresent
  detect := false
  settle := some (BitVec.ofNat 48 Config.settleTime)
  capacity := none
  maxGrade := none
  setGrade := 3
  gradeInUse := none
  writer := .stopped
  write := none
  wait := none
  sent := none
  supplyOn := true

/-! ### Clip Controller -/

/-- A clip record (R122), and whether its trailer has been formed (R132, log entry 23). -/
structure ClipRecord where
  number : Nat
  state : ClipState
  startTime : Time
  endReason : Option EndReason
  slotCount : Nat
  written : Nat
  dataDone : Bool
  startOffset : Option Nat
  noSyncStart : Bool
  locked : Bool
  lockPartial : Bool
  gapCount : Nat
  damagedSlots : Nat
  firstDamaged : Option Nat
  skippedRanges : Nat
  unlisted : Nat
  ranges : List (Nat × Nat)
  trailerPosition : Option Nat
  trailerFormed : Bool
  deriving DecidableEq, Repr

/-- A new clip record (R122). -/
def ClipRecord.fresh (number : Nat) (startTime : Time) (locked : Bool) : ClipRecord where
  number := number
  state := .opened
  startTime := startTime
  endReason := none
  slotCount := 0
  written := 0
  dataDone := false
  startOffset := none
  noSyncStart := false
  locked := locked
  lockPartial := false
  gapCount := 0
  damagedSlots := 0
  firstDamaged := none
  skippedRanges := 0
  unlisted := 0
  ranges := []
  trailerPosition := none
  trailerFormed := false

/-- The drain (R128). -/
structure Drain where
  clip : Nat
  deadline : Time
  deriving DecidableEq, Repr

/-- The RECORDER table (R138). -/
structure RecorderTable where
  prerollDepth : Nat
  clipSizeLimit : Nat
  drainTime : Nat
  busyTimeout : Nat
  lowMark : Nat
  deriving DecidableEq, Repr

/-- The power-on RECORDER table (R138). -/
def RecorderTable.powerOn : RecorderTable := ⟨128, 16384, 500, 250, 64⟩

/-- The Clip Controller; a next clip number of `none` is EXHAUSTED (R123). -/
structure ClipController where
  mode : Mode
  clips : List ClipRecord
  nextClip : Option Nat
  drain : Option Drain
  splitDue : Bool
  forcedSplitDue : Bool
  powerClose : Option PowerReason
  table : RecorderTable
  deriving DecidableEq, Repr

/-- The Clip Controller at power-on (R138, R139). -/
def ClipController.powerOn : ClipController := ⟨.idle, [], some 1, none, false, false, none, RecorderTable.powerOn⟩

/-! ### Charge Controller -/

/-- A row of the PROFILE table (R154). -/
structure ProfileRow where
  tLow : Int
  tHigh : Int
  current : Nat
  voltage : Nat
  deriving DecidableEq, Repr

/-- The PROFILE table; its rows are those up to ROW COUNT (R154). -/
structure ProfileTable where
  rows : List ProfileRow
  prechargeCurrent : Nat
  terminationCurrent : Nat
  prechargeTimer : Nat
  fastTimer : Nat
  vLow : Nat
  vCrit : Nat
  vCut : Nat
  deriving DecidableEq, Repr

/-- The power-on PROFILE table (R154). -/
def ProfileTable.powerOn : ProfileTable := ⟨[⟨0, 450, 500, 4200⟩], 100, 50, 60, 600, 3500, 3400, 3200⟩

/-- The Charge Controller. -/
structure ChargeController where
  state : ChargerState
  reason : Option ChargeReason
  switchClosed : Bool
  qualifyCount : Nat
  terminationCount : Nat
  prechargeCount : Nat
  fastCount : Nat
  inputLimit : Nat
  avail : Option Int
  target : Nat
  table : ProfileTable
  pendingTable : Option ProfileTable
  deriving DecidableEq, Repr

/-- The Charge Controller at power-on (R158). -/
def ChargeController.powerOn : ChargeController :=
  ⟨.noInput, some .removed, false, 0, 0, 0, 0, 500, none, 0, ProfileTable.powerOn, none⟩

/-! ### Supply Monitor -/

/-- The Supply Monitor, with part time (R176) and the microseconds left to the next completed sweep (R141; below 0
when a sweep is overdue). -/
structure SupplyMonitor where
  readings : Option Readings
  battery : BatteryLevel
  criticalCount : Nat
  die : DieLevel
  standby : StandbyState
  reason : Option StandbyReason
  wakeDeadline : Option Time
  partTime : Time
  sweepLeft : Int
  deriving DecidableEq, Repr

/-- The Supply Monitor at power-on (R141, R167). -/
def SupplyMonitor.powerOn : SupplyMonitor := ⟨none, .normal, 0, .normal, .active, none, none, 0, Config.sweepPeriod⟩

/-! ### The whole part -/

/-- The state of the part: its ten blocks, whether it has supply (R160), and the commands that are waiting. -/
structure State where
  powered : Bool
  me : MotionEngine
  wu : WindowUnit
  sp : SensorPort
  lp : LinkPort
  sb : SlotBuffer
  xm : ExtentMap
  cp : CardPort
  clc : ClipController
  chg : ChargeController
  smn : SupplyMonitor
  pending : List Instr
  deriving DecidableEq, Repr

/-- Every block at its power-on value (R22, R40, R55, R69, R88, R104, R119, R139, R158, R167, R172, R173, R175), with
the card-detect line at the level given and the queue given. -/
def State.powerOn (cardPresent : Bool) (pending : List Instr) : State where
  powered := true
  me := MotionEngine.powerOn
  wu := WindowUnit.powerOn
  sp := SensorPort.powerOn
  lp := LinkPort.powerOn
  sb := SlotBuffer.powerOn
  xm := ExtentMap.powerOn
  cp := CardPort.powerOn cardPresent
  clc := ClipController.powerOn
  chg := ChargeController.powerOn
  smn := SupplyMonitor.powerOn
  pending := pending

/-- The part right after power-on, no card in the socket (log entry 22), nothing waiting. -/
def State.reset : State := State.powerOn false []

/-- No step stops with a fault: the manual describes no condition that stops the part (INVENTORY.md, Faults). -/
inductive Fault where
  deriving DecidableEq, Repr

/-- Why a command has no meaning. -/
inductive Refusal where
  /-- Raised only by an arm of `exec` whose command has no meaning yet; safe. No arm raises it now. -/
  | notModelled (mnemonic : String)
  deriving DecidableEq, Repr

end Sys2Proof.Machine
end

