-- ==== Sys2Proof/Machine/Flags.lean ====
section
/-!
DEFINITION. What the part reports by itself: the sixteen counters (R175) and the notice queue (R173), and the coding
of named values by their place in their list (R179).
-/
namespace Sys2Proof.Machine

/-- The counters by name, in the order of R175. -/
inductive Counter where
  | sampleGaps
  | sampleOverlaps
  | clampedBands
  | linesMalformed
  | linesDropped
  | cellsBadCheck
  | clipCellsMissing
  | clipCellsUnexpected
  | recordsDiscarded
  | eccCorrected
  | slotsDamaged
  | cardRetries
  | cardSkips
  | shocks
  | controlCellsLost
  | framesShort
  deriving DecidableEq, Repr

/-- The value of a counter. -/
def Counters.get (c : Counters) : Counter → Nat
  | .sampleGaps => c.sampleGaps
  | .sampleOverlaps => c.sampleOverlaps
  | .clampedBands => c.clampedBands
  | .linesMalformed => c.linesMalformed
  | .linesDropped => c.linesDropped
  | .cellsBadCheck => c.cellsBadCheck
  | .clipCellsMissing => c.clipCellsMissing
  | .clipCellsUnexpected => c.clipCellsUnexpected
  | .recordsDiscarded => c.recordsDiscarded
  | .eccCorrected => c.eccCorrected
  | .slotsDamaged => c.slotsDamaged
  | .cardRetries => c.cardRetries
  | .cardSkips => c.cardSkips
  | .shocks => c.shocks
  | .controlCellsLost => c.controlCellsLost
  | .framesShort => c.framesShort

/-- A counter raised by n; it stands still at 65,535 (R175). -/
def Counters.add (c : Counters) (n : Nat) : Counter → Counters
  | .sampleGaps => { c with sampleGaps := raise lim16 c.sampleGaps n }
  | .sampleOverlaps => { c with sampleOverlaps := raise lim16 c.sampleOverlaps n }
  | .clampedBands => { c with clampedBands := raise lim16 c.clampedBands n }
  | .linesMalformed => { c with linesMalformed := raise lim16 c.linesMalformed n }
  | .linesDropped => { c with linesDropped := raise lim16 c.linesDropped n }
  | .cellsBadCheck => { c with cellsBadCheck := raise lim16 c.cellsBadCheck n }
  | .clipCellsMissing => { c with clipCellsMissing := raise lim16 c.clipCellsMissing n }
  | .clipCellsUnexpected => { c with clipCellsUnexpected := raise lim16 c.clipCellsUnexpected n }
  | .recordsDiscarded => { c with recordsDiscarded := raise lim16 c.recordsDiscarded n }
  | .eccCorrected => { c with eccCorrected := raise lim16 c.eccCorrected n }
  | .slotsDamaged => { c with slotsDamaged := raise lim16 c.slotsDamaged n }
  | .cardRetries => { c with cardRetries := raise lim16 c.cardRetries n }
  | .cardSkips => { c with cardSkips := raise lim16 c.cardSkips n }
  | .shocks => { c with shocks := raise lim16 c.shocks n }
  | .controlCellsLost => { c with controlCellsLost := raise lim16 c.controlCellsLost n }
  | .framesShort => { c with framesShort := raise lim16 c.framesShort n }

/-- The counters in the order of R175. -/
def Counters.all (c : Counters) : List Nat :=
  [c.sampleGaps, c.sampleOverlaps, c.clampedBands, c.linesMalformed, c.linesDropped, c.cellsBadCheck,
   c.clipCellsMissing, c.clipCellsUnexpected, c.recordsDiscarded, c.eccCorrected, c.slotsDamaged, c.cardRetries,
   c.cardSkips, c.shocks, c.controlCellsLost, c.framesShort]

/-- Count n events of one counter. -/
def State.countBy (s : State) (k : Counter) (n : Nat) : State :=
  { s with lp := { s.lp with counters := s.lp.counters.add n k } }

/-- Count one event. -/
def State.count (s : State) (k : Counter) : State := s.countBy k 1

/-- A posting on a notice queue (R173): merge into the waiting entry of the kind, or join the tail. -/
def postNotice (kind : NoticeKind) (value : NoticeValue) (now : Time) : List Notice → List Notice
  | [] => [⟨kind, 1, value, now⟩]
  | n :: rest =>
    if n.kind = kind then ⟨kind, raise lim16 n.count 1, value, now⟩ :: rest
    else n :: postNotice kind value now rest

/-- Post a notice (R173). -/
def State.post (s : State) (kind : NoticeKind) (value : NoticeValue) : State :=
  { s with lp := { s.lp with notices := postNotice kind value s.smn.partTime s.lp.notices } }

/-! ### Codes (R179): the place of a value in its list -/

/-- R121. -/
def Mode.code : Mode → Nat
  | .idle => 0
  | .armed => 1
  | .recording => 2

/-- Chapter 1's state table. -/
def MotionState.code : MotionState → Nat
  | .tracking => 0
  | .lost => 1

/-- R20. -/
def ByteOrder.code : ByteOrder → Nat
  | .highFirst => 0
  | .lowFirst => 1

/-- R179. -/
def RateSource.code : RateSource → Nat
  | .plusGx => 0
  | .minusGx => 1
  | .plusGy => 2
  | .minusGy => 3
  | .plusGz => 4
  | .minusGz => 5

/-- R179: table codes. -/
def TableName.code : TableName → Nat
  | .motion => 1
  | .lens => 2
  | .window => 3
  | .recorder => 4
  | .profile => 5

/-- R122. -/
def ClipState.code : ClipState → Nat
  | .opened => 0
  | .closing => 1
  | .closed => 2
  | .aborted => 3

/-- R122. -/
def EndReason.code : EndReason → Nat
  | .stop => 0
  | .split => 1
  | .power => 2
  | .heat => 3
  | .abort => 4

/-- Chapter 8's state table. -/
def PowerReason.code : PowerReason → Nat
  | .power => 0
  | .heat => 1

/-- R105. -/
def CardState.code : CardState → Nat
  | .absent => 0
  | .attaching => 1
  | .ready => 2
  | .writing => 3
  | .settling => 4
  | .failed => 5
  | .off => 6

/-- R108. -/
def Grade.code : Grade → Nat
  | .g0 => 0
  | .g1 => 1
  | .g2 => 2
  | .g3 => 3

/-- R110. -/
def Writer.code : Writer → Nat
  | .stopped => 0
  | .idle => 1
  | .mapping => 2
  | .sending => 3
  | .settling => 4
  | .suspended _ => 5

/-- R118. -/
def SuspendReason.code : SuspendReason → Nat
  | .noExtent => 0
  | .noCard => 1
  | .cardFailed => 2

/-- Chapter 9's state table. -/
def ChargerState.code : ChargerState → Nat
  | .noInput => 0
  | .qualify => 1
  | .precharge => 2
  | .fast => 3
  | .taper => 4
  | .full => 5
  | .paused => 6
  | .fault => 7

/-- DEDUCED, unsafe (log entry 14): the place of a state reason in the one list that chapter 9's state table writes
out, REMOVED first. -/
def ChargeReason.code : ChargeReason → Nat
  | .removed => 0
  | .overVoltage => 1
  | .cold => 2
  | .hot => 3
  | .prechargeTimer => 4
  | .fastTimer => 5
  | .batteryAbsent => 6

/-- R159. -/
def BatteryLevel.code : BatteryLevel → Nat
  | .normal => 0
  | .low => 1
  | .critical => 2

/-- R161. -/
def DieLevel.code : DieLevel → Nat
  | .normal => 0
  | .warm => 1
  | .hot => 2
  | .critical => 3

/-- Chapter 10's state table. -/
def StandbyState.code : StandbyState → Nat
  | .active => 0
  | .standby => 1
  | .waking => 2

/-- Chapter 10's state table. -/
def StandbyReason.code : StandbyReason → Nat
  | .command => 0
  | .power => 1
  | .heat => 2

/-- R179. -/
def ShockOutcome.code : ShockOutcome → Nat
  | .noticeOnly => 0
  | .started => 1
  | .startFailed => 2
  | .locked => 3
  | .alreadyLocked => 4

/-- R173, R179. -/
def NoticeKind.code : NoticeKind → Nat
  | .motionLost => 0
  | .motionBack => 1
  | .shock => 2
  | .lockPartial => 3
  | .extentLow => 4
  | .extentExhausted => 5
  | .cardChange => 6
  | .cardFailed => 7
  | .clipClosed => 8
  | .clipAborted => 9
  | .overrun => 10
  | .chargeState => 11
  | .batteryLow => 12
  | .batteryCritical => 13
  | .heat => 14
  | .tableTaken => 15

/-- R180. -/
def RecordKind.code : RecordKind → Nat
  | .pad => 0
  | .video => 1
  | .motion => 2
  | .frame => 3
  | .mark => 4

/-- R170, R179: reasons are numbered 1 to 10. -/
def RefusalReason.code : RefusalReason → Nat
  | .unknown => 1
  | .badLength => 2
  | .badTable _ => 3
  | .noRoom => 4
  | .overlap => 5
  | .badRange => 6
  | .noCard => 7
  | .lowPower => 8
  | .recording => 9
  | .standby => 10

/-- R179: the first bad field for BAD TABLE, 0 for any other reason. -/
def RefusalReason.field : RefusalReason → Nat
  | .badTable f => f
  | _ => 0

/-- R179: a grade read from its code, absent for a byte that names no grade (R107). -/
def Grade.ofCode : Nat → Option Grade
  | 0 => some .g0
  | 1 => some .g1
  | 2 => some .g2
  | 3 => some .g3
  | _ => none

/-- R179: a source read from its code. -/
def RateSource.ofCode : Nat → Option RateSource
  | 0 => some .plusGx
  | 1 => some .minusGx
  | 2 => some .plusGy
  | 3 => some .minusGy
  | 4 => some .plusGz
  | 5 => some .minusGz
  | _ => none

/-- R179: a table name read from its code. -/
def TableName.ofCode : Nat → Option TableName
  | 1 => some .motion
  | 2 => some .lens
  | 3 => some .window
  | 4 => some .recorder
  | 5 => some .profile
  | _ => none

end Sys2Proof.Machine
end

