-- ==== Sys2Proof/Machine/Operands.lean ====
section
/-!
DEFINITION. Reading the parameters of commands: the fields of a LOAD TABLE and the validation of the five tables
(R20, R34, R35, R138, R154, R171, R179). A validation names the first field that fails, by its order number.
-/
namespace Sys2Proof.Machine

/-- Cut bytes into fields of the given widths, high byte first (R178, R179). -/
def fieldsOf : List Nat → List Byte → List Nat
  | [], _ => []
  | w :: ws, bs => beNat (bs.take w) :: fieldsOf ws (bs.drop w)

/-- Field k of a list of fields, counted from 0. -/
def fieldAt (fs : List Nat) (k : Nat) : Nat := fs.getD k 0

/-- The first order number whose condition fails. -/
def firstBad (conditions : List (Nat × Bool)) : Option Nat :=
  (conditions.find? (fun c => !c.2)).map (·.1)

/-! ### MOTION (R20) -/

/-- Widths of the MOTION fields (R179). -/
def motionWidths : List Nat := [1, 1, 1, 1, 2, 1, 1, 1, 2, 2, 2, 1, 1]

/-- The conditions of R20, in its order. A PITCH SOURCE that names the same sensor axis as a good YAW SOURCE fails; the
codes of one axis are 2k and 2k + 1 (R179). -/
def motionConditions (fs : List Nat) : List (Nat × Bool) :=
  [(1, decide (fieldAt fs 0 ≤ 255)),
   (2, decide (fieldAt fs 1 ≤ 1)),
   (3, decide (fieldAt fs 2 ≤ 5)),
   (4, decide (fieldAt fs 3 ≤ 5 ∧ fieldAt fs 3 / 2 ≠ fieldAt fs 2 / 2)),
   (5, decide (1 ≤ fieldAt fs 4 ∧ fieldAt fs 4 ≤ 65535)),
   (6, decide (3 ≤ fieldAt fs 5 ∧ fieldAt fs 5 ≤ 15)),
   (7, decide (fieldAt fs 6 ≤ 15)),
   (8, decide (8 ≤ fieldAt fs 7 ∧ fieldAt fs 7 ≤ 16)),
   (9, decide (250 ≤ fieldAt fs 8 ∧ fieldAt fs 8 ≤ 4000)),
   (10, decide (fieldAt fs 9 ≤ 4095)),
   (11, decide (1 ≤ fieldAt fs 10 ∧ fieldAt fs 10 ≤ 32767)),
   (12, decide (1 ≤ fieldAt fs 11 ∧ fieldAt fs 11 ≤ 15)),
   (13, decide (fieldAt fs 12 ≤ 1))]

/-- The MOTION table that valid fields hold. -/
def motionTableOf (fs : List Nat) : MotionTable where
  startAddress := fieldAt fs 0
  byteOrder := if fieldAt fs 1 = 0 then .highFirst else .lowFirst
  yawSource := (RateSource.ofCode (fieldAt fs 2)).getD .plusGz
  pitchSource := (RateSource.ofCode (fieldAt fs 3)).getD .plusGx
  rateScale := fieldAt fs 4
  leakShift := fieldAt fs 5
  lead := fieldAt fs 6
  guardRatio := fieldAt fs 7
  period := fieldAt fs 8
  hold := fieldAt fs 9
  shockThreshold := fieldAt fs 10
  shockCount := fieldAt fs 11
  autoTrigger := decide (fieldAt fs 12 = 1)

/-! ### LENS (R34) -/

/-- Widths of the LENS fields (R179). -/
def lensWidths : List Nat := 1 :: List.replicate 17 2 ++ 1 :: List.replicate 17 2

/-- The conditions of one curve whose shift is field `base` (its order number is base + 1): the shift, point 0, and
each later point against the one before it (R34). -/
def curveConditions (fs : List Nat) (base : Nat) : List (Nat × Bool) :=
  (base + 1, decide (8 ≤ fieldAt fs base ∧ fieldAt fs base ≤ 20)) ::
  (base + 2, decide (fieldAt fs (base + 1) = 0)) ::
  (List.range 16).map (fun i =>
    (base + 3 + i, decide (fieldAt fs (base + 1 + i) ≤ fieldAt fs (base + 2 + i))))

/-- The conditions of R34, in its order. -/
def lensConditions (fs : List Nat) : List (Nat × Bool) := curveConditions fs 0 ++ curveConditions fs 18

/-- The LENS table that valid fields hold. -/
def lensTableOf (fs : List Nat) : LensTable where
  hShift := fieldAt fs 0
  hPoints := (List.range 17).map (fun i => fieldAt fs (1 + i))
  vShift := fieldAt fs 18
  vPoints := (List.range 17).map (fun i => fieldAt fs (19 + i))

/-! ### WINDOW (R35) -/

/-- Widths of the WINDOW fields (R179). -/
def windowWidths : List Nat := [2, 2, 2, 2, 1]

/-- The conditions of R35, in its order. -/
def windowConditions (fs : List Nat) : List (Nat × Bool) :=
  let win := fieldAt fs 0
  let hin := fieldAt fs 1
  let wout := fieldAt fs 2
  let hout := fieldAt fs 3
  let b := fieldAt fs 4
  [(1, decide (64 ≤ win ∧ win ≤ 4096 ∧ win % 2 = 0)),
   (2, decide (64 ≤ hin ∧ hin ≤ 3072)),
   (3, decide (64 ≤ wout ∧ wout ≤ win ∧ (win - wout) % 2 = 0)),
   (4, decide (64 ≤ hout ∧ hout ≤ hin ∧ (hin - hout) % 2 = 0)),
   (5, decide ((b = 1 ∨ b = 2 ∨ b = 4 ∨ b = 8 ∨ b = 16) ∧ hin % b = 0))]

/-- The WINDOW table that valid fields hold. -/
def windowTableOf (fs : List Nat) : WindowTable where
  win := fieldAt fs 0
  hin := fieldAt fs 1
  wout := fieldAt fs 2
  hout := fieldAt fs 3
  bands := fieldAt fs 4

/-! ### RECORDER (R138) -/

/-- Widths of the RECORDER fields (R179). -/
def recorderWidths : List Nat := [2, 2, 2, 2, 2]

/-- The conditions of R138, in its order. -/
def recorderConditions (fs : List Nat) : List (Nat × Bool) :=
  [(1, decide (fieldAt fs 0 ≤ 512)),
   (2, decide (256 ≤ fieldAt fs 1 ∧ fieldAt fs 1 ≤ 65535)),
   (3, decide (fieldAt fs 2 ≤ 2000)),
   (4, decide (50 ≤ fieldAt fs 3 ∧ fieldAt fs 3 ≤ 1000)),
   (5, decide (fieldAt fs 4 ≤ 4096))]

/-- The RECORDER table that valid fields hold. -/
def recorderTableOf (fs : List Nat) : RecorderTable where
  prerollDepth := fieldAt fs 0
  clipSizeLimit := fieldAt fs 1
  drainTime := fieldAt fs 2
  busyTimeout := fieldAt fs 3
  lowMark := fieldAt fs 4

/-! ### PROFILE (R154) -/

/-- Widths of the PROFILE fields: ROW COUNT, six rows of four, then the seven settings (R179). -/
def profileWidths : List Nat := 1 :: List.replicate 24 2 ++ [2, 2, 1, 2, 2, 2, 2]

/-- Row i of the fields, counted from 0; T LOW and T HIGH are signed (R179). -/
def profileRowOf (fs : List Nat) (i : Nat) : ProfileRow where
  tLow := signed16 (fieldAt fs (1 + 4 * i))
  tHigh := signed16 (fieldAt fs (2 + 4 * i))
  current := fieldAt fs (3 + 4 * i)
  voltage := fieldAt fs (4 + 4 * i)

/-- A row covers a value from t to h, or t itself (R154's condition on T LOW). -/
def ProfileRow.meets (r : ProfileRow) (t h : Int) : Bool :=
  decide (r.tLow ≤ t ∧ t ≤ r.tHigh) || decide (r.tLow ≤ h ∧ t ≤ r.tHigh ∧ t ≤ h ∧ r.tLow ≤ r.tHigh)

/-- The conditions of row i (R154): orders 2 + 4i to 5 + 4i. -/
def profileRowConditions (fs : List Nat) (i : Nat) : List (Nat × Bool) :=
  let r := profileRowOf fs i
  [(2 + 4 * i, decide (-400 ≤ r.tLow ∧ r.tLow ≤ 1250) &&
      (List.range i).all (fun j => !(profileRowOf fs j).meets r.tLow r.tHigh)),
   (3 + 4 * i, decide (r.tLow ≤ r.tHigh ∧ r.tHigh ≤ 1250)),
   (4 + 4 * i, decide (r.current ≤ 3000 ∧ r.current % 25 = 0)),
   (5 + 4 * i, decide (3600 ≤ r.voltage ∧ r.voltage ≤ 4400 ∧ r.voltage % 10 = 0))]

/-- The conditions of R154, in its order; rows beyond ROW COUNT are not part of the load. -/
def profileConditions (fs : List Nat) : List (Nat × Bool) :=
  let n := fieldAt fs 0
  let vLow := fieldAt fs 29
  let vCrit := fieldAt fs 30
  let vCut := fieldAt fs 31
  (1, decide (1 ≤ n ∧ n ≤ 6)) ::
  ((List.range (min n 6)).flatMap (profileRowConditions fs) ++
  [(26, decide (25 ≤ fieldAt fs 25 ∧ fieldAt fs 25 ≤ 500 ∧ fieldAt fs 25 % 25 = 0)),
   (27, decide (25 ≤ fieldAt fs 26 ∧ fieldAt fs 26 ≤ 500)),
   (28, decide (1 ≤ fieldAt fs 27 ∧ fieldAt fs 27 ≤ 120)),
   (29, decide (30 ≤ fieldAt fs 28 ∧ fieldAt fs 28 ≤ 1200)),
   (30, decide (3000 ≤ vLow ∧ vLow ≤ 3900 ∧ vCrit < vLow)),
   (31, decide (2900 ≤ vCrit ∧ vCrit ≤ 3800 ∧ vCut < vCrit)),
   (32, decide (2800 ≤ vCut ∧ vCut ≤ 3600))])

/-- The PROFILE table that valid fields hold. -/
def profileTableOf (fs : List Nat) : ProfileTable where
  rows := (List.range (fieldAt fs 0)).map (profileRowOf fs)
  prechargeCurrent := fieldAt fs 25
  terminationCurrent := fieldAt fs 26
  prechargeTimer := fieldAt fs 27
  fastTimer := fieldAt fs 28
  vLow := fieldAt fs 29
  vCrit := fieldAt fs 30
  vCut := fieldAt fs 31

/-- A load that is validated whole: the first bad field, or the table (R171). -/
def validated {α : Type} (conditions : List (Nat × Bool)) (table : α) : Except Nat α :=
  match firstBad conditions with
  | some k => .error k
  | none => .ok table

/-- A MOTION load (R20). -/
def parseMotion (bs : List Byte) : Except Nat MotionTable :=
  let fs := fieldsOf motionWidths bs
  validated (motionConditions fs) (motionTableOf fs)

/-- A LENS load (R34). -/
def parseLens (bs : List Byte) : Except Nat LensTable :=
  let fs := fieldsOf lensWidths bs
  validated (lensConditions fs) (lensTableOf fs)

/-- A WINDOW load (R35). -/
def parseWindow (bs : List Byte) : Except Nat WindowTable :=
  let fs := fieldsOf windowWidths bs
  validated (windowConditions fs) (windowTableOf fs)

/-- A RECORDER load (R138). -/
def parseRecorder (bs : List Byte) : Except Nat RecorderTable :=
  let fs := fieldsOf recorderWidths bs
  validated (recorderConditions fs) (recorderTableOf fs)

/-- A PROFILE load (R154). -/
def parseProfile (bs : List Byte) : Except Nat ProfileTable :=
  let fs := fieldsOf profileWidths bs
  validated (profileConditions fs) (profileTableOf fs)

end Sys2Proof.Machine
end

