-- ==== Sys2Proof/Machine/Formats.lean ====
section
/-!
DEFINITION. Byte layouts of chapter 12: outbound cells, replies, notices, query answers, slot headers, records and
trailers (R178, R179, R180).
-/
namespace Sys2Proof.Machine

/-- An optional value: presence byte 1 and the value, or 0 and the value's bytes as 0 (R179). -/
def optBytes (w : Nat) : Option Nat → List Byte
  | some n => 1 :: beBytes w n
  | none => 0 :: beBytes w 0

/-- An optional signed value (R179). -/
def optSigned (w : Nat) : Option Int → List Byte
  | some n => 1 :: beSigned w n
  | none => 0 :: beBytes w 0

/-- A code byte. -/
def codeByte (n : Nat) : Byte := BitVec.ofNat 8 n

/-! ### Records and slots (R180) -/

/-- A record: KIND, FLAGS, LENGTH, TIME and payload (R71, R180). -/
def recordBytes (kind : RecordKind) (flags : Byte) (time : Time) (payload : List Byte) : List Byte :=
  codeByte kind.code :: flags :: (beBytes 2 payload.length ++ (beBytes 4 time.toNat ++ payload))

/-- One entry of a MOTION record (R180). -/
def motionEntryBytes (e : MotionEntry) : List Byte :=
  beSigned 2 e.sample.yaw ++ beSigned 2 e.sample.pitch ++ beSigned 2 e.sample.ax ++ beSigned 2 e.sample.ay ++
    beSigned 2 e.sample.az ++ [0, flagByte e.substitute]

/-- The payload of a MOTION record (R180). -/
def motionPayload (es : List MotionEntry) : List Byte := es.flatMap motionEntryBytes

/-- One band entry of a FRAME record; an absent entry is eight zero bytes (R180). -/
def bandEntryBytes : Option BandEntry → List Byte
  | some e => beSigned 2 e.dx ++ beSigned 2 e.px ++
      [flagBits [true, e.clamped, e.beyondCurve, e.guardOn, e.lost], 0, 0, 0]
  | none => List.replicate 8 0

/-- The payload of a FRAME record (R53, R180). -/
def framePayload (f : FrameRecord) : List Byte :=
  beBytes 4 f.number ++ beSigned 2 f.lift.dy ++ beSigned 2 f.lift.py ++
    [flagBits [f.lift.clamped, f.lift.lost, f.lift.beyondCurve, f.lift.guardOn], codeByte f.bands, 0, 0] ++
    f.entries.flatMap bandEntryBytes

/-- The payload of a MARK record (R62, R180). -/
def markPayload (time : Time) (peak overCount : Nat) : List Byte :=
  beBytes 6 time.toNat ++ beBytes 4 peak ++ codeByte overCount :: List.replicate 5 0

/-- The 64 bytes of a slot header, check included (R76, R180). A time the record does not hold is written as 0: a slot
that is stamped has both. -/
def slotHeader (r : SlotRecord) : List Byte :=
  withCheck (beBytes 4 (r.clip.getD 0) ++ beBytes 4 (r.sequence.getD 0) ++
    beBytes 6 (r.firstTime.getD 0).toNat ++ beBytes 6 (r.lastTime.getD 0).toNat ++
    beBytes 2 r.count ++ beBytes 2 (r.firstSync.getD 0) ++ beBytes 4 r.fill ++
    flagBits [r.prerollOrigin, r.final, r.trailer] :: List.replicate 33 0)

/-- The trailer contents of a clip record (R133, R180), with the END REASON byte of an OPEN clip a free value
(log entry 12; a trailer is never formed for an OPEN clip). -/
def trailerContents (c : ClipRecord) : List Byte :=
  beBytes 4 c.number ++ codeByte c.state.code :: (beBytes 6 c.startTime.toNat ++
    (match c.endReason with
      | some r => codeByte r.code
      | none => Config.openEndReasonByte) ::
    (beBytes 4 c.slotCount ++ beBytes 2 (c.startOffset.getD 0) ++
      flagBits [c.noSyncStart, c.locked, c.lockPartial] ::
      (beBytes 4 c.gapCount ++ beBytes 4 c.damagedSlots ++ beBytes 4 (c.firstDamaged.getD lim32) ++
        beBytes 4 c.skippedRanges ++ beBytes 4 c.unlisted ++ codeByte c.ranges.length ::
        c.ranges.flatMap (fun r => beBytes 4 r.1 ++ beBytes 4 r.2))))

/-- FILL LENGTH of a trailer (R133, R180). -/
def trailerFill (c : ClipRecord) : Nat := 104 + 8 * c.ranges.length

/-! ### Replies and notices (R179) -/

/-- The values of a DONE result. -/
def answerBytes : Answer → List Byte
  | .plain => []
  | .clipNumber n => beBytes 4 n
  | .remaining n => beBytes 4 n
  | .index n => beBytes 1 n
  | .limit n => beBytes 2 n
  | .grade n => beBytes 1 n
  | .snapshot bs => bs

/-- The payload of a REPLY cell (R179). -/
def resultBytes : CommandResult → List Byte
  | .done a => 0 :: answerBytes a
  | .busy => [1]
  | .refused r => [2, codeByte r.code, codeByte r.field]

/-- CODE A, CODE B and NUMBER of a notice (R179). The table of TABLE TAKEN is its table code (DEDUCED, log entry 33). -/
def noticeParts : NoticeValue → Nat × Nat × Nat
  | .nothing => (0, 0, 0)
  | .number n => (0, 0, n)
  | .shock outcome clip => (outcome.code, 0, clip)
  | .card state => (state.code, 0, 0)
  | .charger state reason => (state.code, (match reason with | some r => r.code | none => 0), 0)
  | .die level => (level.code, 0, 0)
  | .table name => (name.code, 0, 0)

/-- The 15 bytes of a NOTICE payload (R179). -/
def noticePayload (n : Notice) : List Byte :=
  codeByte n.kind.code :: (beBytes 2 n.count ++ beBytes 6 n.time.toNat ++
    codeByte (noticeParts n.value).1 :: codeByte (noticeParts n.value).2.1 :: beBytes 4 (noticeParts n.value).2.2)

/-! ### Cells (R178) -/

/-- A cell: KIND, FLAGS, LENGTH, WORD, payload, check (R178). -/
def cellBytes (kind flags w4 w5 : Byte) (payload : List Byte) : List Byte :=
  withCheck (kind :: flags :: (beBytes 2 payload.length ++ w4 :: w5 :: payload))

/-- The bytes of an outbound cell (R178). -/
def outCellBytes : OutCell → List Byte
  | .picture (.line frame lineNumber band adjusted pixels) =>
    cellBytes 0x81 (flagByte adjusted) 0 0
      (beBytes 4 frame ++ beBytes 2 lineNumber ++ beBytes 1 band ++ pixels.flatMap (fun p => beBytes 2 p.toNat))
  | .picture (.frameEnd frame linesSent linesDropped short) =>
    cellBytes 0x82 (flagByte short) 0 0 (beBytes 4 frame ++ beBytes 2 linesSent ++ beBytes 2 linesDropped)
  | .reply r => cellBytes 0x83 0 r.tag r.code (resultBytes r.result)
  | .notice n => cellBytes 0x84 0 0 0 (noticePayload n)

/-! ### Query answers (R103, R175, R179) -/

/-- The fields of a MOTION table as a load carries them. -/
def motionFields (t : MotionTable) : List Byte :=
  beBytes 1 t.startAddress ++ beBytes 1 t.byteOrder.code ++ beBytes 1 t.yawSource.code ++
    beBytes 1 t.pitchSource.code ++ beBytes 2 t.rateScale ++ beBytes 1 t.leakShift ++ beBytes 1 t.lead ++
    beBytes 1 t.guardRatio ++ beBytes 2 t.period ++ beBytes 2 t.hold ++ beBytes 2 t.shockThreshold ++
    beBytes 1 t.shockCount ++ [flagByte t.autoTrigger]

/-- The fields of a LENS table as a load carries them. -/
def lensFields (t : LensTable) : List Byte :=
  beBytes 1 t.hShift ++ t.hPoints.flatMap (beBytes 2) ++ beBytes 1 t.vShift ++ t.vPoints.flatMap (beBytes 2)

/-- The fields of a WINDOW table as a load carries them. -/
def windowFields (t : WindowTable) : List Byte :=
  beBytes 2 t.win ++ beBytes 2 t.hin ++ beBytes 2 t.wout ++ beBytes 2 t.hout ++ beBytes 1 t.bands

/-- The fields of a RECORDER table as a load carries them. -/
def recorderFields (t : RecorderTable) : List Byte :=
  beBytes 2 t.prerollDepth ++ beBytes 2 t.clipSizeLimit ++ beBytes 2 t.drainTime ++ beBytes 2 t.busyTimeout ++
    beBytes 2 t.lowMark

/-- The fields of a PROFILE row. -/
def profileRowFields (r : ProfileRow) : List Byte :=
  beSigned 2 r.tLow ++ beSigned 2 r.tHigh ++ beBytes 2 r.current ++ beBytes 2 r.voltage

/-- The fields of a PROFILE table as a load carries them; the bytes of rows beyond ROW COUNT are a free value
(log entry 13). -/
def profileFields (t : ProfileTable) : List Byte :=
  beBytes 1 t.rows.length ++ t.rows.flatMap profileRowFields ++
    (List.range (48 - 8 * t.rows.length)).map (fun k => Config.unusedProfileByte (8 * t.rows.length + k)) ++
    beBytes 2 t.prechargeCurrent ++ beBytes 2 t.terminationCurrent ++ beBytes 1 t.prechargeTimer ++
    beBytes 2 t.fastTimer ++ beBytes 2 t.vLow ++ beBytes 2 t.vCrit ++ beBytes 2 t.vCut

/-- The active copy of a table as an optional value, then the pending flag (R175, R179). -/
def tableAnswer (s : State) : TableName → List Byte
  | .motion => 1 :: motionFields s.me.table ++ [flagByte s.me.pendingTable.isSome]
  | .lens => 1 :: lensFields s.wu.lens ++ [flagByte s.wu.pendingLens.isSome]
  | .window =>
    (match s.wu.window with
      | some t => 1 :: windowFields t
      | none => 0 :: List.replicate 9 0) ++ [flagByte s.wu.pendingWindow.isSome]
  | .recorder => 1 :: recorderFields s.clc.table ++ [0]
  | .profile => 1 :: profileFields s.chg.table ++ [flagByte s.chg.pendingTable.isSome]

/-- QUERY CLIP: the trailer contents, WRITTEN, DATA DONE and TRAILER POSITION (R179). -/
def clipAnswer (c : ClipRecord) : List Byte :=
  trailerContents c ++ beBytes 4 c.written ++ flagByte c.dataDone :: optBytes 4 c.trailerPosition

/-- The remaining space of an extent table (R96). -/
def remainingOf (es : List Extent) : Nat := (es.map (fun e => (e.count - e.used) / Config.slotBlocks)).sum

/-- The cursor of an extent table (R91). -/
def cursorOf (es : List Extent) : Option Nat := es.head?.map (fun e => e.first + e.used)

/-- QUERY EXTENTS (R103, R179). -/
def extentsAnswer (s : State) : List Byte :=
  beBytes 1 s.xm.extents.length ++
    s.xm.extents.flatMap (fun e => beBytes 4 e.first ++ beBytes 4 e.count ++ beBytes 4 e.used) ++
    optBytes 4 (cursorOf s.xm.extents) ++ beBytes 4 (remainingOf s.xm.extents) ++ beBytes 2 s.clc.table.lowMark

/-- One place of QUERY PROTECT: ORIGIN, FIRST, COUNT and CLIP NUMBER as an optional value (R103, R179; DEDUCED, log
entry 16). -/
def protectPlaceBytes : Option ProtectRange → List Byte
  | none => List.replicate 18 0
  | some r => (match r.origin with | .loaded => 1 | .lock => 2) ::
      (beBytes 4 r.first ++ beBytes 8 r.count ++ optBytes 4 r.clip)

/-- QUERY PROTECT (R103, R179). -/
def protectAnswer (s : State) : List Byte := s.xm.protect.flatMap protectPlaceBytes

/-- QUERY COUNTERS (R175). -/
def countersAnswer (s : State) : List Byte := s.lp.counters.all.flatMap (beBytes 2)

/-- How many slots the table lists in a state (R70). -/
def slotsIn (slots : List (Nat × SlotRecord)) (st : SlotState) : Nat :=
  (slots.filter (fun p => decide (p.2.state = st))).length

/-- The latest sweep readings, or NONE (R141, R175): seven readings in the order of R141, T_bat optional. -/
def readingsBytes : Option Readings → List Byte
  | some r => 1 :: (beSigned 2 r.vIn ++ beSigned 2 r.iIn ++ beSigned 2 r.vBat ++ beSigned 2 r.iBat ++
      beSigned 2 r.iSys ++ optSigned 2 r.tBat ++ beSigned 2 r.tDie)
  | none => 0 :: List.replicate 15 0

/-- QUERY STATUS, item by item in the order of R175 (R179; which items are optional is DEDUCED, log entry 15). -/
def statusAnswer (s : State) : List Byte :=
  [codeByte s.clc.mode.code, flagByte s.clc.drain.isSome] ++ optBytes 1 (s.clc.powerClose.map PowerReason.code) ++
  [codeByte s.me.motion.code] ++
  beBytes 2 (Config.slotCount - s.sb.slots.length) ++ beBytes 2 (slotsIn s.sb.slots .filling) ++
  beBytes 2 (slotsIn s.sb.slots .preroll) ++ beBytes 2 (slotsIn s.sb.slots .queued) ++
  beBytes 2 (slotsIn s.sb.slots .writing) ++ beBytes 2 s.sb.ring.length ++ beBytes 2 s.sb.queue.length ++
  [codeByte s.cp.card.code] ++ optBytes 4 s.cp.capacity ++ optBytes 1 (s.cp.maxGrade.map Grade.code) ++
  optBytes 1 (s.cp.gradeInUse.map Grade.code) ++ beBytes 1 s.cp.setGrade ++ [codeByte s.cp.writer.code] ++
  optBytes 1 (match s.cp.writer with | .suspended r => some r.code | _ => none) ++
  [codeByte s.chg.state.code] ++ optBytes 1 (s.chg.reason.map ChargeReason.code) ++
  [flagByte s.chg.switchClosed] ++ beBytes 2 s.chg.target ++ beBytes 2 s.chg.inputLimit ++
  beBytes 4 s.chg.prechargeCount ++ beBytes 4 s.chg.fastCount ++ beBytes 1 s.chg.terminationCount ++
  [codeByte s.smn.battery.code, codeByte s.smn.die.code, codeByte s.smn.standby.code] ++
  optBytes 1 (s.smn.reason.map StandbyReason.code) ++ readingsBytes s.smn.readings ++
  beBytes 6 s.smn.partTime.toNat ++ optBytes 2 (s.lp.expectedSequence.map BitVec.toNat)

end Sys2Proof.Machine
end

