-- ==== Sys2Proof/Decode.lean ====
section
/-!
DEFINITION. From words and cells to commands. No row of spec/opcode_table.json gives bits, so no word spells a command.
An inbound cell of the processor link (R168, R178, R179) does spell one: `decodeCell` reads it and `encodeCell` writes
it (log entry 28).
-/
namespace Sys2Proof

/-- The command a word spells by the table's bits: the table gives no row any bits. -/
def decodeTableWord (_nbits _w : Nat) : Option Instr := none

/-! ### Inbound cells (R168, R178, R179) -/

/-- LOAD TABLE by its TABLE byte (R171, R179). -/
def decodeLoad (tag : Byte) (params : List Byte) : Instr :=
  match params with
  | [] => .unknownCommand tag 0x01 []
  | b :: fields =>
    match Machine.TableName.ofCode b.toNat with
    | some .motion => .loadTableMotion tag fields
    | some .lens => .loadTableLens tag fields
    | some .window => .loadTableWindow tag fields
    | some .recorder => .loadTableRecorder tag fields
    | some .profile => .loadTableProfile tag fields
    | none => .unknownCommand tag 0x01 params

/-- QUERY by its SUBJECT byte (R175, R179). -/
def decodeQuery (tag : Byte) (params : List Byte) : Instr :=
  match params with
  | [] => .unknownCommand tag 0x11 []
  | b :: argument =>
    match b.toNat with
    | 0 => .queryStatus tag argument
    | 1 => .queryClip tag argument
    | 2 => .queryExtents tag argument
    | 3 => .queryProtect tag argument
    | 4 => .queryCounters tag argument
    | 5 => .queryTable tag argument
    | _ => .unknownCommand tag 0x11 params

/-- A CONTROL cell's command, by its COMMAND CODE (R179). -/
def decodeCommand (tag code : Byte) (params : List Byte) : Instr :=
  match code.toNat with
  | 0x01 => decodeLoad tag params
  | 0x02 => .appendExtent tag params
  | 0x03 => .clearExtents tag params
  | 0x04 => .addProtect tag params
  | 0x05 => .removeProtect tag params
  | 0x06 => .arm tag params
  | 0x07 => .disarm tag params
  | 0x08 => .startRecord tag params
  | 0x09 => .stopRecord tag params
  | 0x0A => .abortClip tag params
  | 0x0B => .setInputLimit tag params
  | 0x0C => .setCardGrade tag params
  | 0x0D => .chargeReset tag params
  | 0x0E => .setTime tag params
  | 0x0F => .standby tag params
  | 0x10 => .wake tag params
  | 0x11 => decodeQuery tag params
  | 0x12 => .clearCounters tag params
  | 0x13 => .restart tag params
  | _ => .unknownCommand tag code params

/-- A cell whose check holds: the tests 2 to 4 of R168. -/
def decodeGood (kind flags w4 w5 : Byte) (payload : List Byte) : Instr :=
  if kind = 0x01 then
    if 1 ≤ payload.length ∧ payload.length ≤ 4096 then .clipCell flags (w4 ++ w5) payload else .cellBadCheck
  else if kind = 0x02 then decodeCommand w4 w5 payload
  else .cellBadCheck

/-- The command an inbound cell brings; none where the bytes are not one whole cell (R168, R178). -/
def decodeCell (bytes : List Byte) : Option Instr :=
  match bytes with
  | kind :: flags :: l2 :: l3 :: w4 :: w5 :: rest =>
    let n := Machine.beNat [l2, l3]
    if rest.length = n + 2 then
      let payload := rest.take n
      if Machine.cellBytes kind flags w4 w5 payload = bytes then some (decodeGood kind flags w4 w5 payload)
      else some .cellBadCheck
    else none
  | _ => none

/-- A CONTROL cell (R178). -/
def controlCell (tag code : Byte) (params : List Byte) : Option (List Byte) :=
  some (Machine.cellBytes 0x02 0 tag code params)

/-- The inbound cell of a command of the processor link; none for an event that no cell brings (R178, R179). -/
def encodeCell : Instr → Option (List Byte)
  | .clipCell flags sequence payload =>
    some (Machine.cellBytes 0x01 flags (sequence.extractLsb' 8 8) (sequence.extractLsb' 0 8) payload)
  | .unknownCommand tag code params => controlCell tag code params
  | .loadTableMotion tag fields => controlCell tag 0x01 (1 :: fields)
  | .loadTableLens tag fields => controlCell tag 0x01 (2 :: fields)
  | .loadTableWindow tag fields => controlCell tag 0x01 (3 :: fields)
  | .loadTableRecorder tag fields => controlCell tag 0x01 (4 :: fields)
  | .loadTableProfile tag fields => controlCell tag 0x01 (5 :: fields)
  | .appendExtent tag params => controlCell tag 0x02 params
  | .clearExtents tag params => controlCell tag 0x03 params
  | .addProtect tag params => controlCell tag 0x04 params
  | .removeProtect tag params => controlCell tag 0x05 params
  | .arm tag params => controlCell tag 0x06 params
  | .disarm tag params => controlCell tag 0x07 params
  | .startRecord tag params => controlCell tag 0x08 params
  | .stopRecord tag params => controlCell tag 0x09 params
  | .abortClip tag params => controlCell tag 0x0A params
  | .setInputLimit tag params => controlCell tag 0x0B params
  | .setCardGrade tag params => controlCell tag 0x0C params
  | .chargeReset tag params => controlCell tag 0x0D params
  | .setTime tag params => controlCell tag 0x0E params
  | .standby tag params => controlCell tag 0x0F params
  | .wake tag params => controlCell tag 0x10 params
  | .queryStatus tag argument => controlCell tag 0x11 (0 :: argument)
  | .queryClip tag argument => controlCell tag 0x11 (1 :: argument)
  | .queryExtents tag argument => controlCell tag 0x11 (2 :: argument)
  | .queryProtect tag argument => controlCell tag 0x11 (3 :: argument)
  | .queryCounters tag argument => controlCell tag 0x11 (4 :: argument)
  | .queryTable tag argument => controlCell tag 0x11 (5 :: argument)
  | .clearCounters tag params => controlCell tag 0x12 params
  | .restart tag params => controlCell tag 0x13 params
  | .powerOn _ => none
  | .dataReady => none
  | .sampleArrival _ => none
  | .gapExpiry => none
  | .frameStart => none
  | .line _ _ => none
  | .frameEnd => none
  | .cellBadCheck => none
  | .drainTimeout => none
  | .cellSent => none
  | .detectLineChange => none
  | .detectAsserted => none
  | .detectReleased => none
  | .resetWaitExpiry => none
  | .identifyAnswer _ => none
  | .identifyTimeout => none
  | .setGradeAnswer _ => none
  | .setGradeTimeout => none
  | .slotWriteStart _ => none
  | .blockAnswer _ _ => none
  | .blockAnswerTimeout => none
  | .busyTimerExpiry => none
  | .readyReport _ => none
  | .stopTimeout => none
  | .sweep _ => none
  | .qualifyEnd _ => none
  | .terminationCountReached _ => none
  | .safetyTimerExpiry _ => none
  | .criticalCountReached _ => none
  | .wakeTimerExpiry => none

end Sys2Proof
end

