-- ==== Sys2Proof/Machine/Memory.lean ====
section
/-!
DEFINITION. The stacked DRAM as a list of (address, byte) pairs in one canonical form: addresses strictly rising and
inside the 1,024 slots. A byte that is not listed has no value (R88; log entry 8).
-/
namespace Sys2Proof.Machine

/-- Addresses of the stacked DRAM (R70): 1,024 slots of 65,536 bytes. -/
def dramSize : Nat := Config.slotCount * Config.slotBytes

/-- The byte at an address, absent where nothing has been written. -/
def Memory.read (m : List Host.Cell) (a : Nat) : Option Byte := m.lookup a

/-- The cells of bytes laid out from an address. -/
def Memory.cellsAt : Nat → List Byte → List Host.Cell
  | _, [] => []
  | a, b :: bs => (a, b) :: Memory.cellsAt (a + 1) bs

/-- Forget the n bytes from address a. -/
def Memory.erase (m : List Host.Cell) (a n : Nat) : List Host.Cell :=
  m.filter (fun c => decide (c.1 < a ∨ a + n ≤ c.1))

/-- Write bytes from address a on. -/
def Memory.write (m : List Host.Cell) (a : Nat) (bs : List Byte) : List Host.Cell :=
  m.filter (fun c => decide (c.1 < a)) ++ (Memory.cellsAt a bs ++ m.filter (fun c => decide (a + bs.length ≤ c.1)))

/-- The canonical form: addresses strictly rising, each inside the DRAM. -/
def Memory.wf (m : List Host.Cell) : Bool :=
  decide (m.Pairwise (fun x y => x.1 < y.1)) && m.all (fun c => decide (c.1 < dramSize))

/-- The address of a byte of a slot (R70). -/
def slotAddress (slot offset : Nat) : Nat := slot * Config.slotBytes + offset

end Sys2Proof.Machine
end

