-- ==== Sys2Proof/Machine/Ops.lean ====
section
/-!
DEFINITION. The named operations every family uses: part time and its deadlines, the outbound arbiter, the frame of a
command, the slot table and the stacked DRAM, and the clip record table.
-/
namespace Sys2Proof.Machine

/-! ### Time (R141, R176; log entries 1 and 2) -/

/-- The interval left until a deadline, 0 when the deadline has passed. Part time is 48 bits and every interval of the
part is far below half of its range, so a difference in the upper half is a deadline in the past. -/
def timeLeft (now deadline : Time) : Nat :=
  let d := (deadline - now).toNat
  if d < 2 ^ 47 then d else 0

/-- A deadline an interval later (R5, R106, R128, R166). -/
def State.deadlineIn (s : State) (us : Nat) : Time := s.smn.partTime + BitVec.ofNat 48 us

/-- Some microseconds pass: part time counts on, 2^48 − 1 being followed by 0, and the sweep period runs (R141, R176). -/
def State.advance (s : State) (us : Nat) : State :=
  { s with smn := { s.smn with
      partTime := s.smn.partTime + BitVec.ofNat 48 us
      sweepLeft := s.smn.sweepLeft - us } }

/-- An expiry is the moment part time reaches the deadline (log entry 1). -/
def State.reach (s : State) (deadline : Time) : State := s.advance (timeLeft s.smn.partTime deadline)

/-! ### Changing one block -/

/-- Change the Motion Engine. -/
def State.setMotion (s : State) (f : MotionEngine → MotionEngine) : State := { s with me := f s.me }

/-- Change the Window Unit. -/
def State.setWindowUnit (s : State) (f : WindowUnit → WindowUnit) : State := { s with wu := f s.wu }

/-- Change the Sensor Port. -/
def State.setPort (s : State) (f : SensorPort → SensorPort) : State := { s with sp := f s.sp }

/-- Change the Link Port. -/
def State.setLink (s : State) (f : LinkPort → LinkPort) : State := { s with lp := f s.lp }

/-- Change the Slot Buffer. -/
def State.setBuffer (s : State) (f : SlotBuffer → SlotBuffer) : State := { s with sb := f s.sb }

/-- Change the Extent Map. -/
def State.setMap (s : State) (f : ExtentMap → ExtentMap) : State := { s with xm := f s.xm }

/-- Change the Card Port. -/
def State.setCard (s : State) (f : CardPort → CardPort) : State := { s with cp := f s.cp }

/-- Change the Clip Controller. -/
def State.setRecorder (s : State) (f : ClipController → ClipController) : State := { s with clc := f s.clc }

/-- Change the Charge Controller. -/
def State.setCharge (s : State) (f : ChargeController → ChargeController) : State := { s with chg := f s.chg }

/-- Change the Supply Monitor. -/
def State.setSupply (s : State) (f : SupplyMonitor → SupplyMonitor) : State := { s with smn := f s.smn }

/-! ### The outbound link (R174) -/

/-- The arbiter's choice whenever the link is free: the head of the line queue, else the oldest reply, else the head
of the notice queue (R174; log entry 4). -/
def LinkPort.arbitrate (l : LinkPort) : LinkPort :=
  match l.sending with
  | some _ => l
  | none =>
    match l.lines with
    | c :: rest => { l with lines := rest, sending := some (.picture c) }
    | [] =>
      match l.replies with
      | r :: rest => { l with replies := rest, sending := some (.reply r) }
      | [] =>
        match l.notices with
        | n :: rest => { l with notices := rest, sending := some (.notice n) }
        | [] => l

/-- What the processor's side of the link does at the end of a command. -/
def State.arbitrate (s : State) : State := { s with lp := s.lp.arbitrate }

/-- The outcome of a command's effect: a part with supply takes it, and the arbiter takes a cell if the link is free;
a dark part takes nothing (R160, log entry 7). -/
def State.take (s : State) (effect : State → State) : Host.Outcome State Fault Refusal :=
  .next (if s.powered then (effect s).arbitrate else s)

/-! ### Commands and replies (R170, R172) -/

/-- A reply joins the tail of the reply queue (R170). -/
def State.reply (s : State) (tag code : Byte) (result : CommandResult) : State :=
  s.setLink (fun l => { l with replies := l.replies ++ [⟨tag, code, result⟩] })

/-- The frame of every CONTROL cell: with 8 replies waiting it is discarded and counted (R172); then the length test
and the WAKING test of R170, orders 2 and 3; then the owning block executes it and its result is the reply. -/
def State.control (s : State) (tag code : Byte) (lengthOk query : Bool) (body : State → State × CommandResult) :
    State :=
  if 8 ≤ s.lp.replies.length then s.count .controlCellsLost
  else if !lengthOk then s.reply tag code (.refused .badLength)
  else if decide (s.smn.standby = .waking) && !query then s.reply tag code .busy
  else (body s).1.reply tag code (body s).2

/-- A result that leaves every block as it was. -/
def State.answered (s : State) (r : CommandResult) : State × CommandResult := (s, r)

/-- The part is in standby: STANDBY, or WAKING, in which no command but QUERY reaches a block (R166). -/
def State.inStandby (s : State) : Bool := decide (s.smn.standby ≠ .active)

/-! ### The slot table and the stacked DRAM (R70) -/

/-- The record of a slot; a slot the table does not list is FREE. -/
def SlotBuffer.slot (b : SlotBuffer) (n : Nat) : SlotRecord := (b.slots.lookup n).getD SlotRecord.free

/-- Set the record of a slot in a table ordered by slot number. -/
def setEntry (n : Nat) (r : SlotRecord) : List (Nat × SlotRecord) → List (Nat × SlotRecord)
  | [] => [(n, r)]
  | (m, q) :: rest =>
    if n < m then (n, r) :: (m, q) :: rest
    else if n = m then (n, r) :: rest
    else (m, q) :: setEntry n r rest

/-- Set the record of a slot that is not FREE. -/
def State.setSlot (s : State) (n : Nat) (r : SlotRecord) : State :=
  s.setBuffer (fun b => { b with slots := setEntry n r b.slots })

/-- Slots become FREE, their records reset (R70). -/
def State.freeSlots (s : State) (ns : List Nat) : State :=
  s.setBuffer (fun b => { b with slots := b.slots.filter (fun p => !ns.contains p.1) })

/-- The first of k numbers from n on that has a property. -/
def firstFrom (p : Nat → Bool) : Nat → Nat → Option Nat
  | 0, _ => none
  | k + 1, n => if p n then some n else firstFrom p k (n + 1)

/-- The lowest-numbered FREE slot (R73, R132). -/
def SlotBuffer.lowestFree (b : SlotBuffer) : Option Nat :=
  firstFrom (fun n => (b.slots.lookup n).isNone) Config.slotCount 0

/-- Write bytes of a slot from an offset on; a write never leaves the slot (R71). -/
def State.writeSlot (s : State) (n offset : Nat) (bs : List Byte) : State :=
  if n < Config.slotCount ∧ offset + bs.length ≤ Config.slotBytes then
    s.setBuffer (fun b => { b with mem := Memory.write b.mem (slotAddress n offset) bs })
  else s

/-- The 512 bytes of block k of a slot, as they were written, which the Card Port reads for WRITE BLOCKS (R112). The card
receives an uncorrectable word as it was read (R87), and no rule says what it then holds: the model gives the bytes as
written for such a word too (DESIGN CHOICE, log entry 40). -/
def SlotBuffer.blockBytes (b : SlotBuffer) (n k : Nat) : List (Option Byte) :=
  (List.range 512).map (fun i => Memory.read b.mem (slotAddress n (512 * k + i)))

/-! ### The clip record table (R122) -/

/-- The record held for a clip number (R122). -/
def ClipController.clip (c : ClipController) (n : Nat) : Option ClipRecord := c.clips.find? (fun r => r.number == n)

/-- Change the record held for a clip number. -/
def State.modifyClip (s : State) (n : Nat) (f : ClipRecord → ClipRecord) : State :=
  s.setRecorder (fun c => { c with clips := c.clips.map (fun r => if r.number = n then f r else r) })

/-- The OPEN clip (R121). -/
def ClipController.openClip (c : ClipController) : Option ClipRecord :=
  c.clips.find? (fun r => decide (r.state = .opened))

/-- The clip that receives records: the OPEN clip while RECORDING, the draining clip while IDLE (R121). -/
def ClipController.receiving (c : ClipController) : Option Nat :=
  match c.mode with
  | .armed => none
  | .recording => c.openClip.map (·.number)
  | .idle => c.drain.map (·.clip)

/-- Raise the gap count of the receiving clip, if there is one (R121, R169). -/
def State.addGap (s : State) (n : Nat) : State :=
  match s.clc.receiving with
  | some k => s.modifyClip k (fun r => { r with gapCount := raise lim32 r.gapCount n })
  | none => s

/-- A clip can open: a number is left, and a record is free or can be removed (R123). -/
def ClipController.recordFree (c : ClipController) : Bool :=
  decide (c.clips.length < 4) || c.clips.any (fun r => decide (r.state = .closed ∨ r.state = .aborted))

/-- Remove the record of the lowest-numbered CLOSED or ABORTED clip (R123); the table is in clip-number order. -/
def dropOldest (clips : List ClipRecord) : List ClipRecord :=
  clips.eraseP (fun r => decide (r.state = .closed ∨ r.state = .aborted))

/-- The number after n, or EXHAUSTED after the last (R123). -/
def numberAfter (n : Nat) : Option Nat := if n < lim32 then some (n + 1) else none

/-- Open a clip with the next clip number (R123): remove a record if four are held, add the new OPEN record. -/
def State.addClip (s : State) (locked : Bool) : State :=
  match s.clc.nextClip with
  | some n =>
    s.setRecorder (fun c => { c with
      clips := (if 4 ≤ c.clips.length then dropOldest c.clips else c.clips) ++
        [ClipRecord.fresh n s.smn.partTime locked]
      nextClip := numberAfter n })
  | none => s

end Sys2Proof.Machine
end

