-- ==== Sys2Proof/Machine/Extents.lean ====
section
/-!
DEFINITION. The Extent Map (chapter 6): positions, remaining space, the protect table, the LOCK ranges of chapter 4,
and the commands APPEND EXTENT, CLEAR EXTENTS, ADD PROTECT and REMOVE PROTECT.
-/
namespace Sys2Proof.Machine

/-- Two runs of blocks have a block in common (chapter 6). -/
def overlaps (f n g m : Nat) : Bool := decide (max f g < min (f + n) (g + m))

/-- A run overlaps an extent, its used part included (R92). -/
def Extent.meets (e : Extent) (f n : Nat) : Bool := overlaps f n e.first e.count

/-- A run overlaps the unused part of an extent (R91, R100). -/
def Extent.unusedMeets (e : Extent) (f n : Nat) : Bool := overlaps f n (e.first + e.used) (e.count - e.used)

/-- A run overlaps a range of the protect table, of either origin (R92, R100). -/
def ExtentMap.protectMeets (x : ExtentMap) (f n : Nat) : Bool :=
  x.protect.any (fun p => p.any (fun r => overlaps f n r.first r.count))

/-- A run overlaps the unused part of any extent (R100, R102). -/
def ExtentMap.unusedMeets (x : ExtentMap) (f n : Nat) : Bool := x.extents.any (fun e => e.unusedMeets f n)

/-- The lowest index whose place is empty (R99). -/
def ExtentMap.emptyPlace (x : ExtentMap) : Option Nat := x.protect.findIdx? Option.isNone

/-- Put a range into a place of the protect table, or empty the place. -/
def State.setPlace (s : State) (i : Nat) (r : Option ProtectRange) : State :=
  s.setMap (fun x => { x with protect := x.protect.set i r })

/-- Change the extent table. EXTENT LOW is posted when that lowers the remaining space from at or above the low mark to
below it (R96). -/
def State.setExtents (s : State) (es : List Extent) : State :=
  let s' := s.setMap (fun x => { x with extents := es })
  if s.clc.table.lowMark ≤ remainingOf s.xm.extents ∧ remainingOf es < s.clc.table.lowMark then
    s'.post .extentLow (.number (remainingOf es))
  else s'

/-- The table after the position at the cursor is consumed: the head's USED rises by 128, and a head that is used up
is removed (R94). -/
def consumeHead : List Extent → List Extent
  | [] => []
  | e :: rest =>
    if e.used + Config.slotBlocks < e.count then { e with used := e.used + Config.slotBlocks } :: rest else rest

/-- The Card Port's report that consumes a position (R94). -/
def State.consume (s : State) : State := s.setExtents (consumeHead s.xm.extents)

/-! ### LOCK ranges (R65 to R67, R102) -/

/-- Mark a clip LOCK PARTIAL, posting the notice the first time (R66). -/
def State.lockPartial (s : State) (clip : Nat) : State :=
  match s.clc.clip clip with
  | some r =>
    if r.lockPartial then s
    else (s.modifyClip clip (fun q => { q with lockPartial := true })).post .lockPartial (.number clip)
  | none => s

/-- Add a LOCK range for a clip, or mark the clip LOCK PARTIAL: the range is not added when it overlaps a protect range
or the unused part of an extent, or when all places are taken (R66, R102). -/
def State.addLock (s : State) (clip f n : Nat) : State :=
  if s.xm.protectMeets f n || s.xm.unusedMeets f n then s.lockPartial clip
  else
    match s.xm.emptyPlace with
    | some i => s.setPlace i (some ⟨f, n, .lock, some clip⟩)
    | none => s.lockPartial clip

/-- A place holds a LOCK range of the clip. -/
def isLockOf (clip : Nat) (r : ProtectRange) : Bool := decide (r.origin = .lock ∧ r.clip = some clip)

/-- The place of a LOCK range of the clip that ends at block f. -/
def ExtentMap.lockEndingAt (x : ExtentMap) (clip f : Nat) : Option Nat :=
  x.protect.findIdx? (fun p => p.any (fun r => isLockOf clip r && decide (r.first + r.count = f)))

/-- The place of a LOCK range of the clip that begins at block f. -/
def ExtentMap.lockBeginningAt (x : ExtentMap) (clip f : Nat) : Option Nat :=
  x.protect.findIdx? (fun p => p.any (fun r => isLockOf clip r && decide (r.first = f)))

/-- Replace the range at a place by a changed one. -/
def State.changePlace (s : State) (i : Nat) (f : ProtectRange → ProtectRange) : State :=
  s.setMap (fun x => { x with protect := x.protect.modify i (Option.map f) })

/-- The count of the range at a place. -/
def ExtentMap.countAt (x : ExtentMap) (i : Nat) : Nat :=
  match x.protect[i]? with
  | some (some r) => r.count
  | _ => 0

/-- The protect table is brought up to date with a write of a LOCKED clip at f (R67): the four cases of its table. -/
def State.updateLock (s : State) (clip f : Nat) : State :=
  match s.xm.lockEndingAt clip f, s.xm.lockBeginningAt clip (f + Config.slotBlocks) with
  | some i, some j =>
    (s.changePlace i (fun r => { r with count := r.count + (Config.slotBlocks + s.xm.countAt j) })).setPlace j none
  | some i, none => s.changePlace i (fun r => { r with count := r.count + Config.slotBlocks })
  | none, some j => s.changePlace j (fun r => { r with first := f, count := r.count + Config.slotBlocks })
  | none, none => s.addLock clip f Config.slotBlocks

/-- Add every range of a list as LOCK ranges, in list order (R65). -/
def State.addLocks (s : State) (clip : Nat) : List (Nat × Nat) → State
  | [] => s
  | r :: rest => (s.addLock clip r.1 r.2).addLocks clip rest

/-! ### Commands -/

/-- A card is attached in the sense of R92, test 3. -/
def CardPort.attached (c : CardPort) : Bool :=
  decide (c.card = .ready ∨ c.card = .writing ∨ c.card = .settling)

/-- A slot write is in flight (R97, R163): the writer is MAPPING, SENDING or SETTLING. -/
def CardPort.writing (c : CardPort) : Bool :=
  decide (c.writer = .mapping ∨ c.writer = .sending ∨ c.writer = .settling)

/-- The first refusal of an APPEND EXTENT that applies, in the order of R92. -/
def State.appendRefusal (s : State) (f n : Nat) : Option RefusalReason :=
  if 64 ≤ s.xm.extents.length then some .noRoom
  else if s.inStandby then some .standby
  else if !s.cp.attached then some .noCard
  else if n = 0 ∨ n % Config.slotBlocks ≠ 0 then some .badRange
  else if s.cp.capacity.getD 0 < f + n then some .badRange
  else if s.xm.extents.any (fun e => e.meets f n) || s.xm.protectMeets f n then some .overlap
  else none

/-- An APPEND that makes the table non-empty ends a suspension for NO EXTENT (R118). -/
def State.endNoExtent (s : State) : State :=
  if s.cp.writer = .suspended .noExtent then s.setCard (fun c => { c with writer := .idle }) else s

/-- APPEND EXTENT (R92, R96, R118). -/
def State.append (s : State) (f n : Nat) : State × CommandResult :=
  match s.appendRefusal f n with
  | some r => s.answered (.refused r)
  | none =>
    let t := s.setExtents (s.xm.extents ++ [⟨f, n, 0⟩])
    (if s.xm.extents.isEmpty then t.endNoExtent else t, .done (.remaining (remainingOf t.xm.extents)))

/-- CLEAR EXTENTS (R97). -/
def State.clearExtents (s : State) : State × CommandResult :=
  if s.cp.writing then s.answered .busy else (s.setExtents [], .done .plain)

/-- ADD PROTECT (R100). -/
def State.addProtect (s : State) (f n : Nat) : State × CommandResult :=
  if n = 0 ∨ 4294967296 < f + n then s.answered (.refused .badRange)
  else
    match s.xm.emptyPlace with
    | none => s.answered (.refused .noRoom)
    | some i =>
      if s.xm.unusedMeets f n || s.xm.protectMeets f n then s.answered (.refused .overlap)
      else (s.setPlace i (some ⟨f, n, .loaded, none⟩), .done (.index i))

/-- REMOVE PROTECT of a LOCK range of a clip (R68). -/
def State.removeLock (s : State) (i clip : Nat) : State × CommandResult :=
  match s.clc.clip clip with
  | some r =>
    if r.state = .opened ∨ r.state = .closing then s.answered .busy
    else ((s.setPlace i none).modifyClip clip (fun q => { q with locked := false }), .done .plain)
  | none => (s.setPlace i none, .done .plain)

/-- REMOVE PROTECT (R101, R68). -/
def State.removeProtect (s : State) (i : Nat) : State × CommandResult :=
  match s.xm.protect[i]? with
  | some (some r) =>
    match r.origin, r.clip with
    | .lock, some clip => s.removeLock i clip
    | _, _ => (s.setPlace i none, .done .plain)
  | _ => s.answered (.refused .badRange)

/-- APPEND EXTENT, code 0x02: FIRST (4), COUNT (4) (R92, R179). -/
def execAppendExtent (tag : Byte) (params : List Byte) (s : State) : Host.Outcome State Fault Refusal :=
  s.take (fun t => t.control tag 0x02 (decide (params.length = 8)) false
    (fun u => u.append (beNat (params.take 4)) (beNat (params.drop 4))))

/-- CLEAR EXTENTS, code 0x03 (R97, R179). -/
def execClearExtents (tag : Byte) (params : List Byte) (s : State) : Host.Outcome State Fault Refusal :=
  s.take (fun t => t.control tag 0x03 (decide (params.length = 0)) false State.clearExtents)

/-- ADD PROTECT, code 0x04: FIRST (4), COUNT (8) (R100, R179). -/
def execAddProtect (tag : Byte) (params : List Byte) (s : State) : Host.Outcome State Fault Refusal :=
  s.take (fun t => t.control tag 0x04 (decide (params.length = 12)) false
    (fun u => u.addProtect (beNat (params.take 4)) (beNat (params.drop 4))))

/-- REMOVE PROTECT, code 0x05: INDEX (1) (R101, R179). -/
def execRemoveProtect (tag : Byte) (params : List Byte) (s : State) : Host.Outcome State Fault Refusal :=
  s.take (fun t => t.control tag 0x05 (decide (params.length = 1)) false
    (fun u => u.removeProtect (beNat params)))

end Sys2Proof.Machine
end

