-- ==== Sys2Proof/Machine/Slots.lean ====
section
/-!
DEFINITION. The Slot Buffer (chapter 5): packing, closing and stamping, the pre-roll ring, the write queue, overrun and
the motion queue, with the trailer and the forced split of chapter 8, which act inside a slot's closing and freeing.
-/
namespace Sys2Proof.Machine

/-! ### Trailers (R132, R133) -/

/-- The clip whose trailer is due: the lowest-numbered CLOSING clip, if its data is all written (R132). -/
def ClipController.trailerDue (c : ClipController) : Option ClipRecord :=
  match c.clips.find? (fun r => decide (r.state = .closing)) with
  | some r => if r.dataDone && decide (r.written = r.slotCount) && !r.trailerFormed then some r else none
  | none => none

/-- The slot record of a clip's trailer (R133). -/
def trailerRecord (c : ClipRecord) (now : Time) : SlotRecord :=
  { SlotRecord.free with
    state := .queued, clip := some c.number, sequence := some c.slotCount, fill := trailerFill c,
    firstTime := some now, lastTime := some now, trailer := true }

/-- The bytes of a trailer from offset 64 to the slot's end (R133, R180). -/
def trailerBody (c : ClipRecord) : List Byte :=
  trailerContents c ++ List.replicate (Config.slotBytes - 64 - (trailerContents c).length) 0

/-- Power the quarter of a slot (R89). -/
def State.powerQuarter (s : State) (n : Nat) : State :=
  s.setBuffer (fun b => { b with quarters := b.quarters.set (n / Config.quarterSlots) true })

/-- Form a clip's trailer in a claimed slot: its contents, its stamp, and its place at the head of the write queue
(R77, R132, R133). -/
def State.formTrailer (s : State) (c : ClipRecord) (n : Nat) : State :=
  (((((s.powerQuarter n).setSlot n (trailerRecord c s.smn.partTime)).writeSlot n 0
    (slotHeader (trailerRecord c s.smn.partTime))).writeSlot n 64 (trailerBody c)).modifyClip c.number
      (fun r => { r with trailerFormed := true })).setBuffer (fun b => { b with queue := n :: b.queue })

/-- The trailer test where no write has just completed: a due trailer is formed in the lowest-numbered FREE slot, or
stays due (R132). -/
def State.trailerTest (s : State) : State :=
  match s.clc.trailerDue, s.sb.lowestFree with
  | some c, some n => s.formTrailer c n
  | _, _ => s

/-- Slots become FREE, and a due trailer claims one of them (R70, R132). -/
def State.release (s : State) (ns : List Nat) : State := (s.freeSlots ns).trailerTest

/-! ### Closing and stamping (R74 to R76, R78, R82) -/

/-- What finishes a slot that leaves FILLING: a PAD record over the rest if 8 or more bytes remain, else zero bytes
(R74). -/
def padBytes (fill : Nat) (now : Time) : List Byte :=
  if fill + 8 ≤ Config.slotBytes then
    recordBytes .pad 0 now (List.replicate (Config.slotBytes - fill - 8) 0)
  else List.replicate (Config.slotBytes - fill) 0

/-- Finish a slot with PAD (R74). -/
def State.padSlot (s : State) (n : Nat) : State :=
  s.writeSlot n (s.sb.slot n).fill (padBytes (s.sb.slot n).fill s.smn.partTime)

/-- A clip's record after one more of its slots is stamped: SLOT COUNT rises, and the first slot settles the start
(R75, R81, R82). -/
def ClipRecord.stamped (r : ClipRecord) (firstSync : Option Nat) : ClipRecord :=
  let r' := { r with slotCount := raise lim32 r.slotCount 1 }
  if r.slotCount = 0 ∧ r.startOffset = none then
    match firstSync with
    | some o => { r' with startOffset := some o }
    | none => { r' with startOffset := some 64, noSyncStart := true }
  else r'

/-- Stamp a slot for a clip and put it at the tail of the write queue (R76, R77). -/
def State.stampSlot (s : State) (n clip : Nat) (final : Bool) : State :=
  let r := { s.sb.slot n with
    state := .queued, clip := some clip, final := final
    sequence := some ((s.clc.clip clip).elim 0 (·.slotCount)) }
  (((s.setSlot n r).writeSlot n 0 (slotHeader r)).modifyClip clip
    (fun c => c.stamped (s.sb.slot n).firstSync)).setBuffer (fun b => { b with queue := b.queue ++ [n] })

/-- R130: a slot close that raises the OPEN clip's SLOT COUNT to the CLIP SIZE LIMIT or past it sets split due. -/
def State.sizeTest (s : State) (clip : Nat) : State :=
  match s.clc.clip clip with
  | some r =>
    if r.state = .opened ∧ s.clc.table.clipSizeLimit ≤ r.slotCount then
      s.setRecorder (fun c => { c with splitDue := true })
    else s
  | none => s

/-- The oldest member of the ring leaves it and becomes FREE (R78, R79). -/
def State.dropMember (s : State) : State :=
  match s.sb.ring with
  | o :: rest => (s.setBuffer (fun b => { b with ring := rest })).release [o]
  | [] => s

/-- A slot becomes PREROLL and the ring's newest member (R78, step 2). -/
def State.enterRing (s : State) (n : Nat) : State :=
  (s.setSlot n { s.sb.slot n with state := .preroll }).setBuffer (fun b => { b with ring := b.ring ++ [n] })

/-- A closing slot joins the ring as its newest member, the oldest leaving if P are held (R78). -/
def State.joinRing (s : State) (n : Nat) : State :=
  if s.clc.table.prerollDepth ≤ s.sb.ring.length then s.dropMember.enterRing n else s.enterRing n

/-- The FILLING slot closes (R75): while ARMED into the ring, otherwise stamped for the clip given, into the write
queue. No slot closes without a ring or a clip to go to. -/
def State.closeSlot (s : State) (clip : Option Nat) (final : Bool) : State :=
  match s.sb.filling with
  | none => s
  | some n =>
    let t := (s.padSlot n).setBuffer (fun b => { b with filling := none })
    if t.clc.mode = .armed then t.joinRing n
    else
      match clip with
      | some k => (t.stampSlot n k final).sizeTest k
      | none => t.release [n]

/-! ### Splits forced by a full range list (R131) -/

/-- The OPEN clip ends by a split: CLOSING, END REASON SPLIT, DATA DONE, and a new clip opens (R130, R131, steps 2
and 3). -/
def State.splitClip (s : State) (old : Nat) : State :=
  ((s.modifyClip old (fun r => { r with
    state := .closing, endReason := some .split, dataDone := true })).addClip false).setRecorder (fun c =>
      { c with splitDue := false, forcedSplitDue := false })

/-- A forced split is to be made at this close (R131). -/
def State.forcesSplit (s : State) : Bool :=
  decide (s.clc.mode = .recording) && s.clc.forcedSplitDue && s.clc.recordFree && s.clc.nextClip.isSome

/-- The FILLING slot closes as full (R73, R74), with the forced split if it is to be made (R131). -/
def State.closeFull (s : State) : State :=
  match s.forcesSplit, s.clc.openClip with
  | true, some c => (s.closeSlot (some c.number) true).splitClip c.number
  | _, _ => s.closeSlot s.clc.receiving false

/-! ### Appending (R73, R79) -/

/-- Make the lowest-numbered FREE slot FILLING. -/
def State.fillSlot (s : State) (n : Nat) : State :=
  (s.setSlot n { SlotRecord.free with state := .filling }).setBuffer (fun b => { b with filling := some n })

/-- No slot is FREE, and the ring has a member that can give its place (R73, R79). -/
def State.needsMember (s : State) : Bool := s.sb.lowestFree.isNone && !s.sb.ring.isEmpty

/-- The oldest members of the ring are freed one after another while no slot is FREE (R73, R79). The first argument
bounds how many. -/
def State.makeRoom : Nat → State → State
  | 0, s => s
  | k + 1, s => if s.needsMember then State.makeRoom k s.dropMember else s

/-- The lowest-numbered FREE slot becomes FILLING, if there is one (R73). -/
def State.fillLowest (s : State) : State :=
  match s.sb.lowestFree with
  | some n => s.fillSlot n
  | none => s

/-- Open a FILLING slot, where one can be had (R73, R79). -/
def State.openFilling (s : State) : State := (State.makeRoom s.sb.ring.length s).fillLowest

/-- A slot record after a record of the given length is appended (R73). -/
def SlotRecord.appended (r : SlotRecord) (len : Nat) (sync armed : Bool) (now : Time) : SlotRecord :=
  { r with
    fill := r.fill + len
    count := r.count + 1
    firstTime := r.firstTime.or (some now)
    lastTime := some now
    firstSync := if sync then r.firstSync.or (some r.fill) else r.firstSync
    prerollOrigin := r.prerollOrigin || armed }

/-- Write a record at the FILL LENGTH of a slot (R73). -/
def State.placeRecord (s : State) (n : Nat) (kind : RecordKind) (flags : Byte) (sync : Bool) (payload : List Byte) :
    State :=
  (s.writeSlot n (s.sb.slot n).fill (recordBytes kind flags s.smn.partTime payload)).setSlot n
    ((s.sb.slot n).appended (payload.length + 8) sync (decide (s.clc.mode = .armed)) s.smn.partTime)

/-- A ready record that needs a slot and finds none (R83): the overrun flag and, at an episode's start, the notice. -/
def State.overrunStart (s : State) : State :=
  if s.sb.overrun then s
  else (s.post .overrun (.number (s.clc.receiving.getD 0))).setBuffer (fun b => { b with overrun := true })

/-- A record of this length does not fit the FILLING slot (R74). -/
def State.needsRoom (s : State) (len : Nat) : Bool :=
  match s.sb.filling with
  | some n => decide (Config.slotBytes < (s.sb.slot n).fill + len)
  | none => false

/-- The old clip's trailer test that ends a forced split (R131, step 5). -/
def State.splitTest (s : State) (split : Bool) : State := if split then s.trailerTest else s

/-- The FILLING slot after a record was appended: fewer than 9 bytes left close it as full (R73). -/
def State.closeIfFull (s : State) (n : Nat) : State :=
  if Config.slotBytes < (s.sb.slot n).fill + 9 then s.closeFull.splitTest s.forcesSplit else s

/-- Append a record where a FILLING slot exists or can be opened, or meet an overrun (R73, R79, R83). -/
def State.appendOpen (s : State) (kind : RecordKind) (flags : Byte) (sync : Bool) (payload : List Byte) :
    State × Bool :=
  let opened := if s.sb.filling.isNone then s.openFilling else s
  match opened.sb.filling with
  | none => (opened.overrunStart, false)
  | some n => ((opened.placeRecord n kind flags sync payload).closeIfFull n, true)

/-- Append a ready record, or meet an overrun; the answer tells whether it was appended. A record that does not fit
closes the FILLING slot as full first (R74), and after a forced split the trailer test of the old clip follows the
record (R131). -/
def State.appendRecord (s : State) (kind : RecordKind) (flags : Byte) (sync : Bool) (payload : List Byte) :
    State × Bool :=
  if s.needsRoom (payload.length + 8) then
    let r := s.closeFull.appendOpen kind flags sync payload
    (r.1.splitTest s.forcesSplit, r.2)
  else s.appendOpen kind flags sync payload

/-- A record is discarded: RECORDS DISCARDED, and the receiving clip's gap count (R83, R84). -/
def State.discardRecord (s : State) : State := (s.count .recordsDiscarded).addGap 1

/-- Hand a FRAME or MARK record to the buffer (R72, R83). -/
def State.handRecord (s : State) (kind : RecordKind) (payload : List Byte) : State :=
  let r := s.appendRecord kind 0 false payload
  if r.2 then r.1 else r.1.discardRecord

/-- The FLAGS of a VIDEO record (R71, R180). -/
def videoFlags (sync frameEnd last gap : Bool) : Byte := flagBits [sync, frameEnd, last, gap]

/-- Hand a VIDEO record to the buffer (R72, R83, R84): during an overrun a record without SYNC is discarded, and the
first one with SYNC that is appended carries GAP and ends the episode. The answer tells whether it was appended. -/
def State.handVideo (s : State) (sync frameEnd last gap : Bool) (payload : List Byte) : State × Bool :=
  if s.sb.overrun && !sync then (s.discardRecord, false)
  else
    let r := s.appendRecord .video (videoFlags sync frameEnd last (gap || s.sb.overrun)) sync payload
    (if r.2 then r.1.setBuffer (fun b => { b with overrun := false }) else r.1.discardRecord, r.2)

/-! ### The motion queue (R19, R85) -/

/-- One attempt to form MOTION records: as long as 32 entries wait and each record is appended (R85). The first
argument bounds the records of one attempt. -/
def State.pumpRecords : Nat → State → State
  | 0, s => s
  | k + 1, s =>
    if s.me.queue.length < 32 then s
    else
      let r := s.appendRecord .motion 0 false (motionPayload (s.me.queue.take 32))
      if r.2 then State.pumpRecords k (r.1.setMotion (fun m => { m with queue := m.queue.drop 32 })) else r.1

/-- The attempt of R85. -/
def State.pump (s : State) : State := State.pumpRecords (s.me.queue.length / 32) s

/-- The attempt of R85 that follows a slot's becoming FREE; while IDLE no entry waits and no record is made. -/
def State.retryMotion (s : State) : State := if s.clc.mode = .idle then s else s.pump

/-- Waiting entries are discarded when the recorder becomes IDLE (R85). -/
def State.dropMotion (s : State) : State := s.setMotion (fun m => { m with queue := [] })

/-! ### The ring at DISARM and at a recording start (R80, R81) -/

/-- DISARM's effect on the buffer (R80). -/
def State.freePreroll (s : State) : State :=
  let gone := s.sb.ring ++ s.sb.filling.toList
  ((s.setBuffer (fun b => { b with ring := [], filling := none, overrun := false })).dropMotion).release gone

/-- Stamp slots for a clip in the order given (R81). -/
def State.stampAll (s : State) (clip : Nat) : List Nat → State
  | [] => s
  | n :: rest => (s.stampSlot n clip false).stampAll clip rest

/-- The ring becomes the new clip's first slots, from the oldest slot that holds a sync point (R81). -/
def State.prerollToClip (s : State) (clip : Nat) : State :=
  let older := s.sb.ring.takeWhile (fun n => (s.sb.slot n).firstSync.isNone)
  let kept := s.sb.ring.dropWhile (fun n => (s.sb.slot n).firstSync.isNone)
  ((s.setBuffer (fun b => { b with ring := [] })).release older).stampAll clip kept

end Sys2Proof.Machine
end

