-- ==== Sys2Proof/Machine/Clips.lean ====
section
/-!
DEFINITION. What the Clip Controller does to clips (chapter 8): starts, ends, splits, completions, aborts and power
closes, and its action on a SHOCK (chapter 4).
-/
namespace Sys2Proof.Machine

/-! ### Starting (R64, R126) -/

/-- The battery level or the die level is CRITICAL (R124, R126). -/
def State.levelCritical (s : State) : Bool := decide (s.smn.battery = .critical ∨ s.smn.die = .critical)

/-- A drain runs, or a power close is present (R124, R126). -/
def ClipController.ending (c : ClipController) : Bool := c.drain.isSome || c.powerClose.isSome

/-- The first of the tests 3 to 6 of R126 that prevents a start; an auto-trigger start makes the same tests (R64). -/
def State.startBlocked (s : State) : Option CommandResult :=
  if s.clc.ending then some .busy
  else if s.levelCritical then some (.refused .lowPower)
  else if s.clc.nextClip.isNone then some (.refused .noRoom)
  else if !s.clc.recordFree then some .busy
  else none

/-- The first of the tests 1 to 6 of R126 that applies. -/
def State.startRefusal (s : State) : Option CommandResult :=
  if s.inStandby then some (.refused .standby)
  else if s.clc.mode = .recording then some (.refused .recording)
  else s.startBlocked

/-- The pre-roll becomes the clip's first slots (R81); slots the search passed over became FREE, so waiting motion
entries are tried again (R85). -/
def State.takePreroll (s : State) (clip : Nat) : State :=
  if (s.sb.ring.takeWhile (fun n => (s.sb.slot n).firstSync.isNone)).isEmpty then s.prerollToClip clip
  else (s.prerollToClip clip).retryMotion

/-- An accepted recording start: the steps of R126. -/
def State.startClip (s : State) (locked : Bool) : State :=
  match s.clc.nextClip with
  | none => s
  | some n =>
    let t := (s.addClip locked).setRecorder (fun c => { c with
      mode := .recording, splitDue := false, forcedSplitDue := false })
    if s.clc.mode = .armed then t.takePreroll n else t

/-- START RECORD (R126). -/
def State.startRecord (s : State) : State × CommandResult :=
  match s.startRefusal with
  | some r => s.answered r
  | none => (s.startClip false, .done (.clipNumber (s.clc.nextClip.getD 0)))

/-! ### Arming and disarming (R124, R125) -/

/-- The first of the tests 1 to 6 of R124 that applies; test 3 answers DONE. -/
def State.armAnswer (s : State) : Option CommandResult :=
  if s.inStandby then some (.refused .standby)
  else if s.clc.mode = .recording then some (.refused .recording)
  else if s.clc.mode = .armed then some (.done .plain)
  else if s.clc.ending then some .busy
  else if s.clc.table.prerollDepth = 0 then some (.refused .badRange)
  else if s.levelCritical then some (.refused .lowPower)
  else none

/-- ARM (R124). -/
def State.arm (s : State) : State × CommandResult :=
  match s.armAnswer with
  | some r => s.answered r
  | none => (s.setRecorder (fun c => { c with mode := .armed }), .done .plain)

/-- DISARM's effect while ARMED (R80, R125). -/
def State.disarmNow (s : State) : State :=
  s.freePreroll.setRecorder (fun c => { c with mode := .idle })

/-- DISARM (R125). -/
def State.disarm (s : State) : State × CommandResult :=
  match s.clc.mode with
  | .armed => (s.disarmNow, .done .plain)
  | .idle => (s, .done .plain)
  | .recording => s.answered (.refused .recording)

/-! ### Ending a clip (R128, R129, R136) -/

/-- The OPEN clip becomes CLOSING with an END REASON, and the recorder becomes IDLE (R128, R136). -/
def State.endRecording (s : State) (clip : Nat) (reason : EndReason) : State :=
  ((s.modifyClip clip (fun r => { r with state := .closing, endReason := some reason })).dropMotion).setRecorder
    (fun c => { c with mode := .idle, splitDue := false, forcedSplitDue := false })

/-- The steps 1 to 4 of R129 for a clip. -/
def State.finishClip (s : State) (clip : Nat) : State :=
  ((((s.closeSlot (some clip) true).modifyClip clip (fun r => { r with dataDone := true })).setRecorder (fun c =>
    { c with drain := none })).setBuffer (fun b => { b with overrun := false })).trailerTest

/-- The end of a running drain (R129). -/
def State.endDrain (s : State) : State :=
  match s.clc.drain with
  | some d => s.finishClip d.clip
  | none => s

/-- A drain starts for a clip (R128); a DRAIN TIME of 0 ends it at once. -/
def State.startDrain (s : State) (clip : Nat) : State :=
  let t := s.setRecorder (fun c => { c with drain := some ⟨clip, s.deadlineIn (1000 * c.table.drainTime)⟩ })
  if s.clc.table.drainTime = 0 then t.endDrain else t

/-- STOP RECORD (R128). -/
def State.stopRecord (s : State) : State × CommandResult :=
  if s.clc.powerClose.isSome then s.answered .busy
  else if s.clc.mode = .recording then
    match s.clc.openClip with
    | some c => ((s.endRecording c.number .stop).startDrain c.number, .done (.clipNumber c.number))
    | none => (s, .done (.clipNumber 0))
  else (s, .done (.clipNumber 0))

/-- END REASON of a clip that a power close ends (R136). -/
def PowerReason.endReason : PowerReason → EndReason
  | .power => .power
  | .heat => .heat

/-- What the start of a power close does to the recording (R136). -/
def State.closeForPower (s : State) (reason : PowerReason) : State :=
  match s.clc.mode with
  | .recording =>
    match s.clc.openClip with
    | some c => (s.endRecording c.number reason.endReason).finishClip c.number
    | none => s
  | .armed => s.disarmNow
  | .idle => s

/-- The start of a power close; one that is present keeps its reason (R136). -/
def State.startPowerClose (s : State) (reason : PowerReason) : State :=
  if s.clc.powerClose.isSome then s
  else (s.closeForPower reason).setRecorder (fun c => { c with powerClose := some reason })

/-- No clip is OPEN or CLOSING and no drain runs (R137). -/
def ClipController.allEnded (c : ClipController) : Bool :=
  c.drain.isNone && c.clips.all (fun r => decide (r.state = .closed ∨ r.state = .aborted))

/-! ### Completed writes (R127, R134) -/

/-- The range list after a completed slot at f: the last range is lengthened, or a new range is added, or there is no
room (R127, step 2). -/
def listRange (ranges : List (Nat × Nat)) (f : Nat) : Option (List (Nat × Nat)) :=
  match ranges.getLast? with
  | some last =>
    if last.1 + last.2 = f then some (ranges.dropLast ++ [(last.1, last.2 + Config.slotBlocks)])
    else if ranges.length < 128 then some (ranges ++ [(f, Config.slotBlocks)])
    else none
  | none => some [(f, Config.slotBlocks)]

/-- A clip record after one of its data slots completed at f (R127, steps 1 and 2). -/
def ClipRecord.completed (r : ClipRecord) (f : Nat) : ClipRecord :=
  match listRange r.ranges f with
  | some l => { r with written := raise lim32 r.written 1, ranges := l }
  | none => { r with written := raise lim32 r.written 1, unlisted := raise lim32 r.unlisted 1 }

/-- Forced split due is set where an OPEN clip's range was not listed (R127, step 2). -/
def State.forceSplitTest (s : State) (r : ClipRecord) (f : Nat) : State :=
  if (listRange r.ranges f).isNone ∧ r.state = .opened then
    s.setRecorder (fun c => { c with forcedSplitDue := true })
  else s

/-- The protect table follows a completed write of a LOCKED clip (R67). -/
def State.lockWritten (s : State) (r : ClipRecord) (f : Nat) : State :=
  if r.locked then s.updateLock r.number f else s

/-- The trailer test at the completion of a slot: the slot is claimed for a due trailer, otherwise it becomes FREE and
a waiting motion record may take it (R85, R132). -/
def State.completionTest (s : State) (slot : Nat) : State :=
  match s.clc.trailerDue with
  | some c => s.formTrailer c slot
  | none => (s.freeSlots [slot]).retryMotion

/-- The completion of a data slot of a clip (R127). -/
def State.completeData (s : State) (r : ClipRecord) (slot f : Nat) : State :=
  ((((s.modifyClip r.number (fun c => c.completed f)).forceSplitTest r f).lockWritten r f).completionTest slot)

/-- The completion of a clip's trailer, up to step 4 (R134). -/
def State.completeTrailer (s : State) (r : ClipRecord) (slot f : Nat) : State :=
  ((((s.modifyClip r.number (fun c => { c with trailerPosition := some f })).lockWritten r f).modifyClip r.number
    (fun c => { c with state := .closed })).post .clipClosed (.number r.number)).completionTest slot

/-- A completed slot write, with its range's first block (R113, R127, R134). -/
def State.completeWrite (s : State) (slot f : Nat) : State :=
  match s.clc.clip ((s.sb.slot slot).clip.getD 0) with
  | some r => if (s.sb.slot slot).trailer then s.completeTrailer r slot f else s.completeData r slot f
  | none => s.completionTest slot

/-! ### ABORT CLIP (R135) -/

/-- A slot of the clip is WRITING (R135). -/
def State.clipWriting (s : State) (clip : Nat) : Bool :=
  s.sb.slots.any (fun p => decide (p.2.state = .writing ∧ p.2.clip = some clip))

/-- The slots an abort frees: the FILLING slot if the drain is the clip's, and the clip's QUEUED slots (R135, steps 1
and 2). -/
def State.abortedSlots (s : State) (clip : Nat) : List Nat :=
  (if s.clc.drain.any (fun d => d.clip == clip) then s.sb.filling.toList else []) ++
    s.sb.queue.filter (fun n => decide ((s.sb.slot n).clip = some clip))

/-- The drain of the clip, if it is the one that runs, ends with its FILLING slot (R135, step 1). -/
def State.abandonDrain (s : State) (clip : Nat) : State :=
  if s.clc.drain.any (fun d => d.clip == clip) then
    (s.setRecorder (fun c => { c with drain := none })).setBuffer (fun b => { b with filling := none, overrun := false })
  else s

/-- An accepted abort, up to step 5 (R135), and the attempt of R85 where a slot became FREE. -/
def State.abortNow (s : State) (clip : Nat) : State :=
  let freed := s.abortedSlots clip
  let u := ((s.abandonDrain clip).setBuffer (fun b => { b with
    queue := b.queue.filter (fun n => !freed.contains n) })).freeSlots freed
  let v := ((u.modifyClip clip (fun r => { r with state := .aborted, endReason := some .abort })).post .clipAborted
    (.number clip)).trailerTest
  if freed.isEmpty then v else v.retryMotion

/-! ### The CLIP stream (R121, R130) -/

/-- The split is made at this CLIP cell (R130). -/
def State.splitsAt (s : State) (sync : Bool) : Bool :=
  sync && s.clc.splitDue && decide (s.clc.mode = .recording) && s.clc.nextClip.isSome &&
    s.clc.clips.all (fun r => decide (r.state ≠ .closing))

/-- The new clip's START OFFSET where the cell's record was appended (R130; log entry 19). -/
def State.settleSplit (s : State) (appended : Bool) : State :=
  match appended, s.clc.openClip with
  | true, some c => s.modifyClip c.number (fun r => { r with startOffset := some 64 })
  | _, _ => s

/-- A split at a CLIP cell with SYNC (R130). -/
def State.splitAtCell (s : State) (old gap : Nat) (frameEnd last : Bool) (payload : List Byte) : State :=
  let t := (((s.closeSlot (some old) true).splitClip old).addGap gap).handVideo true frameEnd last (decide (0 < gap))
    payload
  (t.1.settleSplit t.2).trailerTest

/-- A CLIP cell taken while RECORDING (R121, R130). -/
def State.recordCell (s : State) (gap : Nat) (sync frameEnd last : Bool) (payload : List Byte) : State :=
  match s.splitsAt sync, s.clc.openClip with
  | true, some c => s.splitAtCell c.number gap frameEnd last payload
  | _, _ => ((s.addGap gap).handVideo sync frameEnd last (decide (0 < gap)) payload).1

/-- A CLIP cell goes where the recorder mode and the drain send it (R121). -/
def State.placeCell (s : State) (gap : Nat) (sync frameEnd last : Bool) (payload : List Byte) : State :=
  match s.clc.mode with
  | .recording => s.recordCell gap sync frameEnd last payload
  | .armed => (s.handVideo sync frameEnd last (decide (0 < gap)) payload).1
  | .idle =>
    if s.clc.drain.isSome then
      let t := ((s.addGap gap).handVideo sync frameEnd last (decide (0 < gap)) payload).1
      if last then t.endDrain else t
    else s.count .clipCellsUnexpected

/-! ### A SHOCK (R63 to R65) -/

/-- The OPEN clip is locked, and its range list enters the protect table (R65). -/
def State.lockClip (s : State) (r : ClipRecord) : State :=
  (s.modifyClip r.number (fun c => { c with locked := true })).addLocks r.number r.ranges

/-- The Clip Controller's action on a SHOCK, with the outcome and clip number it returns (R63, R64). -/
def State.shockAction (s : State) : State × ShockOutcome × Nat :=
  match s.clc.mode with
  | .idle => (s, .noticeOnly, 0)
  | .armed =>
    if s.me.table.autoTrigger then
      match s.startBlocked with
      | some _ => (s, .startFailed, 0)
      | none => (s.startClip true, .started, s.clc.nextClip.getD 0)
    else (s, .noticeOnly, 0)
  | .recording =>
    match s.clc.openClip with
    | some r => if r.locked then (s, .alreadyLocked, r.number) else (s.lockClip r, .locked, r.number)
    | none => (s, .noticeOnly, 0)

/-! ### The RECORDER table (R138) -/

/-- The comparison of the remaining space with both marks at a RECORDER table's taking (R96). -/
def State.newMark (s : State) (oldMark : Nat) : State :=
  if oldMark ≤ remainingOf s.xm.extents ∧ remainingOf s.xm.extents < s.clc.table.lowMark then
    s.post .extentLow (.number (remainingOf s.xm.extents))
  else s

/-- LOAD TABLE for the RECORDER table (R138). The order of the two notices is DEDUCED (log entry 24). -/
def State.loadRecorder (s : State) (fields : List Byte) : State × CommandResult :=
  match parseRecorder fields with
  | .error k => s.answered (.refused (.badTable k))
  | .ok t =>
    if s.clc.mode = .idle then
      (((s.setRecorder (fun c => { c with table := t })).post .tableTaken (.table .recorder)).newMark s.clc.table.lowMark,
        .done .plain)
    else s.answered .busy

end Sys2Proof.Machine
end

