-- ==== Sys2Proof/Machine/Bus.lean ====
section
/-!
DEFINITION. What the Card Port does on the card bus (chapter 7): grades, the attach, the slot write with its attempts,
skips and failures, and removal.
-/
namespace Sys2Proof.Machine

/-! ### Sending and waiting -/

/-- Send an item on the card bus and wait for an event at most some microseconds (R106, R111, R112, R114). -/
def State.sendCard (s : State) (item : CardSend) (what : CardWait) (us : Nat) : State :=
  s.setCard (fun c => { c with sent := some item, wait := some ⟨what, s.deadlineIn us⟩ })

/-- The BUSY TIMEOUT of the active RECORDER table, in microseconds (R112 to R114). -/
def State.busyTime (s : State) : Nat := 1000 * s.clc.table.busyTimeout

/-- The Card Port waits for this event. -/
def CardPort.awaits (c : CardPort) (what : CardWait) : Bool := c.wait.any (fun w => decide (w.what = what))

/-- The grade an attach has sent, while its answer is awaited (R106). -/
def CardPort.attachGrade (c : CardPort) : Option Grade :=
  match c.wait with
  | some ⟨.attachGrade g, _⟩ => some g
  | _ => none

/-- The deadline the Card Port holds; the present moment if it waits for nothing. -/
def State.cardDeadline (s : State) : Time := s.cp.wait.elim s.smn.partTime (·.deadline)

/-- The clip number of the slot at the head of the write queue, 0 when it is empty (R93, R116). -/
def State.headClip (s : State) : Nat :=
  match s.sb.queue with
  | n :: _ => (s.sb.slot n).clip.getD 0
  | [] => 0

/-! ### Grades (R108, R109) -/

/-- The thermal cap of a die level (R109, R161). -/
def DieLevel.cap : DieLevel → Grade
  | .normal => .g3
  | .warm => .g2
  | .hot => .g1
  | .critical => .g0

/-- The current reserve of a grade in mA (R108). -/
def Grade.reserve : Grade → Nat
  | .g0 => 60
  | .g1 => 90
  | .g2 => 140
  | .g3 => 200

/-- The grade of a code from 0 to 3. -/
def Grade.at (n : Nat) : Grade := (Grade.ofCode n).getD .g3

/-- The lowest of the card's maximum grade, the set grade and the thermal cap (R109). -/
def State.effectiveGrade (s : State) : Grade :=
  Grade.at (min (s.cp.maxGrade.elim 3 Grade.code) (min s.cp.setGrade s.smn.die.cap.code))

/-! ### Attach (R106, R107) -/

/-- Steps 1 and 2 of the attach (R106). -/
def State.startAttach (s : State) : State :=
  (s.setCard (fun c => { c with card := .attaching, gradeInUse := some .g0 })).sendCard .reset .resetDone
    Config.resetWait

/-- The IDENTIFY answer is good (R107): its check holds, it has 128 blocks or more and it names a grade. -/
def identifyGood (a : IdentifyAnswer) : Bool :=
  a.checkGood && decide (128 ≤ a.capacity.toNat) && (Grade.ofCode a.grade.toNat).isSome

/-- A failed attach (R107); a SUSPENDED writer takes the reason CARD FAILED. -/
def State.failAttach (s : State) : State :=
  (s.setCard (fun c => { c with
    card := .failed, capacity := none, maxGrade := none, gradeInUse := none, wait := none
    writer := match c.writer with | .suspended _ => .suspended .cardFailed | w => w })).post .cardChange (.card .failed)

/-- Steps 4 and 5 of the attach at a good answer: capacity and maximum grade are recorded, and SET GRADE is sent with
the effective grade (R106). -/
def State.identified (s : State) (a : IdentifyAnswer) : State :=
  let t := s.setCard (fun c => { c with
    capacity := some a.capacity.toNat, maxGrade := Grade.ofCode a.grade.toNat })
  t.sendCard (.setGrade t.effectiveGrade) (.attachGrade t.effectiveGrade) Config.answerWait

/-- The writer when the card becomes READY (R118). -/
def Writer.atReady : Writer → Writer
  | .stopped => .idle
  | .suspended .noExtent => .suspended .noExtent
  | .suspended .noCard => .idle
  | .suspended .cardFailed => .idle
  | w => w

/-- Step 6 of the attach: the card is READY at the grade sent (R106, R118). -/
def State.attached (s : State) (g : Grade) : State :=
  (s.setCard (fun c => { c with
    card := .ready, gradeInUse := some g, wait := none, writer := c.writer.atReady })).post .cardChange (.card .ready)

/-! ### Reading the buffer (R86, R87) -/

/-- The first uncorrectable error of a slot: DAMAGED, SLOTS DAMAGED and the clip's account of it (R87). -/
def State.markDamaged (s : State) (n : Nat) : State :=
  if (s.sb.slot n).damaged then s
  else
    ((s.setSlot n { s.sb.slot n with damaged := true }).count .slotsDamaged).modifyClip ((s.sb.slot n).clip.getD 0)
      (fun r => { r with
        damagedSlots := raise lim32 r.damagedSlots 1
        firstDamaged := r.firstDamaged.or (s.sb.slot n).sequence })

/-- A block of a slot is read for a transfer: its words with a correctable error are counted, and one with an
uncorrectable error makes the slot DAMAGED (R86, R87). -/
def State.readBlock (s : State) (n : Nat) (ecc : EccRead) : State :=
  let t := s.countBy .eccCorrected ecc.corrected
  if 0 < ecc.damaged then t.markDamaged n else t

/-! ### The slot write (R110 to R113) -/

/-- Change the record of the write in flight. -/
def State.setWrite (s : State) (f : SlotWrite → SlotWrite) : State :=
  s.setCard (fun c => { c with write := c.write.map f })

/-- One attempt at the POSITION begins: WRITE BLOCKS is sent with the count 128, and block 0 follows it (R112). -/
def State.beginAttempt (s : State) (w : SlotWrite) (ecc : EccRead) : State :=
  let t := s.setCard (fun c => { c with
    card := .writing, writer := .sending, write := some { w with blocksAnswered := 0 } })
  (t.sendCard (.writeBlocks w.position Config.slotBlocks) .block s.busyTime).readBlock (w.slot.getD 0) ecc

/-- Step 3 of MAPPING: the slot at the head of the queue is taken, or the write ends on an empty queue (R111). -/
def State.takeSlot (s : State) (w : SlotWrite) (ecc : EccRead) : State :=
  match s.sb.queue with
  | [] => s.setCard (fun c => { c with writer := .idle, write := none, wait := none })
  | n :: rest =>
    ((s.setSlot n { s.sb.slot n with state := .writing }).setBuffer (fun b => { b with queue := rest })).beginAttempt
      { w with slot := some n } ecc

/-- A slot write can start (R110). -/
def State.writeCanStart (s : State) : Bool :=
  decide (s.cp.card = .ready ∧ s.cp.writer = .idle) && !s.sb.queue.isEmpty

/-- The writer finds the extent table empty (R93, R111, R115). -/
def State.noExtent (s : State) (clip : Nat) : State :=
  (s.post .extentExhausted (.number clip)).setCard (fun c => { c with
    writer := .suspended .noExtent, write := none, wait := none })

/-- A slot write starts: steps 1 and 2 of MAPPING, and step 3 where no grade change is needed (R110, R111). -/
def State.startWrite (s : State) (ecc : EccRead) : State :=
  match cursorOf s.xm.extents with
  | none => s.noExtent s.headClip
  | some p =>
    let w : SlotWrite := ⟨none, p, 1, 0, 0, s.effectiveGrade⟩
    let t := s.setCard (fun c => { c with writer := .mapping, write := some w })
    if s.cp.gradeInUse = some s.effectiveGrade then t.takeSlot w ecc
    else t.sendCard (.setGrade s.effectiveGrade) .writeGrade Config.answerWait

/-- A slot whose write is given up returns to the head of the queue and keeps its stamp (R77). -/
def State.giveBack (s : State) (n : Nat) : State :=
  (s.setSlot n { s.sb.slot n with state := .queued }).setBuffer (fun b => { b with queue := n :: b.queue })

/-- An attempt fails: CARD RETRIES, and STOP with its bounded wait (R114). -/
def State.failAttempt (s : State) : State :=
  ((s.count .cardRetries).setCard (fun c => { c with card := .writing, writer := .sending })).sendCard .stop .stopped
    s.busyTime

/-- The card is declared FAILED (R116). -/
def State.declareFailed (s : State) : State :=
  let t := s.setCard (fun c => { c with card := .failed, gradeInUse := none, wait := none })
  let u := match s.cp.write.bind (·.slot) with
    | some n => (t.giveBack n).consume
    | none => t
  let v := u.setCard (fun c => { c with write := none, writer := .suspended .cardFailed })
  (v.post .cardFailed (.number v.headClip)).post .cardChange (.card .failed)

/-- A position is skipped, and the slot moves to its second position or is given up (R115, R95). -/
def State.skipPosition (s : State) (w : SlotWrite) (ecc : EccRead) : State :=
  let n := w.slot.getD 0
  let clip := (s.sb.slot n).clip.getD 0
  let t := (s.consume.modifyClip clip (fun r => { r with skippedRanges := raise lim32 r.skippedRanges 1 })).count
    .cardSkips
  match cursorOf t.xm.extents with
  | some p => t.beginAttempt { w with position := p, positionCount := 2, attempts := 0 } ecc
  | none => (t.giveBack n).noExtent clip

/-- The next step after a failed attempt, once the card reports ready (R114). -/
def State.afterStop (s : State) (w : SlotWrite) (ecc : EccRead) : State :=
  let t := s.setCard (fun c => { c with card := .ready, wait := none })
  if w.attempts = 0 then t.beginAttempt { w with attempts := 1 } ecc
  else if w.positionCount = 1 then t.skipPosition w ecc
  else t.declareFailed

/-- A slot write succeeds (R113): the position is consumed, the completion is handed on, and the writer is IDLE. -/
def State.writeSucceeds (s : State) (w : SlotWrite) : State :=
  (s.consume.completeWrite (w.slot.getD 0) w.position).setCard (fun c => { c with
    card := .ready, write := none, writer := .idle, wait := none })

/-- A block is answered ACCEPTED: the next block is sent, or the card settles after the last (R112, R113). -/
def State.blockAccepted (s : State) (w : SlotWrite) (ecc : EccRead) : State :=
  let k := w.blocksAnswered + 1
  let t := s.setCard (fun c => { c with write := some { w with blocksAnswered := k } })
  if k < Config.slotBlocks then (t.sendCard (.block k) .block s.busyTime).readBlock (w.slot.getD 0) ecc
  else
    t.setCard (fun c => { c with
      card := .settling, writer := .settling, wait := some ⟨.settled, s.deadlineIn s.busyTime⟩ })

/-! ### Removal (R107, R117) -/

/-- The writer after a removal (R117, R118). -/
def Writer.atRemoval : Writer → Writer
  | .stopped => .stopped
  | .idle => .stopped
  | .mapping => .suspended .noCard
  | .sending => .suspended .noCard
  | .settling => .suspended .noCard
  | .suspended _ => .suspended .noCard

/-- The Card Port after a removal: every write and wait ends and the card is ABSENT (R117; during an attach R107, log
entry 21). -/
def CardPort.removed (c : CardPort) : CardPort :=
  { c with
    card := .absent, capacity := none, maxGrade := none, gradeInUse := none, write := none, wait := none
    writer := c.writer.atRemoval }

/-- The slot of the write in flight, if one was taken, returns to the queue (R117). -/
def State.giveBackWrite (s : State) : State :=
  match s.cp.write.bind (·.slot) with
  | some n => s.giveBack n
  | none => s

/-- A card removal: during an attach CARD CHANGE is posted before the extent table is emptied (R107), otherwise after
(R117). For a card that is OFF, R117 names the emptying first and R120 CARD CHANGE; the model keeps R117's order there
too (DESIGN CHOICE, log entry 37). -/
def State.removeCard (s : State) : State :=
  if s.cp.card = .attaching then
    (((s.setCard CardPort.removed).post .cardChange (.card .absent)).setExtents [])
  else
    (((s.giveBackWrite.setCard CardPort.removed).setExtents []).post .cardChange (.card .absent))

/-! ### RESTART, standby entry and wake (R119, R120) -/

/-- The Card Port's RESTART (R119). -/
def State.restartCard (s : State) : State :=
  let t := s.setCard (fun c => { c with
    write := none, writer := .stopped, capacity := none, maxGrade := none, gradeInUse := none, wait := none
    card := .absent })
  if s.cp.detect then t.startAttach else t

/-- The writer after standby entry (R120). -/
def Writer.atStandby : Writer → Writer
  | .suspended r => .suspended r
  | _ => .stopped

/-- The card after standby entry (R120). -/
def CardState.atStandby : CardState → CardState
  | .absent => .absent
  | _ => .off

/-- The Card Port at standby entry (R120, R164). R120 keeps the capacity and the maximum grade of a READY or FAILED card
and does not name them for an ATTACHING card whose attach is abandoned; the model keeps them there too (DESIGN CHOICE, log
entry 41). -/
def CardPort.standby (c : CardPort) : CardPort :=
  { c with
    writer := c.writer.atStandby, write := none, wait := none, card := c.card.atStandby, gradeInUse := none
    supplyOn := false }

/-- The Card Port at the end of a buffer wake (R120, R166). With no card in the socket R120 names the card state alone; the
capacity and the maximum grade stay as they were (DESIGN CHOICE, log entry 41). -/
def State.wakeCard (s : State) : State :=
  let t := s.setCard (fun c => { c with supplyOn := true, card := .absent })
  if s.cp.detect then t.startAttach else t

end Sys2Proof.Machine
end

