-- ==== Sys2Proof/Machine/Standby.lean ====
section
/-!
DEFINITION. Standby, the buffer wake and the power close (chapter 10), and the states the blocks take at RESTART
(R22, R40, R55, R88, R104, R119, R139): operations of the whole part that several families use.
-/
namespace Sys2Proof.Machine

/-! ### Standby entry (R164) -/

/-- The Motion Engine after it stops or restarts: everything but the two tables and whether reading runs (R22, R23). -/
def MotionEngine.cleared (m : MotionEngine) (reading : Bool) : MotionEngine :=
  { MotionEngine.powerOn with reading := reading, table := m.table, pendingTable := m.pendingTable }

/-- The Sensor Port at RESTART or standby entry: the frame number is kept (R55, R56). -/
def SensorPort.cleared (p : SensorPort) (running : Bool) : SensorPort :=
  { SensorPort.powerOn with frameNumber := p.frameNumber, running := running }

/-- A quarter holds a slot that is not FREE; at standby entry such a slot is QUEUED (R89). -/
def SlotBuffer.quarterUsed (b : SlotBuffer) (q : Nat) : Bool :=
  b.slots.any (fun p => decide (p.1 / Config.quarterSlots = q))

/-- The contents of quarters that are powered off are lost (R89). -/
def eraseQuarters (m : List Host.Cell) (lost : List Nat) : List Host.Cell :=
  m.filter (fun c => !lost.contains (c.1 / (Config.quarterSlots * Config.slotBytes)))

/-- The quarters that hold no QUEUED slot at standby entry (R89). -/
def SlotBuffer.idleQuarters (b : SlotBuffer) : List Nat := (List.range 4).filter (fun q => !b.quarterUsed q)

/-- The Slot Buffer at standby entry: the overrun flag is cleared, and each quarter without a QUEUED slot is powered
off (R89). -/
def SlotBuffer.standby (b : SlotBuffer) : SlotBuffer :=
  { b with
    overrun := false
    quarters := (List.range 4).map b.quarterUsed
    mem := eraseQuarters b.mem b.idleQuarters }

/-- Steps 2 to 5 of standby entry: streams, motion reading, card and buffer (R164). -/
def State.parkBlocks (s : State) : State :=
  { s with
    wu := { s.wu with frame := none }
    sp := s.sp.cleared false
    lp := { s.lp with lines := [] }
    me := s.me.cleared false
    cp := s.cp.standby
    sb := s.sb.standby }

/-- Standby entry, in the order of R164. -/
def State.enterStandby (s : State) (reason : StandbyReason) : State :=
  (s.setSupply (fun m => { m with standby := .standby, reason := some reason })).endDrain.parkBlocks

/-! ### The end of a power close (R137, R162) -/

/-- The standby reason of a power close (R162). -/
def PowerReason.standbyReason : PowerReason → StandbyReason
  | .power => .power
  | .heat => .heat

/-- The power close test of its end, made when an event that can end it is complete: with nothing left to close, the
power close becomes absent, and a part that is ACTIVE enters standby with its reason (R137, R162). -/
def State.endPowerClose (s : State) : State :=
  match s.clc.powerClose with
  | none => s
  | some r =>
    if s.clc.allEnded then
      let t := s.setRecorder (fun c => { c with powerClose := none })
      if s.smn.standby = .active then t.enterStandby r.standbyReason else t
    else s

/-- The check of R137 at the end of an event: it is made where a power close started in the event, or a drain ended. -/
def State.checkPowerClose (s old : State) : State :=
  if old.clc.powerClose.isNone || (old.clc.drain.isSome && s.clc.drain.isNone) then s.endPowerClose else s

/-- The battery is CRITICAL with the input switch open (R162, R166). -/
def State.batteryDying (s : State) : Bool := decide (s.smn.battery = .critical) && !s.chg.switchClosed

/-- The power close test at the end of a buffer wake and after RESTART (R162). -/
def State.powerCloseTest (s : State) : State :=
  if s.batteryDying then s.startPowerClose .power
  else if s.smn.die = .critical then s.startPowerClose .heat
  else s

/-! ### The buffer wake (R166) -/

/-- A buffer wake starts: WAKING, the 2 ms deadline, and power for every quarter (R90, R166). -/
def State.startWake (s : State) : State :=
  (s.setSupply (fun m => { m with standby := .waking, wakeDeadline := some (s.deadlineIn Config.wakeTime) })).setBuffer
    (fun b => { b with quarters := [true, true, true, true] })

/-- The part is ACTIVE again, with no standby reason and no wake timer (R166). -/
def SupplyMonitor.awake (m : SupplyMonitor) : SupplyMonitor :=
  { m with standby := .active, reason := none, wakeDeadline := none }

/-- The sensor stream and motion reading run again (R23, R56, R166). -/
def State.runStreams (s : State) : State :=
  (s.setPort (fun p => { p with running := true })).setMotion (fun m => { m with reading := true })

/-- The end of a buffer wake, in the order of R166. -/
def State.endWake (s : State) : State :=
  ((s.setSupply SupplyMonitor.awake).wakeCard.runStreams).powerCloseTest

/-! ### RESTART (R139, R177) -/

/-- The clips that RESTART aborts, in clip-number order (R139). -/
def ClipController.unfinished (c : ClipController) : List Nat :=
  (c.clips.filter (fun r => decide (r.state = .opened ∨ r.state = .closing))).map (·.number)

/-- The Clip Controller's RESTART state: the next clip number and the RECORDER table are kept (R138, R139). -/
def ClipController.restarted (c : ClipController) : ClipController :=
  { ClipController.powerOn with nextClip := c.nextClip, table := c.table }

/-- Step 1 of RESTART: the link's queues are emptied (R177). -/
def LinkPort.emptied (l : LinkPort) : LinkPort := { l with lines := [], replies := [], notices := [] }

/-- Step 2 of RESTART: the blocks take their RESTART state (R22, R40, R55, R88, R104, R119, R139). -/
def State.restartBlocks (s : State) : State :=
  State.restartCard { s with
    me := s.me.cleared true
    wu := { s.wu with frame := none }
    sp := s.sp.cleared true
    sb := SlotBuffer.powerOn
    xm := { s.xm with extents := [] }
    clc := s.clc.restarted }

/-- Step 3 of RESTART: counters and the expected clip sequence (R177). -/
def LinkPort.zeroed (l : LinkPort) : LinkPort := { l with counters := Counters.zero, expectedSequence := none }

/-- Post CLIP ABORTED for each clip of a list (R139, R177). -/
def State.postAborted (s : State) : List Nat → State
  | [] => s
  | n :: rest => (s.post .clipAborted (.number n)).postAborted rest

/-- RESTART up to step 3 (R177). -/
def State.restartNow (s : State) : State :=
  ((s.setLink LinkPort.emptied).restartBlocks).setLink LinkPort.zeroed

end Sys2Proof.Machine
end

