-- ==== Sys2Proof/Machine/Card.lean ====
section
/-!
DEFINITION. The commands and events of the Card Port (chapter 7). An event that nothing waits for has no effect
(R107, R113; log entry 3).
-/
namespace Sys2Proof.Machine

/-! ### Card detect (R105) -/

/-- The raw line changes level, and the settle time starts again (R105). -/
def State.lineChange (s : State) : State :=
  s.setCard (fun c => { c with rawDetect := !c.rawDetect, settle := some (s.deadlineIn Config.settleTime) })

/-- The raw card-detect line changes level (R105). -/
def execDetectLineChange (s : State) : Host.Outcome State Fault Refusal := s.take State.lineChange

/-- Detect asserted: the settled level becomes present, and an ABSENT card is attached unless the part is in standby
(R105). -/
def State.assertDetect (s : State) : State :=
  let t := s.setCard (fun c => { c with detect := true, settle := none })
  if s.cp.card = .absent ∧ !s.inStandby then t.startAttach else t

/-- The line has held present for the settle time: the settle timer runs, the raw level is present, and the settled
one is not (R105). -/
def State.detectAsserts (s : State) : State :=
  match s.cp.settle with
  | some d => if s.cp.rawDetect ∧ !s.cp.detect then (s.reach d).assertDetect else s
  | none => s

/-- Detect asserted (R105). -/
def execDetectAsserted (s : State) : Host.Outcome State Fault Refusal := s.take State.detectAsserts

/-- Detect released: the settled level becomes not present, and a card that is not ABSENT is removed (R105, R107,
R117). -/
def State.releaseDetect (s : State) : State :=
  let t := s.setCard (fun c => { c with detect := false, settle := none })
  if s.cp.card = .absent then t else t.removeCard

/-- The line has held not present for the settle time (R105). -/
def State.detectReleases (s : State) : State :=
  match s.cp.settle with
  | some d => if !s.cp.rawDetect ∧ s.cp.detect then (s.reach d).releaseDetect else s
  | none => s

/-- Detect released (R105, R107, R117). -/
def execDetectReleased (s : State) : Host.Outcome State Fault Refusal := s.take State.detectReleases

/-! ### Attach (R106, R107) -/

/-- The 1 ms wait after RESET ends, and IDENTIFY is sent (R106, step 3). -/
def State.resetWaitEnds (s : State) : State :=
  if s.cp.awaits .resetDone then (s.reach s.cardDeadline).sendCard .identify .identify Config.answerWait else s

/-- The 1 ms wait after RESET ends (R106). -/
def execResetWaitExpiry (s : State) : Host.Outcome State Fault Refusal := s.take State.resetWaitEnds

/-- The IDENTIFY answer is checked (R106, R107). -/
def State.takeIdentify (s : State) (a : IdentifyAnswer) : State :=
  if s.cp.awaits .identify then (if identifyGood a then s.identified a else s.failAttach) else s

/-- The IDENTIFY answer arrives (R106, R107). -/
def execIdentifyAnswer (answer : IdentifyAnswer) (s : State) : Host.Outcome State Fault Refusal :=
  s.take (fun t => t.takeIdentify answer)

/-- The IDENTIFY answer timer expires (R107). -/
def State.identifyExpires (s : State) : State :=
  if s.cp.awaits .identify then (s.reach s.cardDeadline).failAttach else s

/-- The IDENTIFY answer timer expires (R107). -/
def execIdentifyTimeout (s : State) : Host.Outcome State Fault Refusal := s.take State.identifyExpires

/-- The grade of a slot write becomes the grade in use, and the head slot is taken (R111, steps 2 and 3). -/
def State.gradeSet (s : State) (ecc : EccRead) : State :=
  match s.cp.write with
  | some w => (s.setCard (fun c => { c with gradeInUse := some w.grade })).takeSlot w ecc
  | none => s

/-- The card answers SET GRADE: at an attach it becomes READY, in MAPPING the writer goes on (R106, R111). -/
def State.takeGradeAnswer (s : State) (ecc : EccRead) : State :=
  match s.cp.attachGrade with
  | some g => s.attached g
  | none => if s.cp.awaits .writeGrade then s.gradeSet ecc else s

/-- The card answers SET GRADE (R106, R111). -/
def execSetGradeAnswer (ecc : EccRead) (s : State) : Host.Outcome State Fault Refusal :=
  s.take (fun t => t.takeGradeAnswer ecc)

/-- The SET GRADE answer timer expires: a failed attach, or a card declared FAILED (R107, R111, R116). -/
def State.gradeExpires (s : State) : State :=
  match s.cp.attachGrade with
  | some _ => (s.reach s.cardDeadline).failAttach
  | none => if s.cp.awaits .writeGrade then (s.reach s.cardDeadline).declareFailed else s

/-- The SET GRADE answer timer expires (R107, R111). -/
def execSetGradeTimeout (s : State) : Host.Outcome State Fault Refusal := s.take State.gradeExpires

/-! ### The slot write (R110 to R115) -/

/-- A slot write starts where its three conditions hold (R110). -/
def State.writeStarts (s : State) (ecc : EccRead) : State := if s.writeCanStart then s.startWrite ecc else s

/-- A slot write starts (R110, R111; log entry 5). -/
def execSlotWriteStart (ecc : EccRead) (s : State) : Host.Outcome State Fault Refusal :=
  s.take (fun t => t.writeStarts ecc)

/-- The card answers the block sent (R112). -/
def State.takeBlockAnswer (s : State) (result : BlockResult) (ecc : EccRead) : State :=
  match s.cp.awaits .block, s.cp.write with
  | true, some w =>
    match result with
    | .accepted => s.blockAccepted w ecc
    | .checkError => s.failAttempt
    | .writeError => s.failAttempt
  | _, _ => s

/-- The card answers a block (R112, R114). -/
def execBlockAnswer (result : BlockResult) (ecc : EccRead) (s : State) : Host.Outcome State Fault Refusal :=
  s.take (fun t => t.takeBlockAnswer result ecc)

/-- A block's answer does not come in time (R112, R114). -/
def State.blockExpires (s : State) : State :=
  if s.cp.awaits .block then (s.reach s.cardDeadline).failAttempt else s

/-- A block's answer does not come within the BUSY TIMEOUT (R112). -/
def execBlockAnswerTimeout (s : State) : Host.Outcome State Fault Refusal := s.take State.blockExpires

/-- The busy timer in SETTLING expires: the attempt fails (R113, R114). -/
def State.busyExpires (s : State) : State :=
  if s.cp.awaits .settled then (s.reach s.cardDeadline).failAttempt else s

/-- The busy timer in SETTLING expires (R113). -/
def execBusyTimerExpiry (s : State) : Host.Outcome State Fault Refusal := s.take State.busyExpires

/-- A slot write succeeds; a trailer's completion can end a power close (R113, R134, step 5). -/
def State.finishWrite (s : State) (w : SlotWrite) : State :=
  if (s.sb.slot (w.slot.getD 0)).trailer then (s.writeSucceeds w).endPowerClose else s.writeSucceeds w

/-- The card reports ready: in SETTLING the write succeeds, after STOP the next step is decided (R113, R114). A report
raised before STOP reached the card and taken behind the busy timer's deadline is ignored (R113; log entry 36). -/
def State.takeReady (s : State) (moment : ReportMoment) (ecc : EccRead) : State :=
  match s.cp.write with
  | some w =>
    if s.cp.awaits .settled then s.finishWrite w
    else if s.cp.awaits .stopped ∧ moment = .afterStop then s.afterStop w ecc
    else s
  | none => s

/-- The card reports ready (R113, R114). -/
def execReadyReport (report : ReadyReport) (s : State) : Host.Outcome State Fault Refusal :=
  s.take (fun t => t.takeReady report.moment report.ecc)

/-- The card does not report ready in time after STOP: it is declared FAILED (R114, R116). -/
def State.stopExpires (s : State) : State :=
  if s.cp.awaits .stopped then (s.reach s.cardDeadline).declareFailed else s

/-- The wait after STOP expires (R114, R116). -/
def execStopTimeout (s : State) : Host.Outcome State Fault Refusal := s.take State.stopExpires

/-! ### SET CARD GRADE (R108) -/

/-- SET CARD GRADE clamps its value to 0 to 3 and makes it the set grade (R108). -/
def State.setCardGrade (s : State) (v : Nat) : State × CommandResult :=
  (s.setCard (fun c => { c with setGrade := clampNat 0 3 v }), .done (.grade (clampNat 0 3 v)))

/-- SET CARD GRADE, code 0x0C: value (1) (R108). -/
def execSetCardGrade (tag : Byte) (params : List Byte) (s : State) : Host.Outcome State Fault Refusal :=
  s.take (fun t => t.control tag 0x0C (decide (params.length = 1)) false (fun u => u.setCardGrade (beNat params)))

end Sys2Proof.Machine
end

