-- ==== Sys2Proof/Machine/Control.lean ====
section
/-!
DEFINITION. What the Link Port does itself: bad cells, the end of a sent cell, unknown commands, queries, counters,
SET TIME and RESTART (chapter 11).
-/
namespace Sys2Proof.Machine

/-- An inbound cell that fails a test of R168 is dropped and counted. -/
def execCellBadCheck (s : State) : Host.Outcome State Fault Refusal := s.take (fun t => t.count .cellsBadCheck)

/-- The last byte of the cell in sending is sent: the link is free (R174). -/
def State.freeLink (s : State) : State := s.setLink (fun l => { l with sending := none })

/-- The cell in sending is sent, and the arbiter takes the next (R174). -/
def execCellSent (s : State) : Host.Outcome State Fault Refusal := s.take State.freeLink

/-! ### Unknown commands (R170, R171, R175; log entry 20) -/

/-- A COMMAND CODE names a command (R179). -/
def codeKnown (code : Byte) : Bool := decide (1 ≤ code.toNat ∧ code.toNat ≤ 19)

/-- A LOAD TABLE whose TABLE byte is missing or names no table (R171, R178). -/
def noTable (params : List Byte) : Bool :=
  match params with
  | [] => true
  | b :: _ => (TableName.ofCode b.toNat).isNone

/-- A QUERY that has no SUBJECT byte, or one that names nothing (R175, R179). -/
def noSubject (params : List Byte) : Bool :=
  match params with
  | [] => true
  | b :: _ => decide (5 < b.toNat)

/-- A CONTROL cell whose COMMAND CODE, TABLE or SUBJECT names nothing (R170, R171, R175). A cell that does name a
command is not this row's, and leaves the part as it is. -/
def State.takeUnknown (s : State) (tag code : Byte) (params : List Byte) : State :=
  if !codeKnown code then s.control tag code true true (fun t => t.answered (.refused .unknown))
  else if code = 0x01 ∧ noTable params then
    s.control tag code (!params.isEmpty) false (fun t => t.answered (.refused .badRange))
  else if code = 0x11 ∧ noSubject params then
    s.control tag code (decide (params.length = 5)) true (fun t => t.answered (.refused .badRange))
  else s

/-- A CONTROL cell that names nothing (R170, R171, R175). -/
def execUnknownCommand (tag code : Byte) (params : List Byte) (s : State) : Host.Outcome State Fault Refusal :=
  s.take (fun t => t.takeUnknown tag code params)

/-! ### QUERY (R103, R122, R175) -/

/-- The frame of a QUERY: code 0x11, taken in every standby state; the argument is the 4 bytes after SUBJECT. -/
def State.query (s : State) (tag : Byte) (argument : List Byte) (answer : State → CommandResult) : State :=
  s.control tag 0x11 (decide (argument.length = 4)) true (fun t => t.answered (answer t))

/-- A snapshot of bytes. -/
def snapshot (bytes : List Byte) : CommandResult := .done (.snapshot bytes)

/-- The answer of QUERY CLIP (R122). -/
def State.clipResult (s : State) (n : Nat) : CommandResult :=
  match s.clc.clip n with
  | some c => snapshot (clipAnswer c)
  | none => .refused .badRange

/-- The answer of QUERY TABLE (R175). -/
def State.tableResult (s : State) (code : Nat) : CommandResult :=
  match TableName.ofCode code with
  | some name => snapshot (tableAnswer s name)
  | none => .refused .badRange

/-- QUERY STATUS (R175). -/
def execQueryStatus (tag : Byte) (argument : List Byte) (s : State) : Host.Outcome State Fault Refusal :=
  s.take (fun t => t.query tag argument (fun u => snapshot (statusAnswer u)))

/-- QUERY CLIP (R122). -/
def execQueryClip (tag : Byte) (argument : List Byte) (s : State) : Host.Outcome State Fault Refusal :=
  s.take (fun t => t.query tag argument (fun u => u.clipResult (beNat argument)))

/-- QUERY EXTENTS (R103). -/
def execQueryExtents (tag : Byte) (argument : List Byte) (s : State) : Host.Outcome State Fault Refusal :=
  s.take (fun t => t.query tag argument (fun u => snapshot (extentsAnswer u)))

/-- QUERY PROTECT (R103). -/
def execQueryProtect (tag : Byte) (argument : List Byte) (s : State) : Host.Outcome State Fault Refusal :=
  s.take (fun t => t.query tag argument (fun u => snapshot (protectAnswer u)))

/-- QUERY COUNTERS (R175). -/
def execQueryCounters (tag : Byte) (argument : List Byte) (s : State) : Host.Outcome State Fault Refusal :=
  s.take (fun t => t.query tag argument (fun u => snapshot (countersAnswer u)))

/-- QUERY TABLE (R175). -/
def execQueryTable (tag : Byte) (argument : List Byte) (s : State) : Host.Outcome State Fault Refusal :=
  s.take (fun t => t.query tag argument (fun u => u.tableResult (beNat argument)))

/-! ### CLEAR COUNTERS, SET TIME (R175, R176) -/

/-- CLEAR COUNTERS (R175). -/
def State.clearCounters (s : State) : State × CommandResult :=
  (s.setLink (fun l => { l with counters := Counters.zero }), .done .plain)

/-- CLEAR COUNTERS, code 0x12 (R175). -/
def execClearCounters (tag : Byte) (params : List Byte) (s : State) : Host.Outcome State Fault Refusal :=
  s.take (fun t => t.control tag 0x12 (decide (params.length = 0)) false State.clearCounters)

/-- SET TIME: part time becomes the value, and every deadline keeps the interval it had left (R176). -/
def State.moveTime (s : State) (now : Time) : State :=
  let d := now - s.smn.partTime
  { s with
    me := { s.me with gapDeadline := s.me.gapDeadline.map (· + d) }
    cp := { s.cp with
      settle := s.cp.settle.map (· + d)
      wait := s.cp.wait.map (fun w => { w with deadline := w.deadline + d }) }
    clc := { s.clc with drain := s.clc.drain.map (fun r => { r with deadline := r.deadline + d }) }
    smn := { s.smn with partTime := now, wakeDeadline := s.smn.wakeDeadline.map (· + d) } }

/-- SET TIME (R176). -/
def State.setTime (s : State) (v : Nat) : State × CommandResult := (s.moveTime (BitVec.ofNat 48 v), .done .plain)

/-- SET TIME, code 0x0E: value (6) (R176). -/
def execSetTime (tag : Byte) (params : List Byte) (s : State) : Host.Outcome State Fault Refusal :=
  s.take (fun t => t.control tag 0x0E (decide (params.length = 6)) false (fun u => u.setTime (beNat params)))

/-! ### RESTART (R177) -/

/-- RESTART up to its result (R177): refused in STANDBY. -/
def State.restart (s : State) : State × CommandResult :=
  if s.inStandby then s.answered (.refused .standby) else (s.restartNow, .done .plain)

/-- A RESTART cell is carried out: it is taken, its length is right, and the part is ACTIVE (R170, R172, R177). -/
def State.restartAccepted (s : State) (params : List Byte) : Bool :=
  decide (s.lp.replies.length < 8 ∧ params.length = 0) && !s.inStandby

/-- A RESTART cell: the reply joins the emptied queue, then CLIP ABORTED is posted and the power close test is made
(R177, steps 4 to 6). -/
def State.takeRestart (s : State) (tag : Byte) (params : List Byte) : State :=
  let t := s.control tag 0x13 (decide (params.length = 0)) false State.restart
  if s.restartAccepted params then (t.postAborted s.clc.unfinished).powerCloseTest.endPowerClose else t

/-- RESTART, code 0x13 (R177). -/
def execRestart (tag : Byte) (params : List Byte) (s : State) : Host.Outcome State Fault Refusal :=
  s.take (fun t => t.takeRestart tag params)

end Sys2Proof.Machine
end

