-- ==== Sys2Proof/Machine/Motion.lean ====
section
/-!
DEFINITION. The Motion Engine: bursts and gaps, the sample event, the correction filter, the shock detector and the
MOTION table (chapter 1 and R57 to R61).
-/
namespace Sys2Proof.Machine

/-! ### The sample (R3, R4) -/

/-- A byte pair as a signed 16-bit value in a byte order (R3). -/
def pairValue (order : ByteOrder) (p : BytePair) : Int :=
  match order with
  | .highFirst => signed16 (256 * p.first.toNat + p.second.toNat)
  | .lowFirst => signed16 (256 * p.second.toNat + p.first.toNat)

/-- Negation that saturates (R4). -/
def negated (x : Int) : Int := if x = -32768 then 32767 else -x

/-- The rate a source names (R4). -/
def RateSource.rate (src : RateSource) (gx gy gz : Int) : Int :=
  match src with
  | .plusGx => gx
  | .minusGx => negated gx
  | .plusGy => gy
  | .minusGy => negated gy
  | .plusGz => gz
  | .minusGz => negated gz

/-- The mapped sample of a burst: decoded in the burst's byte order, mapped by the active table (R3, R4). -/
def mapBurst (t : MotionTable) (order : ByteOrder) (b : Burst) : Sample where
  yaw := t.yawSource.rate (pairValue order b.gx) (pairValue order b.gy) (pairValue order b.gz)
  pitch := t.pitchSource.rate (pairValue order b.gx) (pairValue order b.gy) (pairValue order b.gz)
  ax := pairValue order b.ax
  ay := pairValue order b.ay
  az := pairValue order b.az

/-! ### The correction filter (R12 to R16) -/

/-- The increment (R12). -/
def increment (t : MotionTable) (g : Int) : Int := roundInt (g * t.rateScale) 4096

/-- The effective leak shift (R13). -/
def Axis.leakShift (a : Axis) (t : MotionTable) : Nat := if a.guardOn then t.leakShift - 2 else t.leakShift

/-- The leak, rounded toward zero (R13). -/
def Axis.leak (a : Axis) (t : MotionTable) : Int := a.c.tdiv (2 ^ a.leakShift t : Nat)

/-- One filter step of an axis (R12 to R16): a hold counter above 0 skips it and falls by one (R15). -/
def Axis.step (a : Axis) (t : MotionTable) (g : Int) : Axis :=
  if 0 < a.hold then { a with last := 0, hold := a.hold - 1 }
  else { a with c := saturate (-Config.cLim) Config.cLim (a.c + increment t g - a.leak t), last := increment t g }

/-- A sample event at which the filter does not run: the hold counter still falls (R9, R15; log entry 26). -/
def Axis.rest (a : Axis) : Axis := { a with hold := a.hold - 1 }

/-- An axis when the motion state becomes LOST: correction, last increment and guard go (R7). -/
def Axis.lost (a : Axis) : Axis := ⟨0, 0, false, a.hold - 1⟩

/-! ### The shock detector (R57 to R60) -/

/-- The magnitude of a sample's acceleration (R57). -/
def Sample.magnitude (x : Sample) : Nat := (x.ax * x.ax + x.ay * x.ay + x.az * x.az).toNat

/-- A tested sample, and the PEAK and OVER COUNT of the SHOCK it raises, if any (R58, R59). -/
def Detector.test (d : Detector) (t : MotionTable) (m : Nat) : Detector × Option (Nat × Nat) :=
  let isOver := t.shockThreshold * t.shockThreshold < m
  let run := raise 15 d.run 1
  if d.raised then
    if isOver then ({ d with run := 0 }, none)
    else if t.shockCount ≤ run then (Detector.quiet, none)
    else ({ d with run := run }, none)
  else if isOver then
    let peak := if d.run = 0 then m else max d.peak m
    if t.shockCount ≤ run then (⟨true, 0, peak⟩, some (peak, run)) else (⟨false, run, peak⟩, none)
  else (Detector.quiet, none)

/-- The hold counters of both axes at a SHOCK (R61, step 2). -/
def State.holdAxes (s : State) : State :=
  s.setMotion (fun m => { m with
    yaw := { m.yaw with hold := m.table.hold }, pitch := { m.pitch with hold := m.table.hold } })

/-- The MARK record of a SHOCK, while ARMED or RECORDING (R61, step 3; R62). -/
def State.markShock (s : State) (peak overCount : Nat) : State :=
  if s.clc.mode = .idle then s else s.handRecord .mark (markPayload s.smn.partTime peak overCount)

/-- A SHOCK, in the order of R61. -/
def State.handleShock (s : State) (peak overCount : Nat) : State :=
  let r := ((s.count .shocks).holdAxes.markShock peak overCount).shockAction
  r.1.post .shock (.shock r.2.1 r.2.2)

/-- Step 6 of a sample event with a good sample (R57). -/
def State.testShock (s : State) (x : Sample) : State :=
  let r := s.me.detector.test s.me.table x.magnitude
  let t := s.setMotion (fun m => { m with detector := r.1 })
  match r.2 with
  | some shock => t.handleShock shock.1 shock.2
  | none => t

/-! ### The sample event (R10) -/

/-- Step 1: a pending MOTION table is taken (R21). -/
def State.takeMotionTable (s : State) : State :=
  match s.me.pendingTable with
  | some t => (s.setMotion (fun m => { m with table := t, pendingTable := none })).post .tableTaken (.table .motion)
  | none => s

/-- Step 4: the filter runs for yaw and for pitch (R12 to R16). -/
def State.filter (s : State) (x : Sample) : State :=
  s.setMotion (fun m => { m with yaw := m.yaw.step m.table x.yaw, pitch := m.pitch.step m.table x.pitch })

/-- A sample event at which the filter does not run. -/
def State.restAxes (s : State) : State :=
  s.setMotion (fun m => { m with yaw := m.yaw.rest, pitch := m.pitch.rest })

/-- The motion state becomes LOST (R7). -/
def State.loseMotion (s : State) : State :=
  (s.setMotion (fun m => { m with motion := .lost, yaw := m.yaw.lost, pitch := m.pitch.lost })).post .motionLost
    (.number s.lp.counters.sampleGaps)

/-- A good sample in LOST returns the motion state to TRACKING (R8). -/
def State.returnMotion (s : State) : State :=
  ((s.setMotion (fun m => { m with motion := .tracking })).restAxes).post .motionBack .nothing

/-- Steps 3 and 4 for a good sample: it becomes the last good sample, the gap count goes to 0, and it runs the filter
or returns the state from LOST (R6, R8). -/
def State.goodSample (s : State) (x : Sample) : State :=
  let t := s.setMotion (fun m => { m with gapCount := 0, lastGood := x })
  match s.me.motion with
  | .tracking => t.filter x
  | .lost => t.returnMotion

/-- Steps 3 and 4 for a substitute sample: at gap count 8 a TRACKING state becomes LOST (R7, R9). -/
def State.substituteSample (s : State) (x : Sample) : State :=
  match s.me.motion with
  | .tracking => if s.me.gapCount = 8 then s.loseMotion else s.filter x
  | .lost => s.restAxes

/-- An entry joins the motion queue; one that finds 64 waiting removes the oldest first (R19). -/
def joinQueue (q : List MotionEntry) (e : MotionEntry) : List MotionEntry :=
  (if 64 ≤ q.length then q.drop 1 else q) ++ [e]

/-- Step 5: while ARMED or RECORDING the sample joins the motion queue, and MOTION records are tried (R19, R85). -/
def State.queueSample (s : State) (x : Sample) (substitute : Bool) : State :=
  if s.clc.mode = .idle then s
  else (s.setMotion (fun m => { m with queue := joinQueue m.queue ⟨x, substitute⟩ })).pump

/-- A sample event with a good sample, after step 1 (R10). -/
def State.goodEvent (s : State) (x : Sample) : State := ((s.goodSample x).queueSample x false).testShock x

/-- A sample event with a substitute sample, after step 1 (R10). -/
def State.substituteEvent (s : State) (x : Sample) : State := (s.substituteSample x).queueSample x true

/-! ### Bursts and gaps (R1 to R6) -/

/-- The gap interval of a period in microseconds (R5). -/
def gapInterval (period : Nat) : Nat := roundNat (3 * period) 2

/-- The gap timer is restarted (R5). -/
def State.restartGap (s : State) : State :=
  s.setMotion (fun m => { m with gapDeadline := some (s.deadlineIn (gapInterval m.table.period)) })

/-- The sensor raises data-ready (R1, R2). -/
def State.takeDataReady (s : State) : State :=
  if s.me.reading then
    match s.me.burst with
    | some _ => s.count .sampleOverlaps
    | none =>
      State.restartGap (s.setMotion (fun m => { m with
        burst := some ⟨m.table.startAddress, m.table.byteOrder⟩ }))
  else s

/-- Data-ready (R1, R2). -/
def execDataReady (s : State) : Host.Outcome State Fault Refusal := s.take State.takeDataReady

/-- The burst in flight ends and its sample is a sample event; with no burst nothing happens (R3; log entry 3). -/
def State.takeSample (s : State) (bytes : Burst) : State :=
  match s.me.burst with
  | none => s
  | some b =>
    let t := (s.setMotion (fun m => { m with burst := none })).takeMotionTable
    t.goodEvent (mapBurst t.me.table b.byteOrder bytes)

/-- Sample arrival (R3, R10). -/
def execSampleArrival (bytes : Burst) (s : State) : Host.Outcome State Fault Refusal :=
  s.take (fun t => t.takeSample bytes)

/-- The gap timer reaches its deadline, in the order of R6; with the timer stopped nothing happens (log entry 3). -/
def State.takeGap (s : State) : State :=
  match s.me.gapDeadline with
  | none => s
  | some d =>
    let t := (((s.reach d).count .sampleGaps).restartGap).setMotion (fun m => { m with
      gapCount := raise 8 m.gapCount 1 })
    t.takeMotionTable.substituteEvent t.me.lastGood

/-- Gap expiry (R6, R10). -/
def execGapExpiry (s : State) : Host.Outcome State Fault Refusal := s.take State.takeGap

/-! ### The MOTION table (R20) -/

/-- LOAD TABLE for the MOTION table (R20). -/
def State.loadMotion (s : State) (fields : List Byte) : State × CommandResult :=
  match parseMotion fields with
  | .error k => s.answered (.refused (.badTable k))
  | .ok t => (s.setMotion (fun m => { m with pendingTable := some t }), .done .plain)

/-- LOAD TABLE for the MOTION table, code 0x01, 17 bytes of fields after the TABLE byte (R20, R179). -/
def execLoadTableMotion (tag : Byte) (fields : List Byte) (s : State) : Host.Outcome State Fault Refusal :=
  s.take (fun t => t.control tag 0x01 (decide (fields.length = 17)) false (fun u => u.loadMotion fields))

end Sys2Proof.Machine
end

