-- ==== Sys2Proof/Machine/Picture.lean ====
section
/-!
DEFINITION. The Window Unit and the Sensor Port: lens curves, lift and band entries, frames and lines, the outbound
line queue, and the LENS and WINDOW tables (chapters 2 and 3, R18).
-/
namespace Sys2Proof.Machine

/-- Change the frame record. -/
def State.setFrame (s : State) (f : FrameRecord → FrameRecord) : State :=
  s.setWindowUnit (fun w => { w with frame := w.frame.map f })

/-! ### From angle to pixels (R18, R24 to R28) -/

/-- The predicted correction of an axis (R18). -/
def Axis.predicted (a : Axis) (t : MotionTable) : Int :=
  saturate (-Config.cLim) Config.cLim (a.c + t.lead * a.last)

/-- The size of the pixel offset for a correction of size a, and BEYOND CURVE (R24, R25). -/
def curveOffset (shift : Nat) (points : List Nat) (a : Nat) : Nat × Bool :=
  let i := a / 2 ^ shift
  let f := a % 2 ^ shift
  let p := points.getD i 0
  let q := points.getD (i + 1) 0
  if i < 16 then (roundNat (p * 2 ^ shift + (q - p) * f) (2 ^ (shift + 4)), false)
  else (roundNat (points.getD 16 0) 16, true)

/-- The pixel offset of a correction, with its sign, and BEYOND CURVE (R24, R25). -/
def lensOffset (shift : Nat) (points : List Nat) (c : Int) : Int × Bool :=
  let o := curveOffset shift points c.natAbs
  (if c < 0 then -(o.1 : Int) else (o.1 : Int), o.2)

/-- The horizontal margin (R26). -/
def WindowTable.mh (w : WindowTable) : Nat := (w.win - w.wout) / 2

/-- The vertical margin (R26). -/
def WindowTable.mv (w : WindowTable) : Nat := (w.hin - w.hout) / 2

/-- An offset held within a margin (R27). -/
def clampOffset (margin : Nat) (p : Int) : Int := saturate (-(margin : Int)) (margin : Int) p

/-- The guard decision on an unclamped offset (R28). -/
def guardDecision (margin ratio : Nat) (p : Int) : Bool := decide (margin * ratio < 16 * p.natAbs)

/-- CLAMPED BANDS is counted where the clamp changed the value (R27). -/
def State.countClamped (s : State) (clamped : Bool) : State := if clamped then s.count .clampedBands else s

/-! ### The lift and the band entries (R30 to R33) -/

/-- The lift of a TRACKING answer (R30). -/
def liftOf (m : MotionEngine) (l : LensTable) (w : WindowTable) : Lift :=
  let o := lensOffset l.vShift l.vPoints (m.pitch.predicted m.table)
  { dy := clampOffset w.mv o.1, py := o.1, clamped := decide (clampOffset w.mv o.1 ≠ o.1), beyondCurve := o.2
    guardOn := guardDecision w.mv m.table.guardRatio o.1, lost := false }

/-- The lift of a LOST answer (R33). -/
def Lift.centred : Lift := ⟨0, 0, false, false, false, true⟩

/-- The band entry of a TRACKING answer (R32). -/
def entryOf (m : MotionEngine) (l : LensTable) (w : WindowTable) : BandEntry :=
  let o := lensOffset l.hShift l.hPoints (m.yaw.predicted m.table)
  { dx := clampOffset w.mh o.1, px := o.1, clamped := decide (clampOffset w.mh o.1 ≠ o.1), beyondCurve := o.2
    guardOn := guardDecision w.mh m.table.guardRatio o.1, lost := false }

/-- The band entry of a LOST answer (R33). -/
def BandEntry.centred : BandEntry := ⟨0, 0, false, false, false, true⟩

/-- The pitch guard is written (R17, R28, R29). -/
def State.writePitchGuard (s : State) (b : Bool) : State :=
  s.setMotion (fun m => { m with pitch := { m.pitch with guardOn := b } })

/-- The yaw guard is written (R17, R28, R29). -/
def State.writeYawGuard (s : State) (b : Bool) : State :=
  s.setMotion (fun m => { m with yaw := { m.yaw with guardOn := b } })

/-- A new frame record (R31, R44). -/
def FrameRecord.opened (number bands : Nat) (lift : Lift) : FrameRecord :=
  ⟨number, lift, bands, List.replicate bands none, 0, 0, 0⟩

/-- The frame record is opened with its lift (R31). -/
def State.openRecord (s : State) (w : WindowTable) (l : Lift) : State :=
  s.setWindowUnit (fun u => { u with frame := some (FrameRecord.opened s.sp.frameNumber w.bands l) })

/-- The frame's lift is formed and its record opened (R30, R31). -/
def State.openFrame (s : State) (w : WindowTable) : State :=
  match s.me.motion with
  | .lost => s.openRecord w Lift.centred
  | .tracking =>
    let l := liftOf s.me s.wu.lens w
    ((s.writePitchGuard l.guardOn).countClamped l.clamped).openRecord w l

/-- Band entry b is entered in the frame record (R32, step 4). -/
def State.enterBand (s : State) (b : Nat) (e : BandEntry) : State :=
  s.setFrame (fun f => { f with entries := f.entries.set b (some e) })

/-- Band entry b is formed (R32). -/
def State.formBand (s : State) (w : WindowTable) (b : Nat) : State :=
  match s.me.motion with
  | .lost => s.enterBand b BandEntry.centred
  | .tracking =>
    let e := entryOf s.me s.wu.lens w
    ((s.writeYawGuard e.guardOn).countClamped e.clamped).enterBand b e

/-! ### The outbound line queue (R50) -/

/-- A waiting cell is a LINE cell. -/
def PictureCell.isLine : PictureCell → Bool
  | .line .. => true
  | .frameEnd .. => false

/-- A cell joins the tail of the line queue. -/
def State.pushCell (s : State) (c : PictureCell) : State := s.setLink (fun l => { l with lines := l.lines ++ [c] })

/-- The WU places a LINE cell, or drops it with 8 waiting (R50). -/
def State.placeLine (s : State) (c : PictureCell) : State :=
  if s.lp.lines.countP PictureCell.isLine < 8 then
    (s.pushCell c).setFrame (fun f => { f with linesSent := f.linesSent + 1 })
  else (s.count .linesDropped).setFrame (fun f => { f with linesDropped := f.linesDropped + 1 })

/-- The WU places a FRAME END cell, or discards it with 4 waiting (R50). -/
def State.placeFrameEnd (s : State) (c : PictureCell) : State :=
  if s.lp.lines.countP (fun x => !x.isLine) < 4 then s.pushCell c else s

/-! ### Frames (R43, R44, R51, R52) -/

/-- FRAMES SHORT is counted for a SHORT frame (R51). -/
def State.countShort (s : State) (short : Bool) : State := if short then s.count .framesShort else s

/-- The frame record goes to the Slot Buffer while ARMED or RECORDING (R53). -/
def State.handFrame (s : State) (f : FrameRecord) : State :=
  if s.clc.mode = .idle then s else s.handRecord .frame (framePayload f)

/-- The WU closes its frame record, forced or not, in the order of R51 (R52). -/
def State.closeFrame (s : State) (forced : Bool) : State :=
  match s.wu.frame with
  | none => s
  | some f =>
    let short := forced || decide (f.linesSeen < s.wu.window.elim 0 (·.hin))
    (((s.countShort short).placeFrameEnd (.frameEnd f.number f.linesSent f.linesDropped short)).handFrame
      f).setWindowUnit (fun w => { w with frame := none })

/-- The pending LENS table is taken (R38, step 1). -/
def State.takeLens (s : State) : State :=
  match s.wu.pendingLens with
  | some t => (s.setWindowUnit (fun w => { w with lens := t, pendingLens := none })).post .tableTaken (.table .lens)
  | none => s

/-- The pending WINDOW table is taken (R38, step 2). -/
def State.takeWindow (s : State) : State :=
  match s.wu.pendingWindow with
  | some t =>
    (s.setWindowUnit (fun w => { w with window := some t, pendingWindow := none })).post .tableTaken (.table .window)
  | none => s

/-- The frame start at the WU, after the tables are taken (R39, R44). -/
def State.startRecordFrame (s : State) : State :=
  match s.wu.window with
  | some w => (s.openFrame w).setPort (fun p => { p with lineLimit := some w.hin })
  | none => s.setPort (fun p => { p with lineLimit := none })

/-- The SP clears frame open and hands the WU the frame end (R51, R52). -/
def State.endFrame (s : State) (forced : Bool) : State :=
  (s.setPort (fun p => { p with frameOpen := false })).closeFrame forced

/-- A FRAME START, in the order of R43; ignored while the stream is stopped (R42). -/
def State.takeFrameStart (s : State) : State :=
  if s.sp.running then
    let t := if s.sp.frameOpen then s.endFrame true else s
    ((t.setPort (fun p => { p with
      frameNumber := (p.frameNumber + 1) % 4294967296, expectedLine := 0, frameOpen := true })).takeLens
        ).takeWindow.startRecordFrame
  else s

/-- FRAME START (R43). -/
def execFrameStart (s : State) : Host.Outcome State Fault Refusal := s.take State.takeFrameStart

/-- A FRAME END (R51); ignored while the stream is stopped or no frame is open. -/
def State.takeFrameEnd (s : State) : State := if s.sp.running ∧ s.sp.frameOpen then s.endFrame false else s

/-- FRAME END (R51). -/
def execFrameEnd (s : State) : Host.Outcome State Fault Refusal := s.take State.takeFrameEnd

/-! ### Lines (R45 to R49) -/

/-- A line fitted to a width, and ADJUSTED (R48). -/
def fitLine (width : Nat) (pixels : List Pixel) : List Pixel × Bool :=
  if pixels.length = width then (pixels, false)
  else if pixels.length < width then
    (pixels ++ List.replicate (width - pixels.length) (pixels.getLastD 0), true)
  else (pixels.take width, true)

/-- The selected columns of a fitted line (R49). -/
def cutLine (left width : Nat) (pixels : List Pixel) : List Pixel := (pixels.drop left).take width

/-- The frame's top edge (R30). -/
def WindowTable.topEdge (w : WindowTable) (l : Lift) : Int := w.mv + l.dy

/-- A band's left edge (R32); an absent entry counts as centred, and a line is cut only after its band's entry is
formed (R47). -/
def WindowTable.leftEdge (w : WindowTable) (e : Option BandEntry) : Int := w.mh + e.elim 0 (·.dx)

/-- A fitted TAKEN line is selected for output, or left (R49). -/
def State.outputLine (s : State) (w : WindowTable) (l b : Nat) (fitted : List Pixel) (adjusted : Bool) : State :=
  match s.wu.frame with
  | none => s
  | some f =>
    let top := w.topEdge f.lift
    if top ≤ l ∧ (l : Int) < top + w.hout then
      s.placeLine (.line f.number (l - top).toNat b adjusted
        (cutLine (w.leftEdge (f.entries.getD b none)).toNat w.wout fitted))
    else s

/-- LINES MALFORMED is counted for a padded or cut line (R48). -/
def State.countAdjusted (s : State) (adjusted : Bool) : State := if adjusted then s.count .linesMalformed else s

/-- A TAKEN line whose band has no entry yet is that band's start (R47). -/
def State.startBand (s : State) (w : WindowTable) (b : Nat) : State :=
  match s.wu.frame with
  | some f => if (f.entries.getD b none).isNone then s.formBand w b else s
  | none => s

/-- The band of a line (R35, R47). -/
def WindowTable.bandOf (w : WindowTable) (l : Nat) : Nat := l / (w.hin / w.bands)

/-- A TAKEN line at the WU, in the order of R46. -/
def State.takenLine (s : State) (w : WindowTable) (l : Nat) (pixels : List Pixel) : State :=
  let b := w.bandOf l
  let fit := fitLine w.win pixels
  let t := (s.setFrame (fun f => { f with linesSeen := f.linesSeen + 1 })).startBand w b
  (t.countAdjusted fit.2).outputLine w l b fit.1 fit.2

/-- A line below the line limit: PASSED, or TAKEN (R45, R46). -/
def State.sortLine (s : State) (l : Nat) (pixels : List Pixel) : State :=
  if l < s.sp.expectedLine then s.count .linesMalformed
  else
    match s.wu.window with
    | some w => (s.setPort (fun p => { p with expectedLine := l + 1 })).takenLine w l pixels
    | none => s.setPort (fun p => { p with expectedLine := l + 1 })

/-- A LINE, sorted by its index (R42, R45, R46). -/
def State.takeLine (s : State) (index : BitVec 12) (pixels : List Pixel) : State :=
  if s.sp.running ∧ s.sp.frameOpen then
    match s.sp.lineLimit with
    | none => s
    | some limit => if limit ≤ index.toNat then s.count .linesMalformed else s.sortLine index.toNat pixels
  else s

/-- LINE (R45). -/
def execLine (index : BitVec 12) (pixels : List Pixel) (s : State) : Host.Outcome State Fault Refusal :=
  s.take (fun t => t.takeLine index pixels)

/-! ### The LENS and WINDOW tables (R34 to R37) -/

/-- LOAD TABLE for the LENS table (R34, R37). -/
def State.loadLens (s : State) (fields : List Byte) : State × CommandResult :=
  match parseLens fields with
  | .error k => s.answered (.refused (.badTable k))
  | .ok t => (s.setWindowUnit (fun w => { w with pendingLens := some t }), .done .plain)

/-- LOAD TABLE for the LENS table, code 0x01, 70 bytes of fields after the TABLE byte (R34, R179). -/
def execLoadTableLens (tag : Byte) (fields : List Byte) (s : State) : Host.Outcome State Fault Refusal :=
  s.take (fun t => t.control tag 0x01 (decide (fields.length = 70)) false (fun u => u.loadLens fields))

/-- The output-size test (R36). -/
def State.sizeRefused (s : State) (t : WindowTable) : Bool :=
  decide (s.clc.mode ≠ .idle) && s.wu.window.any (fun w => decide (t.wout ≠ w.wout ∨ t.hout ≠ w.hout))

/-- LOAD TABLE for the WINDOW table (R35 to R37). -/
def State.loadWindow (s : State) (fields : List Byte) : State × CommandResult :=
  match parseWindow fields with
  | .error k => s.answered (.refused (.badTable k))
  | .ok t =>
    if s.sizeRefused t then s.answered (.refused .recording)
    else (s.setWindowUnit (fun w => { w with pendingWindow := some t }), .done .plain)

/-- LOAD TABLE for the WINDOW table, code 0x01, 9 bytes of fields after the TABLE byte (R35, R179). -/
def execLoadTableWindow (tag : Byte) (fields : List Byte) (s : State) : Host.Outcome State Fault Refusal :=
  s.take (fun t => t.control tag 0x01 (decide (fields.length = 9)) false (fun u => u.loadWindow fields))

end Sys2Proof.Machine
end

