-- ==== Sys2Proof/Machine/Power.lean ====
section
/-!
DEFINITION. Power-on, the commands STANDBY and WAKE, and the end of a buffer wake (R163, R166, R167).
-/
namespace Sys2Proof.Machine

/-- Power-on: every block takes its power-on state, with the card-detect line at the level given (R167, and the
power-on rules of every block; log entry 7). The commands on their way stand outside the part. -/
def execPowerOn (cardPresent : Bool) (s : State) : Host.Outcome State Fault Refusal :=
  .next (State.powerOn cardPresent s.pending)

/-- The conditions of an accepted STANDBY in ACTIVE (R163). -/
def State.canPark (s : State) : Bool :=
  decide (s.clc.mode = .idle) && s.clc.openClip.isNone && !s.cp.writing

/-- STANDBY (R163); the end of a drain at the entry can end a power close (R137). -/
def State.standbyCommand (s : State) : State × CommandResult :=
  match s.smn.standby with
  | .active => if s.canPark then ((s.enterStandby .command).endPowerClose, .done .plain) else s.answered .busy
  | .standby => (s, .done .plain)
  | .waking => s.answered .busy

/-- STANDBY, code 0x0F (R163). -/
def execStandby (tag : Byte) (params : List Byte) (s : State) : Host.Outcome State Fault Refusal :=
  s.take (fun t => t.control tag 0x0F (decide (params.length = 0)) false State.standbyCommand)

/-- A level forbids a wake (R166). -/
def State.wakeRefused (s : State) : Bool := s.batteryDying || decide (s.smn.die = .critical)

/-- WAKE (R166). -/
def State.wakeCommand (s : State) : State × CommandResult :=
  match s.smn.standby with
  | .active => (s, .done .plain)
  | .standby => if s.wakeRefused then s.answered (.refused .lowPower) else (s.startWake, .done .plain)
  | .waking => s.answered .busy

/-- WAKE, code 0x10 (R166). -/
def execWake (tag : Byte) (params : List Byte) (s : State) : Host.Outcome State Fault Refusal :=
  s.take (fun t => t.control tag 0x10 (decide (params.length = 0)) false State.wakeCommand)

/-- The wake timer expires (R166); with no wake running nothing happens (log entry 3). -/
def State.wakeExpires (s : State) : State :=
  match s.smn.wakeDeadline with
  | some d => (s.reach d).endWake.checkPowerClose s
  | none => s

/-- The wake timer expires (R166). -/
def execWakeTimerExpiry (s : State) : Host.Outcome State Fault Refusal := s.take State.wakeExpires

end Sys2Proof.Machine
end

