-- ==== Sys2Proof/Machine/Recorder.lean ====
section
/-!
DEFINITION. The commands and events of the recorder: ARM, DISARM, START RECORD, STOP RECORD, ABORT CLIP, the RECORDER
table, CLIP cells and the drain deadline (chapter 8, R169).
-/
namespace Sys2Proof.Machine

/-- ARM, code 0x06 (R124). -/
def execArm (tag : Byte) (params : List Byte) (s : State) : Host.Outcome State Fault Refusal :=
  s.take (fun t => t.control tag 0x06 (decide (params.length = 0)) false State.arm)

/-- DISARM, code 0x07 (R125). -/
def execDisarm (tag : Byte) (params : List Byte) (s : State) : Host.Outcome State Fault Refusal :=
  s.take (fun t => t.control tag 0x07 (decide (params.length = 0)) false State.disarm)

/-- START RECORD, code 0x08 (R126). -/
def execStartRecord (tag : Byte) (params : List Byte) (s : State) : Host.Outcome State Fault Refusal :=
  s.take (fun t => t.control tag 0x08 (decide (params.length = 0)) false State.startRecord)

/-- STOP RECORD, code 0x09 (R128). -/
def execStopRecord (tag : Byte) (params : List Byte) (s : State) : Host.Outcome State Fault Refusal :=
  s.take (fun t => t.control tag 0x09 (decide (params.length = 0)) false State.stopRecord)

/-- ABORT CLIP (R135); the check for the end of a power close follows an accepted abort (R137). -/
def State.abortClip (s : State) (clip : Nat) : State × CommandResult :=
  match s.clc.clip clip with
  | none => s.answered (.refused .badRange)
  | some r =>
    match r.state with
    | .closed => s.answered (.refused .badRange)
    | .aborted => s.answered (.refused .badRange)
    | .opened => s.answered (.refused .recording)
    | .closing => if s.clipWriting clip then s.answered .busy else ((s.abortNow clip).endPowerClose, .done .plain)

/-- ABORT CLIP, code 0x0A: CLIP NUMBER (4) (R135). -/
def execAbortClip (tag : Byte) (params : List Byte) (s : State) : Host.Outcome State Fault Refusal :=
  s.take (fun t => t.control tag 0x0A (decide (params.length = 4)) false (fun u => u.abortClip (beNat params)))

/-- LOAD TABLE for the RECORDER table, code 0x01, 10 bytes of fields after the TABLE byte (R138, R179). -/
def execLoadTableRecorder (tag : Byte) (fields : List Byte) (s : State) : Host.Outcome State Fault Refusal :=
  s.take (fun t => t.control tag 0x01 (decide (fields.length = 10)) false (fun u => u.loadRecorder fields))

/-- The gap the sequence test finds at a CLIP cell (R169). -/
def LinkPort.gapAt (l : LinkPort) (sequence : BitVec 16) : Nat :=
  match l.expectedSequence with
  | some e => (sequence - e).toNat
  | none => 0

/-- The sequence test: the gap is counted and the expected value moves on (R169). -/
def State.sequenceTest (s : State) (sequence : BitVec 16) : State :=
  (s.countBy .clipCellsMissing (s.lp.gapAt sequence)).setLink (fun l => { l with
    expectedSequence := some (sequence + 1) })

/-- A CLIP cell's payload is 1 to 4,096 bytes (R168, test 3). -/
def clipLengthOk (payload : List Byte) : Bool := decide (1 ≤ payload.length ∧ payload.length ≤ 4096)

/-- A CLIP cell: the length test, the sequence test, and its place in the recorder (R168, R169, R121). Bits 0, 1 and 2
of FLAGS are SYNC, FRAME-END and LAST (R178). -/
def State.takeClipCell (s : State) (flags : Byte) (sequence : BitVec 16) (payload : List Byte) : State :=
  if clipLengthOk payload then
    (s.sequenceTest sequence).placeCell (s.lp.gapAt sequence) (flags.getLsbD 0) (flags.getLsbD 1) (flags.getLsbD 2)
      payload
  else s.count .cellsBadCheck

/-- A CLIP cell arrives (R121, R168, R169); the end of a drain can end a power close (R137). -/
def execClipCell (flags : Byte) (sequence : BitVec 16) (payload : List Byte) (s : State) :
    Host.Outcome State Fault Refusal :=
  s.take (fun t => (t.takeClipCell flags sequence payload).checkPowerClose t)

/-- The drain deadline expires (R129); with no drain nothing happens (log entry 3). -/
def State.drainExpires (s : State) : State :=
  match s.clc.drain with
  | some d => (s.reach d.deadline).endDrain.endPowerClose
  | none => s

/-- The drain deadline expires (R129, R137). -/
def execDrainTimeout (s : State) : Host.Outcome State Fault Refusal := s.take State.drainExpires

end Sys2Proof.Machine
end

