-- ==== Sys2Proof/Machine/Supply.lean ====
section
/-!
DEFINITION. The sweep: the Charge Controller's six steps, the Supply Monitor's classifications and cutoff, and the
charging commands (chapter 9, R159 to R162).
-/
namespace Sys2Proof.Machine

/-! ### Readings (R141) -/

/-- A reading beyond the ends of its range is given as the nearer end (R141). -/
def clampReadings (r : Readings) : Readings where
  vIn := saturate 0 20000 r.vIn
  iIn := saturate 0 5000 r.iIn
  vBat := saturate 0 5000 r.vBat
  iBat := saturate (-5000) 5000 r.iBat
  iSys := saturate 0 5000 r.iSys
  tBat := r.tBat.map (saturate (-400) 1250)
  tDie := saturate (-400) 1500 r.tDie

/-- A sweep completes: time has reached the sweep, the next one is 10 ms later, and its readings replace the last
(R141; log entry 1). -/
def State.beginSweep (s : State) (r : Readings) : State :=
  let t := if 0 < s.smn.sweepLeft then s.advance s.smn.sweepLeft.toNat else s
  t.setSupply (fun m => { m with sweepLeft := m.sweepLeft + Config.sweepPeriod, readings := some r })

/-- Step 1: the pending PROFILE table is taken (R155). -/
def State.takeProfile (s : State) : State :=
  match s.chg.pendingTable with
  | some t => (s.setCharge (fun c => { c with table := t, pendingTable := none })).post .tableTaken (.table .profile)
  | none => s

/-! ### Charger states (R146, R147) -/

/-- A row covers a temperature (R146). -/
def ProfileRow.covers (p : ProfileRow) (t : Int) : Bool := decide (p.tLow ≤ t ∧ t ≤ p.tHigh)

/-- The active row: it covers the temperature and its current limit is above 0; none for OPEN (R146). -/
def ProfileTable.activeRow (t : ProfileTable) (tBat : Option Int) : Option ProfileRow :=
  match tBat with
  | some x => t.rows.find? (fun p => p.covers x && decide (0 < p.current))
  | none => none

/-- The side on which a battery without an active row lies (R146). -/
def ProfileTable.side (t : ProfileTable) (x : Int) : ChargeReason :=
  let charging := t.rows.filter (fun p => decide (0 < p.current))
  if !charging.isEmpty && charging.all (fun p => decide (x < p.tLow)) then .cold else .hot

/-- A change of the charger state or its reason posts CHARGE STATE; no change posts nothing (R147). -/
def State.moveCharger (s : State) (state : ChargerState) (reason : Option ChargeReason) : State :=
  if s.chg.state = state ∧ s.chg.reason = reason then s
  else (s.setCharge (fun c => { c with state := state, reason := reason })).post .chargeState (.charger state reason)

/-- The first line of R147 that applies. -/
def chargeStartState (t : ProfileTable) (r : Readings) : ChargerState × Option ChargeReason :=
  match r.tBat with
  | none => (.fault, some .batteryAbsent)
  | some x =>
    match t.activeRow r.tBat with
    | none => (.paused, some (t.side x))
    | some _ => if r.vBat < 3000 then (.precharge, none) else (.fast, none)

/-- A charge start (R147). -/
def State.chargeStart (s : State) (r : Readings) : State :=
  s.moveCharger (chargeStartState s.chg.table r).1 (chargeStartState s.chg.table r).2

/-- The precharge, fast and termination counts go to 0. -/
def ChargeController.zeroCounts (c : ChargeController) : ChargeController :=
  { c with prechargeCount := 0, fastCount := 0, terminationCount := 0 }

/-! ### The input (R143, R144) -/

/-- The input switch opens or stays open: NO INPUT with a reason, the counts and the target 0 (R143, R144). -/
def State.openSwitch (s : State) (reason : ChargeReason) : State :=
  (s.setCharge (fun c => { c.zeroCounts with switchClosed := false, qualifyCount := 0, target := 0 })).moveCharger
    .noInput (some reason)

/-- Input arrival in a POWER standby starts a buffer wake unless the die level is CRITICAL (R165; log entry 17). -/
def State.inputArrives (s : State) : State :=
  if s.smn.standby = .standby ∧ s.smn.reason = some .power ∧ s.smn.die ≠ .critical then s.startWake else s

/-- The end of QUALIFY: the switch closes, the counts go to 0, and a charge start is made (R143, R165). -/
def State.admitInput (s : State) (r : Readings) : State :=
  ((s.setCharge (fun c => { c.zeroCounts with switchClosed := true })).chargeStart r).inputArrives

/-- A good voltage in QUALIFY: the count rises, and 200 ends QUALIFY (R143). -/
def State.qualifySweep (s : State) (r : Readings) : State :=
  let t := s.setCharge (fun c => { c with qualifyCount := raise 200 c.qualifyCount 1 })
  if t.chg.qualifyCount = 200 then t.admitInput r else t

/-- Step 2 with the switch open and no over-voltage (R143). -/
def State.openInput (s : State) (r : Readings) : State :=
  match s.chg.state with
  | .noInput =>
    if 4400 ≤ r.vIn then (s.setCharge (fun c => { c with qualifyCount := 1 })).moveCharger .qualify none else s
  | .qualify =>
    if r.vIn < 4400 then (s.setCharge (fun c => { c with qualifyCount := 0 })).moveCharger .noInput (some .removed)
    else s.qualifySweep r
  | _ => s

/-- Step 2: the input test (R143, R144). -/
def State.testInput (s : State) (r : Readings) : State :=
  if 6000 < r.vIn then
    if s.chg.state = .noInput ∧ s.chg.reason = some .overVoltage then s else s.openSwitch .overVoltage
  else if s.chg.switchClosed then (if r.vIn < 4200 then s.openSwitch .removed else s)
  else s.openInput r

/-! ### avail (R145) -/

/-- The reserve of the card (R108, R145). -/
def CardPort.reserve (c : CardPort) : Nat :=
  if c.card = .writing ∨ c.card = .settling then c.gradeInUse.elim 0 Grade.reserve else 0

/-- Step 3: avail (R145). -/
def State.formAvail (s : State) (r : Readings) : State :=
  s.setCharge (fun c => { c with avail := some ((c.inputLimit : Int) - r.iSys - s.cp.reserve - 50) })

/-! ### Battery and die levels (R159, R161, R162) -/

/-- The rail may lack current: the switch is open, or avail is below 0 (R159). -/
def ChargeController.short (c : ChargeController) : Bool := !c.switchClosed || c.avail.any (fun a => decide (a < 0))

/-- The critical count of a sweep (R159); it is not updated while the level is CRITICAL. -/
def criticalCountAfter (m : SupplyMonitor) (c : ChargeController) (vBat : Int) : Nat :=
  if m.battery = .critical then m.criticalCount
  else if vBat ≤ c.table.vCrit ∧ c.short then raise 3 m.criticalCount 1
  else 0

/-- The battery level a sweep moves to: the table of R159. -/
def batteryAfter (level : BatteryLevel) (count : Nat) (t : ProfileTable) (vBat : Int) : BatteryLevel :=
  match level with
  | .normal => if count = 3 then .critical else if vBat < t.vLow then .low else .normal
  | .low => if count = 3 then .critical else if (t.vLow : Int) + 100 ≤ vBat then .normal else .low
  | .critical =>
    if (t.vCrit : Int) + 200 < vBat then (if (t.vLow : Int) + 100 ≤ vBat then .normal else .low) else .critical

/-- A power close starts if the part is ACTIVE (R159, R161, R162). -/
def State.closeIfActive (s : State) (reason : PowerReason) : State :=
  if s.smn.standby = .active then s.startPowerClose reason else s

/-- The notices and the power close of a change of the battery level (R159). -/
def State.batteryMoved (s : State) (old : BatteryLevel) (vBat : Int) : State :=
  match old, s.smn.battery with
  | .normal, .low => s.post .batteryLow (.number vBat.toNat)
  | .normal, .critical => (s.post .batteryCritical (.number vBat.toNat)).closeIfActive .power
  | .low, .critical => (s.post .batteryCritical (.number vBat.toNat)).closeIfActive .power
  | _, _ => s

/-- The battery is classified (R159). -/
def State.classifyBattery (s : State) (r : Readings) : State :=
  let count := criticalCountAfter s.smn s.chg r.vBat
  let level := batteryAfter s.smn.battery count s.chg.table r.vBat
  (s.setSupply (fun m => { m with
    battery := level, criticalCount := if level = .critical then 0 else count })).batteryMoved s.smn.battery r.vBat

/-- The highest level whose threshold a temperature reaches (R161). -/
def dieReached (t : Int) : DieLevel :=
  if 1150 ≤ t then .critical else if 1000 ≤ t then .hot else if 850 ≤ t then .warm else .normal

/-- The highest level that is NORMAL or whose leaving value a temperature is above (R161). -/
def dieHeld (t : Int) : DieLevel :=
  if 1100 < t then .critical else if 950 < t then .hot else if 800 < t then .warm else .normal

/-- The die level a sweep moves to: a rise, or else the fall (R161). -/
def dieAfter (level : DieLevel) (t : Int) : DieLevel :=
  if level.code < (dieReached t).code then dieReached t
  else if (dieHeld t).code < level.code then dieHeld t
  else level

/-- A change of the die level posts HEAT, and CRITICAL starts a power close (R161, R162). -/
def State.dieMoved (s : State) (old : DieLevel) : State :=
  if s.smn.die = old then s
  else if s.smn.die = .critical then (s.post .heat (.die s.smn.die)).closeIfActive .heat
  else s.post .heat (.die s.smn.die)

/-- The die is classified (R161). -/
def State.classifyDie (s : State) (r : Readings) : State :=
  (s.setSupply (fun m => { m with die := dieAfter m.die r.tDie })).dieMoved s.smn.die

/-! ### Transitions (R148, R149, R153) -/

/-- The termination count of a sweep in TAPER (R149). -/
def ChargeController.terminationAfter (c : ChargeController) (iBat : Int) : Nat :=
  if iBat < c.table.terminationCurrent ∧ c.table.terminationCurrent ≤ c.target then raise 10 c.terminationCount 1 else 0

/-- The lines of TAPER after the first three (R148, R149). -/
def State.taperSweep (s : State) (r : Readings) : State :=
  let n := s.chg.terminationAfter r.iBat
  let t := s.setCharge (fun c => { c with terminationCount := n })
  if n = 10 then t.moveCharger .full none else t

/-- The transitions of a charging state with an active row (R148). -/
def State.rowStep (s : State) (r : Readings) (row : ProfileRow) : State :=
  match s.chg.state with
  | .precharge =>
    if 3000 ≤ r.vBat then (s.setCharge (fun c => { c with fastCount := 0 })).moveCharger .fast none else s
  | .fast =>
    if (row.voltage : Int) - 10 ≤ r.vBat then
      (s.setCharge (fun c => { c with terminationCount := 0 })).moveCharger .taper none
    else s
  | .taper => if r.vBat < (row.voltage : Int) - 100 then s.moveCharger .fast none else s.taperSweep r
  | .full =>
    if r.vBat < (row.voltage : Int) - 100 then
      (s.setCharge (fun c => { c with fastCount := 0, terminationCount := 0 })).moveCharger .fast none
    else s
  | .paused => s.chargeStart r
  | _ => s

/-- The transitions of a charging state without an active row, T_bat not OPEN (R148). -/
def State.pauseStep (s : State) (x : Int) : State :=
  match s.chg.state with
  | .precharge => s.moveCharger .paused (some (s.chg.table.side x))
  | .fast => s.moveCharger .paused (some (s.chg.table.side x))
  | .taper => s.moveCharger .paused (some (s.chg.table.side x))
  | .paused => s.moveCharger .paused (some (s.chg.table.side x))
  | _ => s

/-- T_bat reads OPEN (R148); a FAULT keeps the reason with which it began (R153). -/
def State.absentStep (s : State) : State :=
  match s.chg.state with
  | .fault => s
  | .noInput => s
  | .qualify => s
  | _ => s.moveCharger .fault (some .batteryAbsent)

/-- The end of a FAULT for BATTERY ABSENT (R153). -/
def State.faultStep (s : State) (r : Readings) : State :=
  if s.chg.reason = some .batteryAbsent then (s.setCharge ChargeController.zeroCounts).chargeStart r else s

/-- Step 4: at most one transition, with the switch closed (R142, R148). -/
def State.chargeStep (s : State) (r : Readings) : State :=
  if s.chg.switchClosed then
    match r.tBat with
    | none => s.absentStep
    | some x =>
      if s.chg.state = .fault then s.faultStep r
      else
        match s.chg.table.activeRow r.tBat with
        | some row => s.rowStep r row
        | none => s.pauseStep x
  else s

/-! ### The target and the timers (R150, R152) -/

/-- PRECHARGE, FAST and TAPER, the states with a target (R150). -/
def ChargerState.charging : ChargerState → Bool
  | .precharge => true
  | .fast => true
  | .taper => true
  | _ => false

/-- The ceiling of a row (R150, line 1). -/
def ceilingOf (c : ChargeController) (die : DieLevel) (row : ProfileRow) : Nat :=
  let half := if die = .hot then floor25 (row.current / 2) else row.current
  if c.state = .precharge then min half c.table.prechargeCurrent else half

/-- The budget of an avail (R150, line 2). -/
def budgetOf (avail : Option Int) : Nat := floor25 (avail.elim 0 Int.toNat)

/-- The target of a sweep (R150). -/
def targetOf (c : ChargeController) (die : DieLevel) (tBat : Option Int) : Nat :=
  match c.state.charging, c.table.activeRow tBat with
  | true, some row => if die = .critical then 0 else min (ceilingOf c die row) (budgetOf c.avail)
  | _, _ => 0

/-- Step 5: the target (R150). -/
def State.setTarget (s : State) (r : Readings) : State :=
  s.setCharge (fun c => { c with target := targetOf c s.smn.die r.tBat })

/-- The charger becomes FAULT for a timer, and the target 0 (R152). -/
def State.timerFault (s : State) (reason : ChargeReason) : State :=
  (s.setCharge (fun c => { c with target := 0 })).moveCharger .fault (some reason)

/-- The precharge count rises and is compared with its limit (R152). -/
def State.prechargeTick (s : State) : State :=
  let n := raise 720000 s.chg.prechargeCount 1
  let t := s.setCharge (fun c => { c with prechargeCount := n })
  if s.chg.table.prechargeTimer * 6000 ≤ n then t.timerFault .prechargeTimer else t

/-- The fast count rises and is compared with its limit (R152). -/
def State.fastTick (s : State) : State :=
  let n := raise 7200000 s.chg.fastCount 1
  let t := s.setCharge (fun c => { c with fastCount := n })
  if s.chg.table.fastTimer * 6000 ≤ n then t.timerFault .fastTimer else t

/-- Step 6: the safety timers; a sweep whose target is 0 is not counted (R152). -/
def State.tickTimers (s : State) : State :=
  if s.chg.target = 0 then s
  else
    match s.chg.state with
    | .precharge => s.prechargeTick
    | .fast => s.fastTick
    | .taper => s.fastTick
    | _ => s

/-! ### The whole sweep (R142, R160, R162) -/

/-- Steps 1 to 3, with the classifications that follow avail (R142, R159, R161). No rule says whether the
classifications and their notices come before or after step 4; here they come before it (DESIGN CHOICE, log
entry 38). -/
def State.sweepHead (s : State) (r : Readings) : State :=
  ((((s.beginSweep r).takeProfile.testInput r).formAvail r).classifyBattery r).classifyDie r

/-- Cutoff: the switch is open and V_bat is at or below V CUT (R160). The switch is the one that step 2 of this sweep
has left, which R160 does not say (DESIGN CHOICE, log entry 39). -/
def State.cutsOff (s : State) (r : Readings) : Bool := decide (r.vBat ≤ s.chg.table.vCut) && !s.chg.switchClosed

/-- The part goes dark, and every piece of its state is lost; the pin and the commands on their way stand outside it
(R160). -/
def State.goDark (s : State) : State := { State.powerOn s.cp.rawDetect s.pending with powered := false }

/-- The end of a sweep: cutoff, or standby entry at the end of a power close (R160, R162). -/
def State.endSweep (s old : State) (r : Readings) : State := if s.cutsOff r then s.goDark else s.checkPowerClose old

/-- A sweep, with readings inside their ranges (R142). -/
def State.sweepWith (s : State) (r : Readings) : State :=
  ((((s.sweepHead r).chargeStep r).setTarget r).tickTimers).endSweep s r

/-- A completed sweep (R141, R142). -/
def State.takeSweep (s : State) (r : Readings) : State := s.sweepWith (clampReadings r)

/-- A completed sweep (R142). -/
def execSweep (readings : Readings) (s : State) : Host.Outcome State Fault Refusal :=
  s.take (fun t => t.takeSweep readings)

/-- A sweep that is the event of a row of the table; where the readings do not make that event, nothing happens
(log entry 6). -/
def State.takeSweepIf (s : State) (happens : Bool) (r : Readings) : State := if happens then s.takeSweep r else s

/-- This sweep ends QUALIFY (R143): the switch is open before step 2 and closed after it. -/
def State.qualifyEnds (s : State) (r : Readings) : Bool :=
  !s.chg.switchClosed && (s.sweepHead (clampReadings r)).chg.switchClosed

/-- The sweep at which the qualify count reaches 200 (R143). -/
def execQualifyEnd (readings : Readings) (s : State) : Host.Outcome State Fault Refusal :=
  s.take (fun t => t.takeSweepIf (t.qualifyEnds readings) readings)

/-- This sweep's step 4 brings the termination count to 10 (R149). -/
def State.terminates (s : State) (r : Readings) : Bool :=
  decide ((s.sweepHead (clampReadings r)).chg.state = .taper ∧
    ((s.sweepHead (clampReadings r)).chargeStep (clampReadings r)).chg.state = .full)

/-- The sweep at which the termination count reaches 10 (R149). -/
def execTerminationCountReached (readings : Readings) (s : State) : Host.Outcome State Fault Refusal :=
  s.take (fun t => t.takeSweepIf (t.terminates readings) readings)

/-- This sweep's step 6 brings a safety count to its limit (R152). -/
def State.timerExpires (s : State) (r : Readings) : Bool :=
  let t := ((s.sweepHead (clampReadings r)).chargeStep (clampReadings r)).setTarget (clampReadings r)
  decide (t.chg.state ≠ .fault ∧ t.tickTimers.chg.state = .fault)

/-- The sweep at which a safety count reaches its limit (R152). -/
def execSafetyTimerExpiry (readings : Readings) (s : State) : Host.Outcome State Fault Refusal :=
  s.take (fun t => t.takeSweepIf (t.timerExpires readings) readings)

/-- This sweep makes the battery level CRITICAL (R159). -/
def State.batteryFails (s : State) (r : Readings) : Bool :=
  decide (s.smn.battery ≠ .critical ∧ (s.sweepHead (clampReadings r)).smn.battery = .critical)

/-- The sweep at which the critical count reaches 3 (R159). -/
def execCriticalCountReached (readings : Readings) (s : State) : Host.Outcome State Fault Refusal :=
  s.take (fun t => t.takeSweepIf (t.batteryFails readings) readings)

/-! ### Commands (R154, R156, R157) -/

/-- SET INPUT LIMIT (R156). -/
def State.setInputLimit (s : State) (v : Nat) : State × CommandResult :=
  (s.setCharge (fun c => { c with inputLimit := floor25 (clampNat 100 3000 v) }),
    .done (.limit (floor25 (clampNat 100 3000 v))))

/-- SET INPUT LIMIT, code 0x0B: value (2) (R156). -/
def execSetInputLimit (tag : Byte) (params : List Byte) (s : State) : Host.Outcome State Fault Refusal :=
  s.take (fun t => t.control tag 0x0B (decide (params.length = 2)) false (fun u => u.setInputLimit (beNat params)))

/-- The charge cycle starts again from the latest readings (R157). -/
def State.restartCharge (s : State) : State :=
  let t := s.setCharge (fun c => { c.zeroCounts with target := 0 })
  match t.smn.readings with
  | some r => t.chargeStart r
  | none => t

/-- CHARGE RESET (R157). -/
def State.chargeReset (s : State) : State × CommandResult :=
  match s.chg.state with
  | .noInput => (s, .done .plain)
  | .qualify => (s, .done .plain)
  | _ => (s.restartCharge, .done .plain)

/-- CHARGE RESET, code 0x0D (R157). -/
def execChargeReset (tag : Byte) (params : List Byte) (s : State) : Host.Outcome State Fault Refusal :=
  s.take (fun t => t.control tag 0x0D (decide (params.length = 0)) false State.chargeReset)

/-- LOAD TABLE for the PROFILE table (R154). -/
def State.loadProfile (s : State) (fields : List Byte) : State × CommandResult :=
  match parseProfile fields with
  | .error k => s.answered (.refused (.badTable k))
  | .ok t => (s.setCharge (fun c => { c with pendingTable := some t }), .done .plain)

/-- LOAD TABLE for the PROFILE table, code 0x01, 62 bytes of fields after the TABLE byte (R154, R179). -/
def execLoadTableProfile (tag : Byte) (fields : List Byte) (s : State) : Host.Outcome State Fault Refusal :=
  s.take (fun t => t.control tag 0x01 (decide (fields.length = 62)) false (fun u => u.loadProfile fields))

end Sys2Proof.Machine
end

