-- ==== Sys2Proof/Machine/Dispatch.lean ====
section
/-!
DEFINITION. Which meaning each command has: one arm for each row of spec/opcode_table.json.
-/
namespace Sys2Proof.Machine

/-- The effect of one command on everything but the queue. -/
def exec (i : Instr) (s : State) : Host.Outcome State Fault Refusal :=
  match i with
  | .powerOn cardPresent => Sys2Proof.Machine.execPowerOn cardPresent s
  | .dataReady => Sys2Proof.Machine.execDataReady s
  | .sampleArrival bytes => Sys2Proof.Machine.execSampleArrival bytes s
  | .gapExpiry => Sys2Proof.Machine.execGapExpiry s
  | .frameStart => Sys2Proof.Machine.execFrameStart s
  | .line index pixels => Sys2Proof.Machine.execLine index pixels s
  | .frameEnd => Sys2Proof.Machine.execFrameEnd s
  | .cellBadCheck => Sys2Proof.Machine.execCellBadCheck s
  | .clipCell flags sequence payload => Sys2Proof.Machine.execClipCell flags sequence payload s
  | .drainTimeout => Sys2Proof.Machine.execDrainTimeout s
  | .cellSent => Sys2Proof.Machine.execCellSent s
  | .unknownCommand tag code params => Sys2Proof.Machine.execUnknownCommand tag code params s
  | .loadTableMotion tag fields => Sys2Proof.Machine.execLoadTableMotion tag fields s
  | .loadTableLens tag fields => Sys2Proof.Machine.execLoadTableLens tag fields s
  | .loadTableWindow tag fields => Sys2Proof.Machine.execLoadTableWindow tag fields s
  | .loadTableRecorder tag fields => Sys2Proof.Machine.execLoadTableRecorder tag fields s
  | .loadTableProfile tag fields => Sys2Proof.Machine.execLoadTableProfile tag fields s
  | .appendExtent tag params => Sys2Proof.Machine.execAppendExtent tag params s
  | .clearExtents tag params => Sys2Proof.Machine.execClearExtents tag params s
  | .addProtect tag params => Sys2Proof.Machine.execAddProtect tag params s
  | .removeProtect tag params => Sys2Proof.Machine.execRemoveProtect tag params s
  | .arm tag params => Sys2Proof.Machine.execArm tag params s
  | .disarm tag params => Sys2Proof.Machine.execDisarm tag params s
  | .startRecord tag params => Sys2Proof.Machine.execStartRecord tag params s
  | .stopRecord tag params => Sys2Proof.Machine.execStopRecord tag params s
  | .abortClip tag params => Sys2Proof.Machine.execAbortClip tag params s
  | .setCardGrade tag params => Sys2Proof.Machine.execSetCardGrade tag params s
  | .setInputLimit tag params => Sys2Proof.Machine.execSetInputLimit tag params s
  | .chargeReset tag params => Sys2Proof.Machine.execChargeReset tag params s
  | .setTime tag params => Sys2Proof.Machine.execSetTime tag params s
  | .standby tag params => Sys2Proof.Machine.execStandby tag params s
  | .wake tag params => Sys2Proof.Machine.execWake tag params s
  | .queryStatus tag argument => Sys2Proof.Machine.execQueryStatus tag argument s
  | .queryClip tag argument => Sys2Proof.Machine.execQueryClip tag argument s
  | .queryExtents tag argument => Sys2Proof.Machine.execQueryExtents tag argument s
  | .queryProtect tag argument => Sys2Proof.Machine.execQueryProtect tag argument s
  | .queryCounters tag argument => Sys2Proof.Machine.execQueryCounters tag argument s
  | .queryTable tag argument => Sys2Proof.Machine.execQueryTable tag argument s
  | .clearCounters tag params => Sys2Proof.Machine.execClearCounters tag params s
  | .restart tag params => Sys2Proof.Machine.execRestart tag params s
  | .detectLineChange => Sys2Proof.Machine.execDetectLineChange s
  | .detectAsserted => Sys2Proof.Machine.execDetectAsserted s
  | .detectReleased => Sys2Proof.Machine.execDetectReleased s
  | .resetWaitExpiry => Sys2Proof.Machine.execResetWaitExpiry s
  | .identifyAnswer answer => Sys2Proof.Machine.execIdentifyAnswer answer s
  | .identifyTimeout => Sys2Proof.Machine.execIdentifyTimeout s
  | .setGradeAnswer ecc => Sys2Proof.Machine.execSetGradeAnswer ecc s
  | .setGradeTimeout => Sys2Proof.Machine.execSetGradeTimeout s
  | .slotWriteStart ecc => Sys2Proof.Machine.execSlotWriteStart ecc s
  | .blockAnswer result ecc => Sys2Proof.Machine.execBlockAnswer result ecc s
  | .blockAnswerTimeout => Sys2Proof.Machine.execBlockAnswerTimeout s
  | .busyTimerExpiry => Sys2Proof.Machine.execBusyTimerExpiry s
  | .readyReport report => Sys2Proof.Machine.execReadyReport report s
  | .stopTimeout => Sys2Proof.Machine.execStopTimeout s
  | .sweep readings => Sys2Proof.Machine.execSweep readings s
  | .qualifyEnd readings => Sys2Proof.Machine.execQualifyEnd readings s
  | .terminationCountReached readings => Sys2Proof.Machine.execTerminationCountReached readings s
  | .safetyTimerExpiry readings => Sys2Proof.Machine.execSafetyTimerExpiry readings s
  | .criticalCountReached readings => Sys2Proof.Machine.execCriticalCountReached readings s
  | .wakeTimerExpiry => Sys2Proof.Machine.execWakeTimerExpiry s

end Sys2Proof.Machine
end

