-- ==== Sys2Proof/Machine/Step.lean ====
section
/-!
DEFINITION. One step of the part: the command at the front of the queue, or a microsecond of time.
-/
namespace Sys2Proof.Machine

/-- On an empty queue a part with supply lets a microsecond pass, and a dark part idles (log entry 2). -/
def State.idle (s : State) : State := if s.powered then s.advance 1 else s

/-- One step: the command at the front of the queue runs on the rest. -/
def step (s : State) : Host.Outcome State Fault Refusal :=
  match s.pending with
  | c :: rest => exec c { s with pending := rest }
  | [] => .next s.idle

/-- The state with the command that a word spells put at the front of its queue; no word spells one. -/
def State.withFetchWord (s : State) (nbits w : Nat) : State :=
  match decodeTableWord nbits w with
  | some c => { s with pending := c :: s.pending }
  | none => s

end Sys2Proof.Machine
end

