-- ==== Sys2Proof/Safety.lean ====
section
/-!
DEFINITION. What counts as a safe state of the part: the laws and standing limits of the spec that hold at every moment,
in the terms the statements use.
-/
namespace Sys2Proof.Machine

/-- The stacked DRAM's canonical form (R70; log entry 8). -/
def State.memoryOk (s : State) : Prop := Memory.wf s.sb.mem = true

/-- The ninth law: the notice queue holds at most one entry of each kind (R173). -/
def State.noticesOk (s : State) : Prop := (s.lp.notices.map (·.kind)).Nodup

/-- Every COUNT of the notice queue lies from 1 to 65,535 (R173). -/
def State.noticeCountsOk (s : State) : Prop := ∀ n ∈ s.lp.notices, 1 ≤ n.count ∧ n.count ≤ 65535

/-- R14: each correction lies within C_LIM, and is 0 while the motion state is LOST. -/
def State.correctionOk (s : State) : Prop :=
  (-16777215 ≤ s.me.yaw.c ∧ s.me.yaw.c ≤ 16777215) ∧ (-16777215 ≤ s.me.pitch.c ∧ s.me.pitch.c ≤ 16777215) ∧
    (s.me.motion = .lost → s.me.yaw.c = 0 ∧ s.me.pitch.c = 0)

/-- R174: while the outbound link is free, no queue holds a cell. -/
def State.linkOk (s : State) : Prop :=
  s.lp.sending = none → s.lp.lines = [] ∧ s.lp.replies = [] ∧ s.lp.notices = []

/-- R172: the reply queue holds at most 8 replies. -/
def State.repliesOk (s : State) : Prop := s.lp.replies.length ≤ 8

/-- R50: at most 8 LINE cells and 4 FRAME END cells wait. -/
def State.linesOk (s : State) : Prop :=
  s.lp.lines.countP PictureCell.isLine ≤ 8 ∧ s.lp.lines.countP (fun c => !c.isLine) ≤ 4

/-- R175: every counter lies from 0 to 65,535. -/
def State.countersOk (s : State) : Prop := ∀ n ∈ s.lp.counters.all, n ≤ 65535

/-- R121, R123 and the tenth law: at most four clip records are held, at most one clip is OPEN, none outside RECORDING,
and a drain runs only while the mode is IDLE. -/
def State.recorderOk (s : State) : Prop :=
  s.clc.clips.length ≤ 4 ∧ s.clc.clips.countP (fun r => decide (r.state = .opened)) ≤ 1 ∧
    (s.clc.mode ≠ .recording → ∀ r ∈ s.clc.clips, r.state ≠ .opened) ∧
    (s.clc.drain.isSome → s.clc.mode = .idle)

/-- The ranges of the counts that R6, R19, R58, R108, R143, R149, R152 and R159 bound. -/
def State.countsOk (s : State) : Prop :=
  s.me.gapCount ≤ 8 ∧ s.me.queue.length ≤ 64 ∧ s.me.detector.run ≤ 15 ∧ s.cp.setGrade ≤ 3 ∧
    s.chg.qualifyCount ≤ 200 ∧ s.chg.terminationCount ≤ 10 ∧ s.chg.prechargeCount ≤ 720000 ∧
    s.chg.fastCount ≤ 7200000 ∧ s.smn.criticalCount ≤ 3

/-- R91 and the fifth law for extents: at most 64 extents, no two with a block in common, each a multiple of 128 blocks
with its USED part a multiple of 128 below its COUNT, and only the head used at all. -/
def State.extentsOk (s : State) : Prop :=
  s.xm.extents.length ≤ 64 ∧
    s.xm.extents.Pairwise (fun e g => overlaps e.first e.count g.first g.count = false) ∧
    (∀ e ∈ s.xm.extents, e.count % 128 = 0 ∧ e.used % 128 = 0 ∧ e.used < e.count) ∧
    (∀ e ∈ s.xm.extents.tail, e.used = 0)

/-- R99: the protect table has 16 places. -/
def State.placesOk (s : State) : Prop := s.xm.protect.length = 16

/-- The seventh law (R150): the target is 0 outside PRECHARGE, FAST and TAPER. -/
def State.targetOk (s : State) : Prop := s.chg.state.charging = false → s.chg.target = 0

/-- R143, R153: the input switch is closed exactly outside NO INPUT and QUALIFY. -/
def State.switchOk (s : State) : Prop :=
  s.chg.switchClosed = true ↔ s.chg.state ≠ .noInput ∧ s.chg.state ≠ .qualify

/-- R156: the input limit lies from 100 to 3,000 mA and is a multiple of 25. -/
def State.inputLimitOk (s : State) : Prop := 100 ≤ s.chg.inputLimit ∧ s.chg.inputLimit ≤ 3000 ∧ s.chg.inputLimit % 25 = 0

/-- The first law (R27): under an active WINDOW table the lift and every present band entry of the open frame record lie
within the margins of that table. -/
def State.cropOk (s : State) : Prop :=
  ∀ f w, s.wu.frame = some f → s.wu.window = some w →
    (-(w.mv : Int) ≤ f.lift.dy ∧ f.lift.dy ≤ w.mv) ∧
      ∀ e, some e ∈ f.entries → -(w.mh : Int) ≤ e.dx ∧ e.dx ≤ w.mh

/-- R120 and R164: in standby no card write is in flight, the card is ABSENT or OFF, nothing is awaited on the card bus,
and the card's supply is off. -/
def State.parkedOk (s : State) : Prop :=
  s.smn.standby ≠ .active →
    s.cp.write = none ∧ s.cp.wait = none ∧ (s.cp.card = .absent ∨ s.cp.card = .off) ∧ s.cp.supplyOn = false

/-- R164 and R166: a standby reason is present exactly in STANDBY and WAKING, and the wake timer runs exactly in
WAKING. -/
def State.reasonOk (s : State) : Prop :=
  (s.smn.reason.isSome ↔ s.smn.standby ≠ .active) ∧ (s.smn.wakeDeadline.isSome ↔ s.smn.standby = .waking)

/-- The fifth law (R91, R94): beside `extentsOk`, no unused part of an extent meets a protect range, and the position of a
write in flight is the cursor, the writer being MAPPING, SENDING or SETTLING. -/
def State.mapOk (s : State) : Prop :=
  s.extentsOk ∧
    (∀ e ∈ s.xm.extents, ∀ r, some r ∈ s.xm.protect →
      overlaps (e.first + e.used) (e.count - e.used) r.first r.count = false) ∧
    ∀ w, s.cp.write = some w → cursorOf s.xm.extents = some w.position ∧ s.cp.writing = true

/-- R122, R123, R134: clip records stand in rising clip-number order, below the next clip number, and an OPEN clip has no
trailer position. -/
def State.numbersOk (s : State) : Prop :=
  s.clc.clips.Pairwise (fun r q => r.number < q.number) ∧
    (∀ r ∈ s.clc.clips, 1 ≤ r.number ∧ r.number ≤ 4294967295 ∧ (r.state = .opened → r.trailerPosition = none)) ∧
    ∀ n, s.clc.nextClip = some n → 1 ≤ n ∧ n ≤ 4294967295 ∧ ∀ r ∈ s.clc.clips, r.number < n

/-- The twelfth law (R65 to R68): every block of the range list and of the trailer of a held clip that is LOCKED and not
LOCK PARTIAL lies in a LOCK range of that clip. -/
def State.lockedOk (s : State) : Prop :=
  ∀ r ∈ s.clc.clips, r.locked = true → r.lockPartial = false →
    ∀ g ∈ r.ranges ++ r.trailerPosition.toList.map (fun f => (f, 128)), ∀ x, g.1 ≤ x → x < g.1 + g.2 →
      ∃ p, some p ∈ s.xm.protect ∧ p.origin = .lock ∧ p.clip = some r.number ∧ p.first ≤ x ∧ x < p.first + p.count

/-- The slot numbers in use: FILLING, in the ring, in the write queue, and of the write in flight. -/
def State.placedSlots (s : State) : List Nat :=
  s.sb.filling.toList ++ s.sb.ring ++ s.sb.queue ++ (s.cp.write.bind (·.slot)).toList

/-- Each slot's STATE names the place where it is (R70): the slot at a place has that place's state, a listed slot is not
FREE, and one that is FILLING, PREROLL or QUEUED is at that place. -/
def State.statesOk (s : State) : Prop :=
  (∀ n, s.sb.filling = some n → (s.sb.slot n).state = .filling) ∧ (∀ n ∈ s.sb.ring, (s.sb.slot n).state = .preroll) ∧
    (∀ n ∈ s.sb.queue, (s.sb.slot n).state = .queued) ∧
    (∀ w n, s.cp.write = some w → w.slot = some n → (s.sb.slot n).state = .writing) ∧
    ∀ p ∈ s.sb.slots, p.2.state ≠ .free ∧ (p.2.state = .filling → s.sb.filling = some p.1) ∧
      (p.2.state = .preroll → p.1 ∈ s.sb.ring) ∧ (p.2.state = .queued → p.1 ∈ s.sb.queue)

/-- The third and fourth laws (R70, R78, R79): the slot table lists slots below 1,024 in order; no slot is at two of the
places FILLING, ring, write queue and write in flight, and none there is FREE; a write whose blocks are awaited has its
slot; the ring is empty unless ARMED and never holds more than the pre-roll depth, which is then above 0; and no slot is
FILLING in IDLE without a drain. -/
def State.bufferOk (s : State) : Prop :=
  s.sb.slots.Pairwise (fun p q => p.1 < q.1) ∧ (∀ p ∈ s.sb.slots, p.1 < 1024) ∧
    s.placedSlots.Nodup ∧ (∀ n ∈ s.placedSlots, (s.sb.slots.lookup n).isSome = true) ∧
    (∀ w, s.cp.write = some w → s.cp.awaits .block ∨ s.cp.awaits .settled ∨ s.cp.awaits .stopped → w.slot ≠ none) ∧
    (s.clc.mode ≠ .armed → s.sb.ring = []) ∧
    (s.clc.mode = .armed → s.sb.ring.length ≤ s.clc.table.prerollDepth ∧ 0 < s.clc.table.prerollDepth) ∧
    (s.sb.filling ≠ none → s.clc.mode ≠ .idle ∨ s.clc.drain ≠ none)

/-- The slot in state WRITING is the slot of the write in flight, so at most one is (R70, R110). -/
def State.writingOk (s : State) : Prop :=
  ∀ p ∈ s.sb.slots, p.2.state = .writing → ∃ w, s.cp.write = some w ∧ w.slot = some p.1

/-- A write in flight is MAPPING, SENDING or SETTLING on a card that is READY, WRITING or SETTLING. Its slot is not taken
yet while the SET GRADE answer is awaited, and is taken while a block's answer, the busy timer or the report after STOP
is (R110 to R114). -/
def State.flightOk (s : State) : Prop :=
  ∀ w, s.cp.write = some w → s.cp.writing = true ∧
    (s.cp.card = .ready ∨ s.cp.card = .writing ∨ s.cp.card = .settling) ∧
    (s.cp.awaits .writeGrade = true ∧ w.slot = none ∨
      (s.cp.awaits .block = true ∨ s.cp.awaits .settled = true ∨ s.cp.awaits .stopped = true) ∧ w.slot ≠ none)

/-! ### The tenth law (R134) and what it rests on -/

/-- A clip that is OPEN or CLOSING. -/
def ClipRecord.live (r : ClipRecord) : Prop := r.state = .opened ∨ r.state = .closing

/-- The slots that wait for the card: those of the write queue, and the slot of the write in flight. -/
def State.waitingSlots (s : State) : List Nat := s.sb.queue ++ (s.cp.write.bind (·.slot)).toList

/-- The clip number a slot is stamped with, 0 for none. -/
def State.clipOf (s : State) (n : Nat) : Nat := (s.sb.slot n).clip.getD 0

/-- How many trailers, or how many data slots, of a clip wait for the card. -/
def State.waitingOf (s : State) (clip : Nat) (trailer : Bool) : Nat :=
  s.waitingSlots.countP (fun n => decide ((s.sb.slot n).clip = some clip ∧ (s.sb.slot n).trailer = trailer))

/-- The tenth law for the write queue: every slot that waits is a live clip's, the queue holds slots of a clip only behind
those of lower-numbered clips, and the slot of the write in flight is of the lowest live clip (R77, R132, R134). No slot
that is still filled or in the ring is a trailer (R133). -/
def State.queueOk (s : State) : Prop :=
  (∀ n ∈ s.waitingSlots, ∃ r ∈ s.clc.clips, r.live ∧ (s.sb.slot n).clip = some r.number) ∧
    s.sb.queue.Pairwise (fun m n => s.clipOf m ≤ s.clipOf n) ∧
    (∀ w n, s.cp.write = some w → w.slot = some n → ∀ r ∈ s.clc.clips, r.live → s.clipOf n ≤ r.number) ∧
    ∀ n ∈ s.sb.filling.toList ++ s.sb.ring, (s.sb.slot n).trailer = false

/-- The accounts of the live clips: SLOT COUNT is WRITTEN and the clip's data slots that wait; its trailer waits exactly
where one was formed, and then its data is all written and it is the lowest live clip. An OPEN clip is the latest, and
its data is not done; the data of a CLOSING one is not done exactly while its drain runs (R75, R127 to R133). -/
def State.accountsOk (s : State) : Prop :=
  ∀ r ∈ s.clc.clips, r.live →
    s.waitingOf r.number false + r.written = r.slotCount ∧
    s.waitingOf r.number true = (if r.trailerFormed then 1 else 0) ∧
    (r.trailerFormed = true → r.state = .closing ∧ r.dataDone = true ∧ r.written = r.slotCount ∧
      ∀ q ∈ s.clc.clips, q.live → r.number ≤ q.number) ∧
    (r.state = .opened → r.dataDone = false ∧ ∀ q ∈ s.clc.clips, q.number ≤ r.number) ∧
    (r.state = .closing → (r.dataDone = false ↔ ∃ d, s.clc.drain = some d ∧ d.clip = r.number))

/-- The order in which clips end: a CLOSED clip is lower than every live one, the clip of a drain is CLOSING and the
latest, and no trailer that is due is left unformed (R128, R132, R134). -/
def State.endsOk (s : State) : Prop :=
  (∀ r ∈ s.clc.clips, r.state = .closed → ∀ q ∈ s.clc.clips, q.live → r.number < q.number) ∧
    (∀ d, s.clc.drain = some d → ∃ r ∈ s.clc.clips, r.state = .closing ∧ r.number = d.clip ∧
      ∀ q ∈ s.clc.clips, q.number ≤ r.number) ∧
    s.clc.trailerDue = none

/-- The tenth law with everything it rests on. -/
def State.tenthOk (s : State) : Prop :=
  s.recorderOk ∧ s.numbersOk ∧ s.bufferOk ∧ s.statesOk ∧ s.writingOk ∧ s.flightOk ∧ s.parkedOk ∧ s.reasonOk ∧
    s.queueOk ∧ s.accountsOk ∧ s.endsOk

/-- The eleventh law beside `parkedOk` (R164): in standby the mode is IDLE, no drain runs, and every slot is FREE or
QUEUED, none being FILLING or in the ring. -/
def State.quietOk (s : State) : Prop :=
  s.smn.standby ≠ .active →
    s.clc.mode = .idle ∧ s.clc.drain = none ∧ s.sb.filling = none ∧ s.sb.ring = [] ∧
      ∀ p ∈ s.sb.slots, p.2.state = .queued

/-- R121, R136: a power close is present only in IDLE, and while RECORDING a clip is OPEN. -/
def State.closeOk (s : State) : Prop :=
  (s.clc.powerClose ≠ none → s.clc.mode = .idle) ∧ (s.clc.mode = .recording → s.clc.openClip ≠ none)

/-! ### Records, overruns and locks, as the statements use them -/

/-- Slot n takes the next record of a length and keeps 9 bytes or more free; r is its record before, and ring the ring
after. It is the FILLING slot, or the lowest FREE slot, or, with no slot FREE and no trailer due, the oldest member of the
ring (R73, R79, R132). -/
def State.receives (s : State) (length n : Nat) (r : SlotRecord) (ring : List Nat) : Prop :=
  n < 1024 ∧ r.fill + length + 9 ≤ 65536 ∧
    (s.sb.filling = some n ∧ r = s.sb.slot n ∧ ring = s.sb.ring ∨
      s.sb.filling = none ∧ r = { SlotRecord.free with state := .filling } ∧
        (s.sb.slots.lookup n = none ∧ (∀ m, m < n → s.sb.slots.lookup m ≠ none) ∧ ring = s.sb.ring ∨
          (∀ m, m < 1024 → s.sb.slots.lookup m ≠ none) ∧ s.sb.ring = n :: ring ∧ s.clc.trailerDue = none))

/-- The buffer after the bytes of a record were appended to slot n, whose record was r, at the part time and in the mode
of s (R71, R73): its slot record and its bytes; every other slot, list and byte stays. -/
def State.appends (s u : State) (n : Nat) (r : SlotRecord) (ring : List Nat) (bytes : List Byte) (sync : Bool) : Prop :=
  u.sb.slot n = { r with
      fill := r.fill + bytes.length, count := r.count + 1
      firstTime := some (r.firstTime.getD s.smn.partTime), lastTime := some s.smn.partTime
      firstSync := if sync then some (r.firstSync.getD r.fill) else r.firstSync
      prerollOrigin := r.prerollOrigin || decide (s.clc.mode = .armed) } ∧
    (∀ m, m ≠ n → u.sb.slots.lookup m = s.sb.slots.lookup m) ∧
    u.sb.filling = some n ∧ u.sb.ring = ring ∧ u.sb.queue = s.sb.queue ∧ u.sb.quarters = s.sb.quarters ∧
    (∀ i b, bytes[i]? = some b → Memory.read u.sb.mem (65536 * n + r.fill + i) = some b) ∧
    ∀ a, a < 65536 * n + r.fill ∨ 65536 * n + r.fill + bytes.length ≤ a →
      Memory.read u.sb.mem a = Memory.read s.sb.mem a

/-- Every block but the Slot Buffer, the Clip Controller and the Link Port is as it was, and so are the supply and the
queue of commands. -/
def State.sameOutside (s u : State) : Prop :=
  u.me = s.me ∧ u.wu = s.wu ∧ u.sp = s.sp ∧ u.xm = s.xm ∧ u.cp = s.cp ∧ u.chg = s.chg ∧ u.smn = s.smn ∧
    u.powered = s.powered ∧ u.pending = s.pending

/-- A ready record meets an overrun: no slot is FILLING or FREE, and the ring is empty (R83). -/
def State.noSlot (s : State) : Prop :=
  s.sb.filling = none ∧ s.sb.ring = [] ∧ ∀ m, m < 1024 → s.sb.slots.lookup m ≠ none

/-- The notice queue after a record met an overrun: OVERRUN is posted at the start of an episode (R83). -/
def State.overrunNotices (s : State) (q : List Notice) : List Notice :=
  if s.sb.overrun then q else postNotice .overrun (.number (s.clc.receiving.getD 0)) s.smn.partTime q

/-- The recorder after the receiving clip, if there is one, lost n records or cells (R83, R121, R169). -/
def State.gapped (s : State) (n : Nat) : ClipController :=
  { s.clc with clips := s.clc.clips.map (fun r =>
      if some r.number = s.clc.receiving then { r with gapCount := min 4294967295 (r.gapCount + n) } else r) }

/-- Slot m is the lowest FREE one (R73, R132). -/
def State.lowestFreeIs (s : State) (m : Nat) : Prop :=
  m < 1024 ∧ s.sb.slots.lookup m = none ∧ ∀ j, j < m → s.sb.slots.lookup j ≠ none

/-- What finishes a slot that closes at a FILL LENGTH: a PAD record, or fewer than 8 zero bytes (R74, R180). -/
def State.finish (s : State) (fill : Nat) : List Byte :=
  if fill + 8 ≤ 65536 then
    beBytes 1 0 ++ beBytes 1 0 ++ beBytes 2 (65536 - fill - 8) ++ beBytes 4 s.smn.partTime.toNat ++
      List.replicate (65536 - fill - 8) 0
  else List.replicate (65536 - fill) 0

/-- What the end of a drain leaves of a clip with a SLOT COUNT before it, q being its record after (R75, R76, R129): the
FILLING slot is QUEUED for it as FINAL, its data is done, the drain is absent and the overrun flag clear; other slots and
their bytes stay, but for a FREE slot that a trailer claims (R132). -/
def State.drained (s u : State) (clip slotCount : Nat) (q : ClipRecord) : Prop :=
  q.state = .closing ∧ q.dataDone = true ∧
    q.slotCount = (if s.sb.filling = none then slotCount else min 4294967295 (slotCount + 1)) ∧
    u.clc.drain = none ∧ u.clc.mode = .idle ∧ u.sb.filling = none ∧ u.sb.overrun = false ∧ u.sb.ring = s.sb.ring ∧
    (∀ n, s.sb.filling = some n → n < 1024 → (s.sb.slots.lookup n).isSome = true →
      n ∈ u.sb.queue ∧ u.sb.slot n = { s.sb.slot n with
        state := .queued, clip := some clip, sequence := some slotCount, final := true }) ∧
    (∀ n ∈ s.sb.queue, n ∈ u.sb.queue) ∧
    (∀ m, (s.sb.slots.lookup m).isSome = true → s.sb.filling ≠ some m →
      u.sb.slots.lookup m = s.sb.slots.lookup m ∧
      ∀ k, k < 65536 → Memory.read u.sb.mem (65536 * m + k) = Memory.read s.sb.mem (65536 * m + k)) ∧
    u.wu = s.wu ∧ u.sp = s.sp ∧ u.lp = s.lp ∧ u.xm = s.xm ∧ u.cp = s.cp ∧ u.chg = s.chg ∧ u.powered = true ∧
    u.pending = s.pending

/-- What standby entry leaves of the blocks beside the buffer and the clips (R164, R120). -/
def State.parked (s u : State) (why : StandbyReason) : Prop :=
  u.smn.standby = .standby ∧ u.smn.reason = some why ∧ u.sp.running = false ∧ u.me.reading = false ∧ u.wu.frame = none ∧
    u.lp.lines = [] ∧ u.cp.write = none ∧ u.cp.wait = none ∧ u.cp.supplyOn = false ∧
    u.cp.card = (if s.cp.card = .absent then .absent else .off)

/-- Place i of a protect table is the first with a LOCK range of the clip of a property, and holds r (R99). -/
def firstLock (places : List (Option ProtectRange)) (clip : Nat) (p : ProtectRange → Prop) (i : Nat)
    (r : ProtectRange) : Prop :=
  places[i]? = some (some r) ∧ r.origin = .lock ∧ r.clip = some clip ∧ p r ∧
    ∀ j q, j < i → places[j]? = some (some q) → q.origin = .lock → q.clip = some clip → ¬p q

/-- No place holds a LOCK range of the clip of a property. -/
def noLock (places : List (Option ProtectRange)) (clip : Nat) (p : ProtectRange → Prop) : Prop :=
  ∀ q, some q ∈ places → q.origin = .lock → q.clip = some clip → ¬p q

/-- The protect table after 128 blocks from f were written for a LOCKED clip, and whether the range could not be added:
the four cases of R67's table, the last with the tests of R66 against the extents given (R102). -/
def lockOutcome (extents : List Extent) (before : List (Option ProtectRange)) (clip f : Nat)
    (after : List (Option ProtectRange)) (lost : Bool) : Prop :=
  (∃ i r j q, firstLock before clip (fun x => x.first + x.count = f) i r ∧
      firstLock before clip (fun x => x.first = f + 128) j q ∧ lost = false ∧
      after = (before.set i (some { r with count := r.count + (128 + q.count) })).set j none) ∨
    (∃ i r, firstLock before clip (fun x => x.first + x.count = f) i r ∧
      noLock before clip (fun x => x.first = f + 128) ∧ lost = false ∧
      after = before.set i (some { r with count := r.count + 128 })) ∨
    (∃ j q, noLock before clip (fun x => x.first + x.count = f) ∧
      firstLock before clip (fun x => x.first = f + 128) j q ∧ lost = false ∧
      after = before.set j (some { q with first := f, count := q.count + 128 })) ∨
    noLock before clip (fun x => x.first + x.count = f) ∧ noLock before clip (fun x => x.first = f + 128) ∧
      ∀ clash : Prop,
        (clash ↔ ∃ x, f ≤ x ∧ x < f + 128 ∧
          ((∃ e ∈ extents, e.first + e.used ≤ x ∧ x < e.first + e.used + (e.count - e.used)) ∨
            ∃ r, some r ∈ before ∧ r.first ≤ x ∧ x < r.first + r.count)) →
        (clash ∨ none ∉ before) ∧ lost = true ∧ after = before ∨
        ¬clash ∧ lost = false ∧ ∃ i, before[i]? = some none ∧ (∀ j, j < i → before[j]? ≠ some none) ∧
          after = before.set i (some ⟨f, 128, .lock, some clip⟩)

/-! ### The ranges of the tables -/

/-- The ranges of R20. -/
def MotionTable.inRange (t : MotionTable) : Prop :=
  t.startAddress ≤ 255 ∧ t.yawSource.code / 2 ≠ t.pitchSource.code / 2 ∧
    (1 ≤ t.rateScale ∧ t.rateScale ≤ 65535) ∧ (3 ≤ t.leakShift ∧ t.leakShift ≤ 15) ∧ t.lead ≤ 15 ∧
    (8 ≤ t.guardRatio ∧ t.guardRatio ≤ 16) ∧ (250 ≤ t.period ∧ t.period ≤ 4000) ∧ t.hold ≤ 4095 ∧
    (1 ≤ t.shockThreshold ∧ t.shockThreshold ≤ 32767) ∧ (1 ≤ t.shockCount ∧ t.shockCount ≤ 15)

/-- The conditions of R34 on one curve: the shift, 17 points of 16 bits, point 0, and points that do not fall. -/
def curveInRange (shift : Nat) (points : List Nat) : Prop :=
  (8 ≤ shift ∧ shift ≤ 20) ∧ points.length = 17 ∧ points.getD 0 0 = 0 ∧ (∀ p ∈ points, p ≤ 65535) ∧
    ∀ i, i < 16 → points.getD i 0 ≤ points.getD (i + 1) 0

/-- The conditions of R34. -/
def LensTable.inRange (t : LensTable) : Prop := curveInRange t.hShift t.hPoints ∧ curveInRange t.vShift t.vPoints

/-- The conditions of R35. -/
def WindowTable.inRange (t : WindowTable) : Prop :=
  (64 ≤ t.win ∧ t.win ≤ 4096 ∧ t.win % 2 = 0) ∧ (64 ≤ t.hin ∧ t.hin ≤ 3072) ∧
    (64 ≤ t.wout ∧ t.wout ≤ t.win ∧ (t.win - t.wout) % 2 = 0) ∧
    (64 ≤ t.hout ∧ t.hout ≤ t.hin ∧ (t.hin - t.hout) % 2 = 0) ∧
    (t.bands = 1 ∨ t.bands = 2 ∨ t.bands = 4 ∨ t.bands = 8 ∨ t.bands = 16) ∧ t.hin % t.bands = 0

/-- The ranges of R138. -/
def RecorderTable.inRange (t : RecorderTable) : Prop :=
  t.prerollDepth ≤ 512 ∧ (256 ≤ t.clipSizeLimit ∧ t.clipSizeLimit ≤ 65535) ∧ t.drainTime ≤ 2000 ∧
    (50 ≤ t.busyTimeout ∧ t.busyTimeout ≤ 1000) ∧ t.lowMark ≤ 4096

/-- The conditions of R154 on one row, apart from overlap. -/
def ProfileRow.inRange (r : ProfileRow) : Prop :=
  -400 ≤ r.tLow ∧ r.tLow ≤ r.tHigh ∧ r.tHigh ≤ 1250 ∧ (r.current ≤ 3000 ∧ r.current % 25 = 0) ∧
    (3600 ≤ r.voltage ∧ r.voltage ≤ 4400 ∧ r.voltage % 10 = 0)

/-- The conditions of R154; no two rows cover one temperature. -/
def ProfileTable.inRange (t : ProfileTable) : Prop :=
  (1 ≤ t.rows.length ∧ t.rows.length ≤ 6) ∧ (∀ r ∈ t.rows, r.inRange) ∧
    t.rows.Pairwise (fun r q => ∀ x : Int, ¬(r.tLow ≤ x ∧ x ≤ r.tHigh ∧ q.tLow ≤ x ∧ x ≤ q.tHigh)) ∧
    (25 ≤ t.prechargeCurrent ∧ t.prechargeCurrent ≤ 500 ∧ t.prechargeCurrent % 25 = 0) ∧
    (25 ≤ t.terminationCurrent ∧ t.terminationCurrent ≤ 500) ∧ (1 ≤ t.prechargeTimer ∧ t.prechargeTimer ≤ 120) ∧
    (30 ≤ t.fastTimer ∧ t.fastTimer ≤ 1200) ∧ (3000 ≤ t.vLow ∧ t.vLow ≤ 3900 ∧ t.vCrit < t.vLow) ∧
    (2900 ≤ t.vCrit ∧ t.vCrit ≤ 3800 ∧ t.vCut < t.vCrit) ∧ (2800 ≤ t.vCut ∧ t.vCut ≤ 3600)

/-- Every table in force and every table that waits keeps the ranges of its rule (R20, R34, R35, R138, R154, R171). -/
def State.tablesOk (s : State) : Prop :=
  (s.me.table.inRange ∧ ∀ t, s.me.pendingTable = some t → t.inRange) ∧
    (s.wu.lens.inRange ∧ ∀ t, s.wu.pendingLens = some t → t.inRange) ∧
    ((∀ t, s.wu.window = some t → t.inRange) ∧ ∀ t, s.wu.pendingWindow = some t → t.inRange) ∧
    s.clc.table.inRange ∧ (s.chg.table.inRange ∧ ∀ t, s.chg.pendingTable = some t → t.inRange)

/-! ### Taking commands -/

/-- A CONTROL cell is taken: the part has supply and fewer than 8 replies wait (R170, R172). -/
def State.takes (s : State) : Prop := s.powered = true ∧ s.lp.replies.length < 8

/-- A command of the right length reaches its block: it is taken, and the part is not WAKING (R170, order 3). -/
def State.obeys (s : State) : Prop := s.takes ∧ s.smn.standby ≠ .waking

/-- The outcome in which a reply with a result joins the reply queue, and the arbiter then takes a cell if the link is
free (R170, R174). -/
def State.replied (s : State) (tag code : Byte) (result : CommandResult) : Host.Outcome State Fault Refusal :=
  .next (s.reply tag code result).arbitrate

/-- The outcome of an event whose effect gives a state: the arbiter then takes a cell if the link is free (R174). -/
def State.settled (s : State) : Host.Outcome State Fault Refusal := .next s.arbitrate

/-- What R170 tests of a CONTROL cell that names a command: its TAG and COMMAND CODE, whether its length is the one R179
gives, and whether it is a QUERY. -/
structure CommandCell where
  tag : Byte
  code : Byte
  lengthGood : Bool
  isQuery : Bool
  deriving DecidableEq, Repr

/-- The CONTROL cell of a command; none for a cell that names nothing and for an event (R179). -/
def commandCell : Instr → Option CommandCell
  | .loadTableMotion tag fields => some ⟨tag, 0x01, decide (1 + fields.length = 18), false⟩
  | .loadTableLens tag fields => some ⟨tag, 0x01, decide (1 + fields.length = 71), false⟩
  | .loadTableWindow tag fields => some ⟨tag, 0x01, decide (1 + fields.length = 10), false⟩
  | .loadTableRecorder tag fields => some ⟨tag, 0x01, decide (1 + fields.length = 11), false⟩
  | .loadTableProfile tag fields => some ⟨tag, 0x01, decide (1 + fields.length = 63), false⟩
  | .appendExtent tag params => some ⟨tag, 0x02, decide (params.length = 8), false⟩
  | .clearExtents tag params => some ⟨tag, 0x03, decide (params.length = 0), false⟩
  | .addProtect tag params => some ⟨tag, 0x04, decide (params.length = 12), false⟩
  | .removeProtect tag params => some ⟨tag, 0x05, decide (params.length = 1), false⟩
  | .arm tag params => some ⟨tag, 0x06, decide (params.length = 0), false⟩
  | .disarm tag params => some ⟨tag, 0x07, decide (params.length = 0), false⟩
  | .startRecord tag params => some ⟨tag, 0x08, decide (params.length = 0), false⟩
  | .stopRecord tag params => some ⟨tag, 0x09, decide (params.length = 0), false⟩
  | .abortClip tag params => some ⟨tag, 0x0A, decide (params.length = 4), false⟩
  | .setInputLimit tag params => some ⟨tag, 0x0B, decide (params.length = 2), false⟩
  | .setCardGrade tag params => some ⟨tag, 0x0C, decide (params.length = 1), false⟩
  | .chargeReset tag params => some ⟨tag, 0x0D, decide (params.length = 0), false⟩
  | .setTime tag params => some ⟨tag, 0x0E, decide (params.length = 6), false⟩
  | .standby tag params => some ⟨tag, 0x0F, decide (params.length = 0), false⟩
  | .wake tag params => some ⟨tag, 0x10, decide (params.length = 0), false⟩
  | .queryStatus tag argument => some ⟨tag, 0x11, decide (1 + argument.length = 5), true⟩
  | .queryClip tag argument => some ⟨tag, 0x11, decide (1 + argument.length = 5), true⟩
  | .queryExtents tag argument => some ⟨tag, 0x11, decide (1 + argument.length = 5), true⟩
  | .queryProtect tag argument => some ⟨tag, 0x11, decide (1 + argument.length = 5), true⟩
  | .queryCounters tag argument => some ⟨tag, 0x11, decide (1 + argument.length = 5), true⟩
  | .queryTable tag argument => some ⟨tag, 0x11, decide (1 + argument.length = 5), true⟩
  | .clearCounters tag params => some ⟨tag, 0x12, decide (params.length = 0), false⟩
  | .restart tag params => some ⟨tag, 0x13, decide (params.length = 0), false⟩
  | .powerOn _ => none
  | .dataReady => none
  | .sampleArrival _ => none
  | .gapExpiry => none
  | .frameStart => none
  | .line _ _ => none
  | .frameEnd => none
  | .cellBadCheck => none
  | .clipCell _ _ _ => none
  | .drainTimeout => none
  | .cellSent => none
  | .unknownCommand _ _ _ => none
  | .detectLineChange => none
  | .detectAsserted => none
  | .detectReleased => none
  | .resetWaitExpiry => none
  | .identifyAnswer _ => none
  | .identifyTimeout => none
  | .setGradeAnswer _ => none
  | .setGradeTimeout => none
  | .slotWriteStart _ => none
  | .blockAnswer _ _ => none
  | .blockAnswerTimeout => none
  | .busyTimerExpiry => none
  | .readyReport _ => none
  | .stopTimeout => none
  | .sweep _ => none
  | .qualifyEnd _ => none
  | .terminationCountReached _ => none
  | .safetyTimerExpiry _ => none
  | .criticalCountReached _ => none
  | .wakeTimerExpiry => none

end Sys2Proof.Machine
end

