-- ==== Sys2Proof/WellFormed.lean ====
section
/-!
DEFINITION. The checks on a command's operands: what the formats of chapter 12 and the ranges of the rules allow.
-/
namespace Sys2Proof

/-- A CONTROL cell's payload fits the 2-byte LENGTH field (R178). -/
def lengthFits (n : Nat) : Bool := decide (n < 65536)

/-- A block of 512 bytes holds 16 words of 32 bytes, and a word has one finding at most (R86, R87). -/
def EccRead.wellFormed (e : EccRead) : Bool := decide (e.corrected + e.damaged ≤ 16)

/-- A CONTROL cell that names no command, no table or no subject (R170, R171, R175): a code outside 0x01 to 0x13, or
LOAD TABLE or QUERY whose first parameter byte is missing or names nothing. -/
def namesNothing (code : Byte) (params : List Byte) : Bool :=
  decide (code.toNat = 0 ∨ 19 < code.toNat) ||
    match params with
    | [] => decide (code.toNat = 1 ∨ code.toNat = 17)
    | b :: _ => decide (code.toNat = 1 ∧ (b.toNat = 0 ∨ 5 < b.toNat)) || decide (code.toNat = 17 ∧ 5 < b.toNat)

/-- A command is well formed: its operands are such as the outside world can bring. -/
def Instr.wellFormed : Instr → Bool
  | .powerOn _ => true
  | .dataReady => true
  | .sampleArrival _ => true
  | .gapExpiry => true
  | .frameStart => true
  | .line _ pixels => decide (pixels.length ≤ 4096)
  | .frameEnd => true
  | .cellBadCheck => true
  | .clipCell _ _ payload => decide (1 ≤ payload.length ∧ payload.length ≤ 4096)
  | .drainTimeout => true
  | .cellSent => true
  | .unknownCommand _ code params => lengthFits params.length && namesNothing code params
  | .loadTableMotion _ fields => lengthFits (1 + fields.length)
  | .loadTableLens _ fields => lengthFits (1 + fields.length)
  | .loadTableWindow _ fields => lengthFits (1 + fields.length)
  | .loadTableRecorder _ fields => lengthFits (1 + fields.length)
  | .loadTableProfile _ fields => lengthFits (1 + fields.length)
  | .appendExtent _ params => lengthFits params.length
  | .clearExtents _ params => lengthFits params.length
  | .addProtect _ params => lengthFits params.length
  | .removeProtect _ params => lengthFits params.length
  | .arm _ params => lengthFits params.length
  | .disarm _ params => lengthFits params.length
  | .startRecord _ params => lengthFits params.length
  | .stopRecord _ params => lengthFits params.length
  | .abortClip _ params => lengthFits params.length
  | .setCardGrade _ params => lengthFits params.length
  | .setInputLimit _ params => lengthFits params.length
  | .chargeReset _ params => lengthFits params.length
  | .setTime _ params => lengthFits params.length
  | .standby _ params => lengthFits params.length
  | .wake _ params => lengthFits params.length
  | .queryStatus _ argument => lengthFits (1 + argument.length)
  | .queryClip _ argument => lengthFits (1 + argument.length)
  | .queryExtents _ argument => lengthFits (1 + argument.length)
  | .queryProtect _ argument => lengthFits (1 + argument.length)
  | .queryCounters _ argument => lengthFits (1 + argument.length)
  | .queryTable _ argument => lengthFits (1 + argument.length)
  | .clearCounters _ params => lengthFits params.length
  | .restart _ params => lengthFits params.length
  | .detectLineChange => true
  | .detectAsserted => true
  | .detectReleased => true
  | .resetWaitExpiry => true
  | .identifyAnswer _ => true
  | .identifyTimeout => true
  | .setGradeAnswer ecc => ecc.wellFormed
  | .setGradeTimeout => true
  | .slotWriteStart ecc => ecc.wellFormed
  | .blockAnswer _ ecc => ecc.wellFormed
  | .blockAnswerTimeout => true
  | .busyTimerExpiry => true
  | .readyReport report => report.ecc.wellFormed
  | .stopTimeout => true
  | .sweep _ => true
  | .qualifyEnd _ => true
  | .terminationCountReached _ => true
  | .safetyTimerExpiry _ => true
  | .criticalCountReached _ => true
  | .wakeTimerExpiry => true

end Sys2Proof
end

