-- ==== Sys2Proof/Certificates/Slice0/Obligations.lean ====
section
/-!
DEFINITION. The statements about the part that are to be proved. Each docstring names the rules of spec/ it rests on;
where a clause rests on a choice of the model the docstring names the log entry.
-/
open Sys2Proof Sys2Proof.Machine

/-! ### Steps, power and idling -/

/-- A step takes the command at the front of the queue and runs it on the rest (the form of a block; log entry 31). -/
def Obligations.StepRunsFrontCommand : Prop :=
  ∀ (s : State) (c : Instr) (rest : List Instr),
    s.pending = c :: rest → step s = exec c { s with pending := rest }

/-- POWER_ON gives every block the power-on values of R20, R22, R34, R40, R55, R69, R88, R104, R119, R138, R139, R154,
R158 and R167, whatever the part held. Model's choices: the card-detect line's level is the operand and the queue of
commands survives (log entry 7); the DRAM lists nothing, every byte being without a value (log entry 8); no cell is in
sending, nothing was sent to the card and nothing is awaited from it, its supply is on, and the first sweep completes
after 10,000 microseconds (log entry 25); the reset state is the power-on without a card (log entry 22). -/
def Obligations.PowerOnSetsEveryBlock : Prop :=
  ∀ (b : Bool) (s : State), ∃ t : State, exec (.powerOn b) s = .next t ∧ t.powered = true ∧ t.pending = s.pending ∧
    t.me = { motion := .lost, reading := true, burst := none, gapDeadline := none, gapCount := 0,
             lastGood := ⟨0, 0, 0, 0, 0⟩, yaw := ⟨0, 0, false, 0⟩, pitch := ⟨0, 0, false, 0⟩, queue := [],
             table := ⟨0, .highFirst, .plusGz, .plusGx, 16384, 7, 0, 12, 1000, 0, 32767, 4, false⟩,
             pendingTable := none, detector := ⟨false, 0, 0⟩ } ∧
    t.wu = { lens := ⟨16, (List.range 17).map (fun i => 320 * i), 16, (List.range 17).map (fun i => 320 * i)⟩,
             pendingLens := none, window := none, pendingWindow := none, frame := none } ∧
    t.sp = ⟨0, false, 0, none, true⟩ ∧
    t.lp = ⟨none, [], [], [], none, ⟨0, 0, 0, 0, 0, 0, 0, 0, 0, 0, 0, 0, 0, 0, 0, 0⟩⟩ ∧
    t.sb = ⟨[], none, [], [], false, [true, true, true, true], []⟩ ∧
    t.xm = ⟨[], List.replicate 16 none⟩ ∧
    t.cp = { card := .absent, rawDetect := b, detect := false, settle := some 20000, capacity := none, maxGrade := none,
             setGrade := 3, gradeInUse := none, writer := .stopped, write := none, wait := none, sent := none,
             supplyOn := true } ∧
    t.clc = ⟨.idle, [], some 1, none, false, false, none, ⟨128, 16384, 500, 250, 64⟩⟩ ∧
    t.chg = { state := .noInput, reason := some .removed, switchClosed := false, qualifyCount := 0,
              terminationCount := 0, prechargeCount := 0, fastCount := 0, inputLimit := 500, avail := none, target := 0,
              table := ⟨[⟨0, 450, 500, 4200⟩], 100, 50, 60, 600, 3500, 3400, 3200⟩, pendingTable := none } ∧
    t.smn = ⟨none, .normal, 0, .normal, .active, none, none, 0, 10000⟩ ∧
    State.reset = State.powerOn false []

/-- A part that went dark at cutoff takes no command but the next power-on (R160; log entry 7). With nothing waiting it
stays as it is, and a part with supply lets one microsecond pass, in part time and in the sweep period: the model's choice
(log entry 2). -/
def Obligations.DarkPartTakesOnlyPowerOn : Prop :=
  (∀ (i : Instr) (s : State), s.powered = false → (∀ b, i ≠ .powerOn b) → exec i s = .next s) ∧
    ∀ s : State, s.pending = [] →
      (s.powered = false → step s = .next s) ∧
      (s.powered = true → step s = .next { s with smn := { s.smn with
        partTime := s.smn.partTime + 1, sweepLeft := s.smn.sweepLeft - 1 } })

/-! ### Invariants that every step keeps -/

/-- After power-on, and so in the reset state, every law below holds (R14, R50, R70, R91, R99, R122, R134, R150, R156, R164, R172,
R173, R175). -/
def Obligations.PowerOnMeetsEveryLaw : Prop :=
  ∀ (b : Bool) (q : List Instr) (s : State), s = State.powerOn b q →
    s.linkOk ∧ s.noticesOk ∧ s.noticeCountsOk ∧ s.repliesOk ∧ s.linesOk ∧ s.countersOk ∧ s.countsOk ∧ s.correctionOk ∧
      s.memoryOk ∧ s.bufferOk ∧ s.statesOk ∧ s.tenthOk ∧ s.quietOk ∧ s.closeOk ∧
      s.mapOk ∧ s.numbersOk ∧ s.lockedOk ∧ s.recorderOk ∧ s.targetOk ∧ s.switchOk ∧
      s.inputLimitOk ∧ s.reasonOk ∧ s.parkedOk ∧ s.cropOk ∧ s.extentsOk ∧ s.placesOk ∧ s.tablesOk

/-- While the outbound link is free, no cell waits: the arbiter takes a cell whenever the link is free and a queue holds
one (R174). -/
def Obligations.FreeLinkHasNothingWaiting : Prop :=
  ∀ s t : State, s.linkOk → step s = .next t → t.linkOk

/-- The ninth law: the notice queue holds at most one entry of each kind, each with a COUNT from 1 to 65,535 (R173). -/
def Obligations.OneNoticeEntryPerKind : Prop :=
  ∀ s t : State, s.noticesOk → s.noticeCountsOk → step s = .next t → t.noticesOk ∧ t.noticeCountsOk

/-- At most 8 replies, 8 LINE cells and 4 FRAME END cells wait (R50, R172), the sixteen counters stay within 16 bits
(R175), and the counts that R6, R19, R58, R108, R143, R149, R152 and R159 bound stay in their ranges. -/
def Obligations.CountsAndQueuesStayInRange : Prop :=
  ∀ s t : State, s.repliesOk → s.linesOk → s.countersOk → s.countsOk → step s = .next t →
    t.repliesOk ∧ t.linesOk ∧ t.countersOk ∧ t.countsOk

/-- For each axis the correction lies within 16,777,215 at all times, and is 0 while the motion state is LOST (R14). -/
def Obligations.CorrectionStaysBounded : Prop :=
  ∀ s t : State, s.correctionOk → step s = .next t → t.correctionOk

/-- At most four clip records are held and at most one clip is OPEN, none outside RECORDING, and a drain runs only while
the mode is IDLE (R121, R123, the tenth law in R134); beside them clip numbers rise and lie below the next clip number
(R122, R123), which tells one record from another. The other parts of the tenth law, the order in which clips become
CLOSED and the order of the write queue, are in BufferKeepsItsOrder. -/
def Obligations.OneOpenClipAtMost : Prop :=
  ∀ s t : State, s.recorderOk → s.numbersOk → step s = .next t → t.recorderOk ∧ t.numbersOk

/-- The charge target is 0 outside PRECHARGE, FAST and TAPER (the seventh law, R150), the input switch is closed exactly
outside NO INPUT and QUALIFY (R143, R153), and the input limit keeps its range and its multiple of 25 (R156). -/
def Obligations.TargetIsZeroUnlessCharging : Prop :=
  ∀ s t : State, s.targetOk → s.switchOk → s.inputLimitOk → step s = .next t →
    t.targetOk ∧ t.switchOk ∧ t.inputLimitOk

/-- In standby no card write is in flight, the card is ABSENT or OFF and nothing is awaited from it; a standby reason is
present exactly in STANDBY and WAKING, and the wake timer runs exactly in WAKING (R120, R164, R166). The other half of
the eleventh law (R164), from a state with the tenth law and all it rests on: in standby every slot is FREE or QUEUED,
the mode is IDLE and no drain runs; beside it a power close is present only in IDLE (R136), and a clip is OPEN while
RECORDING (R121). -/
def Obligations.StandbyHasNoCardWrite : Prop :=
  ∀ s t : State, (s.parkedOk → s.reasonOk → step s = .next t → t.parkedOk ∧ t.reasonOk) ∧
    (s.tenthOk → s.quietOk → s.closeOk → step s = .next t → t.quietOk ∧ t.closeOk)

/-- The first law: the band offset of every band entry and every lift lie within the margins of the WINDOW table active
for that frame (R27). -/
def Obligations.CropStaysInsideTheFrame : Prop :=
  ∀ s t : State, s.cropOk → step s = .next t → t.cropOk

/-- No two extents have a block in common, every extent keeps the ranges of R91 with only the head used, and the protect
table keeps its 16 places (R91, R92, R94, R99). -/
def Obligations.ExtentsNeverOverlap : Prop :=
  ∀ s t : State, s.extentsOk → s.placesOk → step s = .next t → t.extentsOk ∧ t.placesOk

/-- The fifth law: no unused part of an extent meets a protect range, and the position of a write in flight is the cursor,
so no card write targets a protected block (R91 to R94, R97, R100, R102). -/
def Obligations.UnusedExtentsStayUnprotected : Prop :=
  ∀ s t : State, s.mapOk → step s = .next t → t.mapOk

/-- Clip numbers rise in the record table and lie below the next clip number (R122, R123), and the twelfth law holds: every
block listed for a held clip that is LOCKED and not LOCK PARTIAL lies in a LOCK range of that clip (R65 to R68). -/
def Obligations.LockedClipsStayProtected : Prop :=
  ∀ s t : State, s.numbersOk → s.lockedOk → step s = .next t → t.numbersOk ∧ t.lockedOk

/-- The slots of the buffer stay in order and in one place each; the pre-roll ring is empty unless ARMED and never holds
more than the pre-roll depth; nothing is FILLING in IDLE without a drain (R70, R72, R78, R79; third and fourth laws).
The STATE of every slot names its place: the slot FILLING, those of the ring and of the write queue and that of the
write in flight have the state FILLING, PREROLL, QUEUED and WRITING, and no other slot is FILLING, PREROLL or QUEUED, so
PREROLL slots exist only while ARMED. The stacked DRAM keeps its canonical form (the form is the model's, log entry 8).
From a state with the tenth law and all it rests on (tenthOk) no other slot is WRITING either, so at most one is (third
law). The tenth law itself is kept while no SLOT COUNT has reached the end of its range, where it stays (R122): the
write queue holds slots of a clip only behind those of lower-numbered clips, a trailer that enters at the head being the
lowest live clip's (R77, R132, R134), and a clip that becomes CLOSED is higher than every clip CLOSED before it. -/
def Obligations.BufferKeepsItsOrder : Prop :=
  ∀ s t : State, (s.memoryOk → step s = .next t → t.memoryOk) ∧ (s.bufferOk → step s = .next t → t.bufferOk) ∧
    (s.bufferOk → s.statesOk → step s = .next t → t.statesOk ∧
      (t.clc.mode ≠ .armed → ∀ p ∈ t.sb.slots, p.2.state ≠ .preroll)) ∧
    (s.tenthOk → step s = .next t →
      t.writingOk ∧ (∀ p ∈ t.sb.slots, ∀ q ∈ t.sb.slots, p.2.state = .writing → q.2.state = .writing → p = q) ∧
      ((∀ r ∈ t.clc.clips, r.slotCount < 4294967295) → t.tenthOk) ∧
      ∀ p ∈ s.clc.clips, ∀ q ∈ t.clc.clips, p.state = .closed → q.state = .closed →
        (∀ r ∈ s.clc.clips, r.number = q.number → r.state ≠ .closed) → p.number < q.number)

/-- Every table in force and every pending copy keeps the ranges of R20, R34, R35, R138 and R154: a load is validated
whole (R171). -/
def Obligations.TablesStayInRange : Prop :=
  ∀ s t : State, s.tablesOk → step s = .next t → t.tablesOk

/-! ### Cells and bytes -/

/-- Every inbound cell of a well-formed command decodes to that command, with every operand at every value the cell
admits (R168, R178, R179; log entry 28). -/
def Obligations.InboundCellsDecodeBack : Prop :=
  ∀ (i : Instr) (bytes : List Byte), i.wellFormed = true → encodeCell i = some bytes → decodeCell bytes = some i

/-- The check of the nine bytes 0x31 to 0x39 is 0x29B1 (R178), and cells written out from R178 and R179 are the commands
they stand for: START RECORD, a QUERY of clip 9, SET INPUT LIMIT 1,234, a CLIP cell with SYNC, and the same cell with one
payload bit changed. -/
def Obligations.WrittenCellsAreTheirCommands : Prop :=
  linkCheck [0x31, 0x32, 0x33, 0x34, 0x35, 0x36, 0x37, 0x38, 0x39] = 0x29B1#16 ∧
    decodeCell [0x02, 0x00, 0x00, 0x00, 0x07, 0x08, 0x9D, 0xCF] = some (.startRecord 0x07 []) ∧
    decodeCell [0x02, 0x00, 0x00, 0x05, 0x21, 0x11, 0x01, 0x00, 0x00, 0x00, 0x09, 0x8E, 0xC9] =
      some (.queryClip 0x21 [0x00, 0x00, 0x00, 0x09]) ∧
    decodeCell [0x02, 0x00, 0x00, 0x02, 0x30, 0x0B, 0x04, 0xD2, 0x01, 0xF8] = some (.setInputLimit 0x30 [0x04, 0xD2]) ∧
    decodeCell [0x01, 0x01, 0x00, 0x02, 0x12, 0x34, 0xAA, 0x55, 0x9D, 0x40] = some (.clipCell 0x01 0x1234#16 [0xAA, 0x55]) ∧
    decodeCell [0x01, 0x01, 0x00, 0x02, 0x12, 0x34, 0xAA, 0x54, 0x9D, 0x40] = some .cellBadCheck

/-! ### The Link Port -/

/-- CELL_SENT: the link is free, and the arbiter takes the head of the line queue, else the oldest reply, else the head of
the notice queue (R174). Nothing else changes. -/
def Obligations.SentCellFreesTheLinkInOrder : Prop :=
  ∀ s : State, s.powered = true →
    (∀ c rest, s.lp.lines = c :: rest →
      exec .cellSent s = .next { s with lp := { s.lp with lines := rest, sending := some (.picture c) } }) ∧
    (∀ r rest, s.lp.lines = [] → s.lp.replies = r :: rest →
      exec .cellSent s = .next { s with lp := { s.lp with replies := rest, sending := some (.reply r) } }) ∧
    (∀ n rest, s.lp.lines = [] → s.lp.replies = [] → s.lp.notices = n :: rest →
      exec .cellSent s = .next { s with lp := { s.lp with notices := rest, sending := some (.notice n) } }) ∧
    (s.lp.lines = [] → s.lp.replies = [] → s.lp.notices = [] →
      exec .cellSent s = .next { s with lp := { s.lp with sending := none } })

/-- CELL_BAD_CHECK: a bad inbound cell is dropped and counts CELLS BAD CHECK (R168). A CONTROL cell that comes while 8
replies wait is discarded before any test and counts CONTROL CELLS LOST (R172). Neither has another effect. -/
def Obligations.BadAndLostCellsAreOnlyCounted : Prop :=
  ∀ s : State, s.powered = true →
    exec .cellBadCheck s = State.settled { s with lp := { s.lp with counters := { s.lp.counters with
      cellsBadCheck := min 65535 (s.lp.counters.cellsBadCheck + 1) } } } ∧
    ∀ i : Instr, 8 ≤ s.lp.replies.length →
      ((commandCell i).isSome = true ∨ ∃ tag code params, i = .unknownCommand tag code params ∧
        namesNothing code params = true) →
      exec i s = State.settled { s with lp := { s.lp with counters := { s.lp.counters with
        controlCellsLost := min 65535 (s.lp.counters.controlCellsLost + 1) } } }

/-- The tests 2 and 3 of R170: a command of another length is refused BAD LENGTH in every standby state, and in WAKING
every command but QUERY is answered BUSY. Only the reply is made. -/
def Obligations.LengthAndWakingTestsComeFirst : Prop :=
  ∀ (s : State) (i : Instr) (c : CommandCell), commandCell i = some c → s.takes →
    (c.lengthGood = false → exec i s = s.replied c.tag c.code (.refused .badLength)) ∧
    (c.lengthGood = true → s.smn.standby = .waking → c.isQuery = false → exec i s = s.replied c.tag c.code .busy)

/-- UNKNOWN_COMMAND: a COMMAND CODE that names no command is refused UNKNOWN in every standby state (R170, order 1); a
TABLE that names no table is refused BAD RANGE, or BUSY in WAKING, and a LOAD TABLE without a TABLE byte BAD LENGTH (R171,
R178); a SUBJECT that names nothing is refused BAD RANGE at the right length (R175), BAD LENGTH at another. Which of BAD
LENGTH and BAD RANGE answers an unknown SUBJECT of another length or a missing TABLE or SUBJECT byte is the model's choice
(log entry 20). -/
def Obligations.NamelessCommandsAreRefused : Prop :=
  ∀ (s : State) (tag code : Byte), s.takes →
    (∀ params, code.toNat = 0 ∨ 19 < code.toNat →
      exec (.unknownCommand tag code params) s = s.replied tag code (.refused .unknown)) ∧
    (exec (.unknownCommand tag 0x01 []) s = s.replied tag 0x01 (.refused .badLength)) ∧
    (∀ (b : Byte) rest, b.toNat = 0 ∨ 5 < b.toNat →
      (s.smn.standby ≠ .waking →
        exec (.unknownCommand tag 0x01 (b :: rest)) s = s.replied tag 0x01 (.refused .badRange)) ∧
      (s.smn.standby = .waking → exec (.unknownCommand tag 0x01 (b :: rest)) s = s.replied tag 0x01 .busy)) ∧
    (exec (.unknownCommand tag 0x11 []) s = s.replied tag 0x11 (.refused .badLength)) ∧
    (∀ (b : Byte) rest, 5 < b.toNat →
      exec (.unknownCommand tag 0x11 (b :: rest)) s =
        s.replied tag 0x11 (.refused (if rest.length = 4 then .badRange else .badLength)))

/-- Every command taken makes exactly one reply with its TAG and COMMAND CODE, at the tail of the reply queue (of the
emptied queue for an accepted RESTART); a result that is not DONE leaves every block as it was (R170, R177). -/
def Obligations.EveryCommandGetsOneReply : Prop :=
  ∀ (s : State) (i : Instr) (c : CommandCell), commandCell i = some c → s.takes →
    ∃ (u : State) (r : CommandResult), exec i s = u.settled ∧
      (u.lp.replies = s.lp.replies ++ [⟨c.tag, c.code, r⟩] ∨
        (i = .restart c.tag [] ∧ r = .done .plain ∧ u.lp.replies = [⟨c.tag, c.code, r⟩])) ∧
      ((∀ a, r ≠ .done a) → u = s.reply c.tag c.code r)

/-- Every QUERY is taken in every standby state, is answered DONE with a snapshot of its subject as it stands, and changes
nothing; QUERY CLIP of a clip not held and QUERY TABLE of no table are refused BAD RANGE (R103, R122, R175, R179). The
COUNTERS answer is the sixteen counters in the order of R175, and an EXTENTS answer begins with the number of extents.
The bytes that the rules leave to the model are those of log entries 12 to 16. -/
def Obligations.QueriesAnswerAndChangeNothing : Prop :=
  ∀ (s : State) (tag : Byte) (arg : List Byte), s.takes → arg.length = 4 →
    exec (.queryStatus tag arg) s = s.replied tag 0x11 (.done (.snapshot (statusAnswer s))) ∧
    (∀ c, s.clc.clip (beNat arg) = some c →
      exec (.queryClip tag arg) s = s.replied tag 0x11 (.done (.snapshot (clipAnswer c)))) ∧
    (s.clc.clip (beNat arg) = none → exec (.queryClip tag arg) s = s.replied tag 0x11 (.refused .badRange)) ∧
    exec (.queryExtents tag arg) s = s.replied tag 0x11 (.done (.snapshot (beBytes 1 s.xm.extents.length ++
      s.xm.extents.flatMap (fun e => beBytes 4 e.first ++ beBytes 4 e.count ++ beBytes 4 e.used) ++
      optBytes 4 (cursorOf s.xm.extents) ++ beBytes 4 (remainingOf s.xm.extents) ++ beBytes 2 s.clc.table.lowMark))) ∧
    exec (.queryProtect tag arg) s =
      s.replied tag 0x11 (.done (.snapshot (s.xm.protect.flatMap protectPlaceBytes))) ∧
    exec (.queryCounters tag arg) s = s.replied tag 0x11 (.done (.snapshot ([s.lp.counters.sampleGaps,
      s.lp.counters.sampleOverlaps, s.lp.counters.clampedBands, s.lp.counters.linesMalformed,
      s.lp.counters.linesDropped, s.lp.counters.cellsBadCheck, s.lp.counters.clipCellsMissing,
      s.lp.counters.clipCellsUnexpected, s.lp.counters.recordsDiscarded, s.lp.counters.eccCorrected,
      s.lp.counters.slotsDamaged, s.lp.counters.cardRetries, s.lp.counters.cardSkips, s.lp.counters.shocks,
      s.lp.counters.controlCellsLost, s.lp.counters.framesShort].flatMap (beBytes 2)))) ∧
    (∀ name, TableName.ofCode (beNat arg) = some name →
      exec (.queryTable tag arg) s = s.replied tag 0x11 (.done (.snapshot (tableAnswer s name)))) ∧
    (beNat arg = 0 ∨ 5 < beNat arg → exec (.queryTable tag arg) s = s.replied tag 0x11 (.refused .badRange))

/-- SET CARD GRADE clamps its value to 0 to 3 (R108), SET INPUT LIMIT clamps to 100 to 3,000 and rounds down to a multiple
of 25 (R156), and CLEAR COUNTERS sets all sixteen counters to 0 (R175). Each is answered DONE, with the value set for the
first two, in ACTIVE and in STANDBY, and changes nothing else. -/
def Obligations.SettingsAreClampedAndAnswered : Prop :=
  ∀ (s : State) (tag : Byte) (p : List Byte), s.obeys →
    (p.length = 1 → exec (.setCardGrade tag p) s =
      State.replied { s with cp := { s.cp with setGrade := min 3 (beNat p) } } tag 0x0C
        (.done (.grade (min 3 (beNat p))))) ∧
    (p.length = 2 → exec (.setInputLimit tag p) s =
      State.replied { s with chg := { s.chg with inputLimit := min 3000 (max 100 (beNat p)) / 25 * 25 } } tag 0x0B
        (.done (.limit (min 3000 (max 100 (beNat p)) / 25 * 25)))) ∧
    exec (.clearCounters tag []) s = State.replied { s with lp := { s.lp with
      counters := ⟨0, 0, 0, 0, 0, 0, 0, 0, 0, 0, 0, 0, 0, 0, 0, 0⟩ } } tag 0x12 (.done .plain)

/-- SET TIME makes its value the part time, and every deadline keeps the interval it had left: each moves by the
difference of the times; the sweep period and every time already recorded stay (R176). -/
def Obligations.SetTimeMovesEveryDeadline : Prop :=
  ∀ (s : State) (tag : Byte) (p : List Byte) (d : Time), s.obeys → p.length = 6 →
    d = BitVec.ofNat 48 (beNat p) - s.smn.partTime →
    exec (.setTime tag p) s = State.replied { s with
      me := { s.me with gapDeadline := s.me.gapDeadline.map (· + d) }
      cp := { s.cp with
        settle := s.cp.settle.map (· + d), wait := s.cp.wait.map (fun w => ⟨w.what, w.deadline + d⟩) }
      clc := { s.clc with drain := s.clc.drain.map (fun r => ⟨r.clip, r.deadline + d⟩) }
      smn := { s.smn with
        partTime := BitVec.ofNat 48 (beNat p), wakeDeadline := s.smn.wakeDeadline.map (· + d) } }
      tag 0x0E (.done .plain)

/-- RESTART: refused in STANDBY. In ACTIVE every block takes its RESTART state (R22, R40, R55, R88, R104, R119, R139,
R177): tables, protect ranges, the next clip number, the set grade, the charger, levels and part time are kept; the
queues, the counters and the expected sequence are emptied before the reply DONE joins; a present card is attached
afresh. With no CRITICAL level to close for, the part stays ACTIVE; otherwise it enters standby with the reason of that
level (R162, R167). -/
def Obligations.RestartKeepsTablesAndEmptiesTheRest : Prop :=
  ∀ (s : State) (tag : Byte), s.takes →
    (s.smn.standby = .standby → exec (.restart tag []) s = s.replied tag 0x13 (.refused .standby)) ∧
    (s.smn.standby = .active → ∃ u : State, exec (.restart tag []) s = u.settled ∧
      u.powered = true ∧ u.pending = s.pending ∧ u.chg = s.chg ∧
      u.wu = { s.wu with frame := none } ∧ u.xm = ⟨[], s.xm.protect⟩ ∧
      u.clc = ⟨.idle, [], s.clc.nextClip, none, false, false, none, s.clc.table⟩ ∧
      u.lp.expectedSequence = none ∧ u.lp.lines = [] ∧ u.lp.replies = [⟨tag, 0x13, .done .plain⟩] ∧
      u.lp.sending = s.lp.sending ∧ u.lp.counters = Counters.zero ∧
      u.lp.notices = s.clc.unfinished.foldl
        (fun q n => postNotice .clipAborted (.number n) s.smn.partTime q) [] ∧
      u.me.table = s.me.table ∧ u.me.pendingTable = s.me.pendingTable ∧
      u.smn.partTime = s.smn.partTime ∧ u.smn.sweepLeft = s.smn.sweepLeft ∧ u.smn.battery = s.smn.battery ∧
      u.smn.die = s.smn.die ∧ u.smn.criticalCount = s.smn.criticalCount ∧ u.smn.readings = s.smn.readings ∧
      u.sp.frameNumber = s.sp.frameNumber ∧ u.sb.slots = [] ∧ u.sb.queue = [] ∧ u.sb.ring = [] ∧
      u.sb.filling = none ∧ u.sb.overrun = false ∧
      u.cp.setGrade = s.cp.setGrade ∧ u.cp.detect = s.cp.detect ∧ u.cp.rawDetect = s.cp.rawDetect ∧
      u.cp.settle = s.cp.settle ∧ u.cp.writer = .stopped ∧ u.cp.write = none ∧ u.cp.capacity = none ∧
      u.cp.maxGrade = none ∧
      ((s.smn.battery = .critical → s.chg.switchClosed = true) → s.smn.die ≠ .critical →
        u.smn = s.smn ∧ u.sp = ⟨s.sp.frameNumber, false, 0, none, true⟩ ∧ u.sb = SlotBuffer.powerOn ∧
        u.me = { MotionEngine.powerOn with table := s.me.table, pendingTable := s.me.pendingTable } ∧
        (s.cp.detect = false → u.cp.card = .absent ∧ u.cp.gradeInUse = none ∧ u.cp.wait = none) ∧
        (s.cp.detect = true → u.cp.card = .attaching ∧ u.cp.gradeInUse = some .g0 ∧ u.cp.sent = some .reset ∧
          u.cp.wait = some ⟨.resetDone, s.smn.partTime + 1000⟩)) ∧
      (s.smn.battery = .critical → s.chg.switchClosed = false →
        u.smn.standby = .standby ∧ u.smn.reason = some .power) ∧
      ((s.smn.battery = .critical → s.chg.switchClosed = true) → s.smn.die = .critical →
        u.smn.standby = .standby ∧ u.smn.reason = some .heat))

/-! ### The Motion Engine -/

/-- DATA_READY: while motion reading runs, the first pulse starts a burst that keeps the START ADDRESS and BYTE ORDER of
its start and restarts the gap timer one and a half periods ahead (R1, R5); a pulse during a burst counts SAMPLE OVERLAPS
(R2); while reading is stopped a pulse is ignored (R1). Nothing else changes. -/
def Obligations.DataReadyStartsOneBurst : Prop :=
  ∀ s : State, s.powered = true →
    (s.me.reading = true → s.me.burst = none →
      exec .dataReady s = State.settled { s with me := { s.me with
        burst := some ⟨s.me.table.startAddress, s.me.table.byteOrder⟩
        gapDeadline := some (s.smn.partTime + BitVec.ofNat 48 ((3 * s.me.table.period + 1) / 2)) } }) ∧
    (s.me.reading = true → s.me.burst.isSome = true →
      exec .dataReady s = State.settled { s with lp := { s.lp with counters := { s.lp.counters with
        sampleOverlaps := min 65535 (s.lp.counters.sampleOverlaps + 1) } } }) ∧
    (s.me.reading = false → exec .dataReady s = s.settled)

/-- SAMPLE_ARRIVAL of a burst in flight: the pending MOTION table is taken first (R21), the bytes are decoded in the
burst's order and mapped by the table now active (R3, R4), the sample becomes the last good one and the gap count 0, and
the motion state is TRACKING (R6, R8). In TRACKING each axis makes the steps R12 to R16, or stays during a hold; in LOST
correction and last increment of both axes stay. A hold counter falls by one in TRACKING (R15), and, by the model's
reading, at the sample that returns from LOST too (log entry 26). The detector tests the sample (R57), and a SHOCK sets
both hold counters to HOLD and counts SHOCKS (R61). While ARMED or RECORDING the sample joins the motion queue (R19),
and where that makes 32 entries or more the oldest 32 become a MOTION record with the bytes of R180 (R85), or wait where
it meets an overrun (R83); a SHOCK hands a MARK record to the Slot Buffer (R61, R62; said where no MOTION record is
ready and no recording starts). Records are said where they leave 9 bytes or more in the slot. The video blocks, the
card, the charger, the supply monitor and the other outbound queues stay. -/
def Obligations.GoodSampleRunsTheFilter : Prop :=
  ∀ (s : State) (bytes : Burst) (b : BurstInFlight) (T : MotionTable) (x : Sample) (shock : Option (Nat × Nat)),
    s.powered = true → s.me.burst = some b → T = s.me.pendingTable.getD s.me.table →
    x = mapBurst T b.byteOrder bytes → shock = (s.me.detector.test T x.magnitude).2 →
    ∃ u : State, exec (.sampleArrival bytes) s = u.settled ∧
      u.me.motion = .tracking ∧ u.me.reading = s.me.reading ∧ u.me.burst = none ∧ u.me.gapDeadline = s.me.gapDeadline ∧
      u.me.gapCount = 0 ∧ u.me.lastGood = x ∧ u.me.table = T ∧ u.me.pendingTable = none ∧
      u.me.detector = (s.me.detector.test T x.magnitude).1 ∧
      (∀ (old new : Axis) (g : Int), (old, new, g) = (s.me.yaw, u.me.yaw, x.yaw) ∨
          (old, new, g) = (s.me.pitch, u.me.pitch, x.pitch) →
        new.guardOn = old.guardOn ∧ new.hold = (if shock.isSome then T.hold else old.hold - 1) ∧
        (s.me.motion = .lost → new.c = old.c ∧ new.last = old.last) ∧
        (s.me.motion = .tracking → 0 < old.hold → new.c = old.c ∧ new.last = 0) ∧
        (s.me.motion = .tracking → old.hold = 0 → new.last = increment T g ∧
          new.c = max (-16777215) (min 16777215 (old.c + increment T g - old.leak T)))) ∧
      (shock.isSome = true → u.lp.counters.shocks = min 65535 (s.lp.counters.shocks + 1)) ∧
      (shock = none → u.lp.counters = s.lp.counters ∧ u.xm = s.xm) ∧
      (∃ k, u.me.queue = (if s.clc.mode = .idle then s.me.queue else joinQueue s.me.queue ⟨x, false⟩).drop (32 * k)) ∧
      (s.clc.mode = .idle → u.me.queue = s.me.queue ∧ u.sb = s.sb ∧ u.clc = s.clc ∧ u.xm = s.xm) ∧
      (∀ q : List MotionEntry, s.clc.mode ≠ .idle → q = joinQueue s.me.queue ⟨x, false⟩ →
        (shock = none → q.length < 32 → u.me.queue = q ∧ u.sb = s.sb ∧ u.clc = s.clc) ∧
        (∀ (n : Nat) (r : SlotRecord) (ring : List Nat) (payload record : List Byte), shock = none → 32 ≤ q.length →
          q.length < 64 → payload = (q.take 32).flatMap (fun e => beSigned 2 e.sample.yaw ++ beSigned 2 e.sample.pitch ++
            beSigned 2 e.sample.ax ++ beSigned 2 e.sample.ay ++ beSigned 2 e.sample.az ++
            [0, if e.substitute then 1 else 0]) →
          record = beBytes 1 2 ++ beBytes 1 0 ++ beBytes 2 384 ++ beBytes 4 s.smn.partTime.toNat ++ payload →
          s.receives record.length n r ring →
          u.me.queue = q.drop 32 ∧ s.appends u n r ring record false ∧ u.sb.overrun = s.sb.overrun ∧ u.clc = s.clc) ∧
        (shock = none → 32 ≤ q.length → s.noSlot →
          u.me.queue = q ∧ u.sb = { s.sb with overrun := true } ∧ u.clc = s.clc) ∧
        (∀ peak count, shock = some (peak, count) → q.length < 32 →
          s.clc.mode = .armed ∧ T.autoTrigger = false ∨ s.clc.mode = .recording →
          (∀ (n : Nat) (r : SlotRecord) (ring : List Nat) (record : List Byte),
            record = beBytes 1 4 ++ beBytes 1 0 ++ beBytes 2 16 ++ beBytes 4 s.smn.partTime.toNat ++
              (beBytes 6 s.smn.partTime.toNat ++ beBytes 4 peak ++ beBytes 1 count ++ [0, 0, 0, 0, 0]) →
            s.receives record.length n r ring →
            u.me.queue = q ∧ s.appends u n r ring record false ∧ u.sb.overrun = s.sb.overrun ∧
              u.lp.counters.recordsDiscarded = s.lp.counters.recordsDiscarded) ∧
          (s.noSlot → u.me.queue = q ∧ u.sb = { s.sb with overrun := true } ∧
            u.lp.counters.recordsDiscarded = min 65535 (s.lp.counters.recordsDiscarded + 1)))) ∧
      u.wu = s.wu ∧ u.sp = s.sp ∧ u.cp = s.cp ∧ u.chg = s.chg ∧ u.smn = s.smn ∧ u.powered = true ∧
      u.pending = s.pending ∧ u.lp.lines = s.lp.lines ∧ u.lp.replies = s.lp.replies ∧ u.lp.sending = s.lp.sending ∧
      u.lp.expectedSequence = s.lp.expectedSequence

/-- GAP_EXPIRY: part time is the deadline (log entry 1), SAMPLE GAPS is counted, the timer restarts from it with the
period then in force, the gap count rises to 8 at most, and a substitute of the last good sample is a sample event (R5,
R6). In TRACKING the filter runs, except that at gap count 8 the state becomes LOST with both corrections, increments
and guards cleared (R7); in LOST corrections, increments and guards stay (R9). A hold counter falls by one at every such
event, by the model's reading also at the one that loses motion (log entry 26). The detector is not run (R57). A burst
in flight goes on. -/
def Obligations.GapExpiryRunsASubstitute : Prop :=
  ∀ (s : State) (d : Time) (T : MotionTable) (k : Nat),
    s.powered = true → s.me.gapDeadline = some d → T = s.me.pendingTable.getD s.me.table →
    k = min 8 (s.me.gapCount + 1) →
    ∃ u : State, exec .gapExpiry s = u.settled ∧
      u.smn = { s.smn with
        partTime := s.smn.partTime + BitVec.ofNat 48 (timeLeft s.smn.partTime d)
        sweepLeft := s.smn.sweepLeft - timeLeft s.smn.partTime d } ∧
      u.me.gapDeadline = some (u.smn.partTime + BitVec.ofNat 48 ((3 * s.me.table.period + 1) / 2)) ∧
      u.me.gapCount = k ∧ u.me.table = T ∧ u.me.pendingTable = none ∧ u.me.reading = s.me.reading ∧
      u.me.burst = s.me.burst ∧ u.me.lastGood = s.me.lastGood ∧ u.me.detector = s.me.detector ∧
      u.me.motion = (if k = 8 then .lost else s.me.motion) ∧
      (∀ (old new : Axis) (g : Int), (old, new, g) = (s.me.yaw, u.me.yaw, s.me.lastGood.yaw) ∨
          (old, new, g) = (s.me.pitch, u.me.pitch, s.me.lastGood.pitch) →
        new.hold = old.hold - 1 ∧
        (s.me.motion = .lost → new.c = old.c ∧ new.last = old.last ∧ new.guardOn = old.guardOn) ∧
        (s.me.motion = .tracking → k = 8 → new.c = 0 ∧ new.last = 0 ∧ new.guardOn = false) ∧
        (s.me.motion = .tracking → k < 8 → new.guardOn = old.guardOn ∧
          (0 < old.hold → new.c = old.c ∧ new.last = 0) ∧
          (old.hold = 0 → new.last = increment T g ∧
            new.c = max (-16777215) (min 16777215 (old.c + increment T g - old.leak T))))) ∧
      u.lp.counters = { s.lp.counters with sampleGaps := min 65535 (s.lp.counters.sampleGaps + 1) } ∧
      (s.clc.mode = .idle → u.me.queue = s.me.queue ∧ u.sb = s.sb ∧ u.clc = s.clc ∧
        u.lp.notices = (if s.me.motion = .tracking ∧ k = 8 then
          postNotice .motionLost (.number u.lp.counters.sampleGaps) u.smn.partTime else id)
          ((if s.me.pendingTable.isSome then postNotice .tableTaken (.table .motion) u.smn.partTime else id)
            s.lp.notices)) ∧
      u.wu = s.wu ∧ u.sp = s.sp ∧ u.cp = s.cp ∧ u.chg = s.chg ∧ u.xm = s.xm ∧ u.powered = true ∧ u.pending = s.pending ∧
      u.lp.lines = s.lp.lines ∧ u.lp.replies = s.lp.replies ∧ u.lp.sending = s.lp.sending ∧
      u.lp.expectedSequence = s.lp.expectedSequence

/-- R12, stated on its own: 4,096 times the increment is nearest to g × S, an exact half goes away from zero, and with a
rate of 16 bits and a RATE SCALE of 16 bits the increment is at most 524,280 in size. -/
def Obligations.IncrementIsTheNearestQuotient : Prop :=
  ∀ (T : MotionTable) (g : Int), -32768 ≤ g → g ≤ 32767 → 1 ≤ T.rateScale → T.rateScale ≤ 65535 →
    |g * T.rateScale| ≤ 2147450880 ∧ |increment T g| ≤ 524280 ∧
      |2 * (4096 * increment T g - g * T.rateScale)| ≤ 4096 ∧
      (|2 * (4096 * increment T g - g * T.rateScale)| = 4096 → |g * T.rateScale| < |4096 * increment T g|) ∧
      (0 ≤ g → 0 ≤ increment T g) ∧ (g ≤ 0 → increment T g ≤ 0)

/-- R13, stated on its own: the leak is the correction divided by 2^k_eff, rounded toward zero, k_eff being k − 2 while
the guard is on and k while it is off; it is 0 in the dead zone. -/
def Obligations.LeakRoundsTowardZero : Prop :=
  ∀ (a : Axis) (T : MotionTable) (k : Nat), 3 ≤ T.leakShift → T.leakShift ≤ 15 →
    k = (if a.guardOn then T.leakShift - 2 else T.leakShift) →
    (|a.leak T| * 2 ^ k ≤ |a.c| ∧ |a.c| < (|a.leak T| + 1) * 2 ^ k) ∧
      (0 ≤ a.c → 0 ≤ a.leak T) ∧ (a.c ≤ 0 → a.leak T ≤ 0) ∧ (|a.c| < 2 ^ k → a.leak T = 0)

/-- A QUIET detector raises a SHOCK exactly at the N-th over sample in a row, with the largest of their magnitudes as PEAK
and N as OVER COUNT, and an under sample before that empties the run (R58). A RAISED one raises none; it is QUIET again
exactly after N under samples in a row, and an over sample starts their count again (R59). N is the SHOCK COUNT and a
sample is over when its magnitude exceeds the square of the SHOCK THRESHOLD. -/
def Obligations.ShockNeedsARunOfOverSamples : Prop :=
  ∀ (T : MotionTable) (ms : List Nat) (m : Nat) (d : Detector), 1 ≤ T.shockCount → T.shockCount ≤ 15 →
    ((∀ x ∈ ms ++ [m], T.shockThreshold ^ 2 < x) → d = Detector.quiet →
      (ms.length + 1 < T.shockCount → (ms ++ [m]).foldl (fun r x => r.1.test T x) (d, none) =
        (⟨false, ms.length + 1, (ms ++ [m]).foldl max 0⟩, none)) ∧
      (ms.length + 1 = T.shockCount → (ms ++ [m]).foldl (fun r x => r.1.test T x) (d, none) =
        (⟨true, 0, (ms ++ [m]).foldl max 0⟩, some ((ms ++ [m]).foldl max 0, T.shockCount)))) ∧
    (m ≤ T.shockThreshold ^ 2 → d.raised = false → d.test T m = (Detector.quiet, none)) ∧
    (T.shockThreshold ^ 2 < m → d.raised = true →
      (d.test T m).1.raised = true ∧ (d.test T m).1.run = 0 ∧ (d.test T m).2 = none) ∧
    ((∀ x ∈ ms ++ [m], x ≤ T.shockThreshold ^ 2) → d.raised = true → d.run = 0 →
      ((ms ++ [m]).foldl (fun r x => r.1.test T x) (d, none)).2 = none ∧
      (ms.length + 1 < T.shockCount → ((ms ++ [m]).foldl (fun r x => r.1.test T x) (d, none)).1.raised = true) ∧
      (ms.length + 1 = T.shockCount → ((ms ++ [m]).foldl (fun r x => r.1.test T x) (d, none)).1 = Detector.quiet))

/-- What a SHOCK does by the recorder mode, with the AUTO TRIGGER of the table now active (R61, R63, R64, R65): nothing in
IDLE; in ARMED nothing, or a start of a clip LOCKED from its opening, unless a test of R126 prevents it; in RECORDING the
OPEN clip is LOCKED. The SHOCK notice carries the outcome and the clip number (0 for none). While RECORDING the statement
is about a SHOCK with no forced split due, whose MARK record could end the clip (R131). -/
def Obligations.ShockActsByRecorderMode : Prop :=
  ∀ (s : State) (bytes : Burst) (b : BurstInFlight) (T : MotionTable) (shock : Nat × Nat),
    s.powered = true → s.me.burst = some b → T = s.me.pendingTable.getD s.me.table →
    (s.me.detector.test T (mapBurst T b.byteOrder bytes).magnitude).2 = some shock →
    ∃ u : State, exec (.sampleArrival bytes) s = u.settled ∧
      ∀ (outcome : ShockOutcome) (clip : Nat),
        (s.clc.mode = .idle ∧ outcome = .noticeOnly ∧ clip = 0 ∨
          s.clc.mode = .armed ∧ T.autoTrigger = false ∧ outcome = .noticeOnly ∧ clip = 0 ∨
          s.clc.mode = .armed ∧ T.autoTrigger = true ∧ s.startBlocked.isSome = true ∧ outcome = .startFailed ∧ clip = 0 ∨
          s.clc.mode = .armed ∧ T.autoTrigger = true ∧ s.startBlocked = none ∧ outcome = .started ∧
            s.clc.nextClip = some clip ∨
          s.clc.mode = .recording ∧ s.clc.forcedSplitDue = false ∧
            (∃ r, s.clc.openClip = some r ∧ clip = r.number ∧
              outcome = (if r.locked then .alreadyLocked else .locked))) →
        (∃ n, (⟨.shock, n, .shock outcome clip, s.smn.partTime⟩ : Notice) ∈ u.lp.notices) ∧
        u.clc.mode = (if outcome = .started then .recording else s.clc.mode) ∧
        (outcome = .started → u.clc.nextClip = numberAfter clip ∧
          ∃ r ∈ u.clc.clips, r.number = clip ∧ r.state = .opened ∧ r.locked = true) ∧
        (outcome ≠ .started → u.clc.nextClip = s.clc.nextClip) ∧
        (outcome = .locked → ∃ r ∈ u.clc.clips, r.number = clip ∧ r.state = .opened ∧ r.locked = true)

/-! ### The Window Unit and the Sensor Port -/

/-- R24, stated on its own, with R25: inside the curve 2^(s+4) times the offset's size is nearest to the numerator, an
exact half goes up, and the offset takes the correction's sign; beyond the 16 segments it is P[16] / 16 so rounded, marked
BEYOND CURVE. Corrections of opposite sign give opposite offsets, and no size exceeds 4,096. -/
def Obligations.LensCurveConvertsAngles : Prop :=
  ∀ (shift : Nat) (points : List Nat) (c : Int) (i f : Nat) (px : Int), curveInRange shift points →
    i = c.natAbs / 2 ^ shift → f = c.natAbs - i * 2 ^ shift → px = (lensOffset shift points c).1 →
    px.natAbs ≤ 4096 ∧ (0 ≤ c → 0 ≤ px) ∧ (c ≤ 0 → px ≤ 0) ∧ (lensOffset shift points (-c)).1 = -px ∧
      (i < 16 → ∃ num : Nat, num = points.getD i 0 * 2 ^ shift + (points.getD (i + 1) 0 - points.getD i 0) * f ∧
        2 * num < (2 * px.natAbs + 1) * 2 ^ (shift + 4) ∧ 2 * px.natAbs * 2 ^ (shift + 4) ≤ 2 * num + 2 ^ (shift + 4) ∧
        (lensOffset shift points c).2 = false) ∧
      (16 ≤ i → 2 * points.getD 16 0 < (2 * px.natAbs + 1) * 16 ∧ 2 * px.natAbs * 16 ≤ 2 * points.getD 16 0 + 16 ∧
        (lensOffset shift points c).2 = true)

/-- FRAME_START with no frame open: ignored while the stream is stopped (R42). Otherwise the frame number rises by one,
4,294,967,295 being followed by 0, the expected line is 0, the frame is open (R43), and the pending LENS and WINDOW tables
are taken (R38, R41). With a WINDOW table the line limit is its HIN and a frame record is opened with its lift: centred
and LOST, or the pitch prediction through the vertical curve, clamped to the margin, with the guard decision, which is
written to the pitch guard (R18, R25, R27, R28, R30, R31, R33, R44). Without one there is no line limit (R39). -/
def Obligations.FrameStartOpensTheRecord : Prop :=
  ∀ (s : State) (L : LensTable) (W : Option WindowTable), s.powered = true → s.sp.frameOpen = false →
    L = s.wu.pendingLens.getD s.wu.lens → W = s.wu.pendingWindow.or s.wu.window →
    (s.sp.running = false → exec .frameStart s = s.settled) ∧
    (s.sp.running = true → ∃ u : State, exec .frameStart s = u.settled ∧
      u.sp = ⟨(s.sp.frameNumber + 1) % 4294967296, true, 0, W.map (·.hin), true⟩ ∧
      u.wu.lens = L ∧ u.wu.pendingLens = none ∧ u.wu.window = W ∧ u.wu.pendingWindow = none ∧
      (W = none → u.wu.frame = s.wu.frame ∧ u.me = s.me ∧ u.lp.counters = s.lp.counters) ∧
      (∀ w, W = some w → s.me.motion = .lost →
        u.wu.frame = some ⟨u.sp.frameNumber, ⟨0, 0, false, false, false, true⟩, w.bands, List.replicate w.bands none,
          0, 0, 0⟩ ∧ u.me = s.me ∧ u.lp.counters = s.lp.counters) ∧
      (∀ w py dy beyond, W = some w → s.me.motion = .tracking →
        (py, beyond) = lensOffset L.vShift L.vPoints (max (-16777215) (min 16777215
          (s.me.pitch.c + s.me.table.lead * s.me.pitch.last))) →
        dy = max (-(((w.hin - w.hout) / 2 : Nat) : Int)) (min (((w.hin - w.hout) / 2 : Nat) : Int) py) →
        ∃ near : Bool,
          (near = true ↔ (w.hin - w.hout) / 2 * s.me.table.guardRatio < 16 * py.natAbs) ∧
          u.wu.frame = some ⟨u.sp.frameNumber, ⟨dy, py, decide (dy ≠ py), beyond, near, false⟩, w.bands,
            List.replicate w.bands none, 0, 0, 0⟩ ∧
          u.me = { s.me with pitch := { s.me.pitch with guardOn := near } } ∧
          u.lp.counters = { s.lp.counters with clampedBands :=
            if dy = py then s.lp.counters.clampedBands else min 65535 (s.lp.counters.clampedBands + 1) }) ∧
      u.lp.notices = (if s.wu.pendingWindow.isSome then postNotice .tableTaken (.table .window) s.smn.partTime else id)
        ((if s.wu.pendingLens.isSome then postNotice .tableTaken (.table .lens) s.smn.partTime else id) s.lp.notices) ∧
      u.lp.lines = s.lp.lines ∧ u.lp.replies = s.lp.replies ∧ u.lp.sending = s.lp.sending ∧
      u.lp.expectedSequence = s.lp.expectedSequence ∧ u.sb = s.sb ∧ u.xm = s.xm ∧ u.cp = s.cp ∧ u.clc = s.clc ∧
      u.chg = s.chg ∧ u.smn = s.smn ∧ u.powered = true ∧ u.pending = s.pending)

/-- FRAME_END completes in every powered state. It is ignored with no frame open or while the stream is stopped (R42,
R51). Otherwise the frame is closed; with a frame record SHORT is set and FRAMES SHORT counted when fewer than HIN lines
were TAKEN, a FRAME END cell with the record's counts joins the line queue unless 4 wait (R50, R51), and the record is
closed. A FRAME START that finds a frame open closes it so first, with SHORT set whatever its lines (R43, R52). Unless
the mode is IDLE the record goes to the Slot Buffer (R53): as a FRAME record with the bytes of R180 it is appended to
the FILLING slot, or to the slot it opens (R71 to R73, R79; said for a record that leaves 9 bytes or more in the slot),
or, with no slot to be had, it meets an overrun: it is discarded, RECORDS DISCARDED is counted, the receiving clip's gap
count rises, and OVERRUN is posted at the start of an episode (R83). -/
def Obligations.FrameEndClosesTheRecord : Prop :=
  ∀ s : State, s.powered = true →
    (∃ t : State, exec .frameEnd s = .next t) ∧
    (s.sp.frameOpen = false ∨ s.sp.running = false → exec .frameEnd s = s.settled) ∧
    (s.sp.frameOpen = true → s.sp.running = true → s.wu.frame = none →
      exec .frameEnd s = State.settled { s with sp := { s.sp with frameOpen := false } } ∧
      exec .frameStart s = exec .frameStart { s with sp := { s.sp with frameOpen := false } }) ∧
    (∀ (f : FrameRecord) (forced short : Bool), s.sp.frameOpen = true → s.sp.running = true → s.wu.frame = some f →
      (short = true ↔ forced = true ∨ ∃ w, s.wu.window = some w ∧ f.linesSeen < w.hin) →
      ∃ u : State, (forced = false → exec .frameEnd s = u.settled) ∧
        (forced = true → exec .frameStart s = exec .frameStart u) ∧
        u.sp = { s.sp with frameOpen := false } ∧ u.wu = { s.wu with frame := none } ∧
        u.lp.lines = s.lp.lines ++ (if s.lp.lines.countP (fun c => !c.isLine) < 4 then
          [.frameEnd f.number f.linesSent f.linesDropped short] else []) ∧
        u.lp.counters = { s.lp.counters with
          framesShort := if short then min 65535 (s.lp.counters.framesShort + 1) else s.lp.counters.framesShort
          recordsDiscarded := u.lp.counters.recordsDiscarded } ∧
        u.me = s.me ∧ u.xm = s.xm ∧ u.cp = s.cp ∧ u.chg = s.chg ∧ u.smn = s.smn ∧ u.powered = true ∧
        u.pending = s.pending ∧ u.lp.replies = s.lp.replies ∧ u.lp.sending = s.lp.sending ∧
        u.lp.expectedSequence = s.lp.expectedSequence ∧
        (s.clc.mode = .idle → u.sb = s.sb ∧ u.clc = s.clc ∧ u.lp.notices = s.lp.notices ∧
          u.lp.counters.recordsDiscarded = s.lp.counters.recordsDiscarded) ∧
        (∀ (n : Nat) (r : SlotRecord) (ring : List Nat) (payload record : List Byte), s.clc.mode ≠ .idle →
          payload = beBytes 4 f.number ++ beSigned 2 f.lift.dy ++ beSigned 2 f.lift.py ++
            beBytes 1 ((if f.lift.clamped then 1 else 0) + (if f.lift.lost then 2 else 0) +
              (if f.lift.beyondCurve then 4 else 0) + (if f.lift.guardOn then 8 else 0)) ++
            beBytes 1 f.bands ++ [0, 0] ++ f.entries.flatMap (fun entry => match entry with
              | none => [0, 0, 0, 0, 0, 0, 0, 0]
              | some e => beSigned 2 e.dx ++ beSigned 2 e.px ++
                beBytes 1 (1 + (if e.clamped then 2 else 0) + (if e.beyondCurve then 4 else 0) +
                  (if e.guardOn then 8 else 0) + (if e.lost then 16 else 0)) ++ [0, 0, 0]) →
          record = beBytes 1 3 ++ beBytes 1 0 ++ beBytes 2 payload.length ++ beBytes 4 s.smn.partTime.toNat ++ payload →
          s.receives record.length n r ring →
          s.appends u n r ring record false ∧ u.sb.overrun = s.sb.overrun ∧ u.clc = s.clc ∧
            u.lp.notices = s.lp.notices ∧ u.lp.counters.recordsDiscarded = s.lp.counters.recordsDiscarded) ∧
        (s.clc.mode ≠ .idle → s.noSlot → u.sb = { s.sb with overrun := true } ∧ u.clc = s.gapped 1 ∧
          u.lp.notices = s.overrunNotices s.lp.notices ∧
          u.lp.counters.recordsDiscarded = min 65535 (s.lp.counters.recordsDiscarded + 1)))

/-- LINE, the lines that are not TAKEN: discarded without a count while the stream is stopped, no frame is open or there is
no line limit; OUT OF RANGE at or above the line limit and PASSED below the expected line, each counting LINES MALFORMED
(R42, R45, R46). -/
def Obligations.StrayLinesAreDiscarded : Prop :=
  ∀ (s : State) (l : BitVec 12) (pixels : List Pixel), s.powered = true →
    (s.sp.running = false ∨ s.sp.frameOpen = false ∨ s.sp.lineLimit = none → exec (.line l pixels) s = s.settled) ∧
    (∀ limit, s.sp.running = true → s.sp.frameOpen = true → s.sp.lineLimit = some limit →
      limit ≤ l.toNat ∨ l.toNat < s.sp.expectedLine →
      exec (.line l pixels) s = State.settled { s with lp := { s.lp with counters := { s.lp.counters with
        linesMalformed := min 65535 (s.lp.counters.linesMalformed + 1) } } })

/-- LINE, a TAKEN line: the expected line moves past it and LINES SEEN rises (R45, R46). The first TAKEN line of a band
forms its band entry, centred and LOST or from the yaw prediction through the horizontal curve, clamped to the margin, with
the guard decision written to the yaw guard (R18, R27, R28, R32, R33, R47); a later one uses it. The line is fitted to WIN
pixels, its last pixel repeated to the right or its right end cut off, zeros for a line without pixels, and a misfit counts
LINES MALFORMED (R48). Inside the window it becomes a LINE cell of the columns from the band's
left edge, which joins the line queue or, with 8 waiting, is dropped and counted (R49, R50). -/
def Obligations.TakenLineIsCutAndPlaced : Prop :=
  ∀ (s : State) (l : BitVec 12) (pixels fit : List Pixel) (limit b : Nat) (w : WindowTable) (f : FrameRecord)
    (e : BandEntry) (px : Int) (adj inside : Bool),
    s.powered = true → s.sp.running = true → s.sp.frameOpen = true → s.sp.lineLimit = some limit →
    l.toNat < limit → s.sp.expectedLine ≤ l.toNat → s.wu.window = some w → s.wu.frame = some f →
    b = l.toNat / (w.hin / w.bands) → b < f.entries.length →
    fit.length = w.win → (∀ j, j < w.win → fit.getD j 0 =
      if pixels = [] then 0 else pixels.getD (min j (pixels.length - 1)) 0) → adj = decide (pixels.length ≠ w.win) →
    px = (lensOffset s.wu.lens.hShift s.wu.lens.hPoints (max (-16777215) (min 16777215
      (s.me.yaw.c + s.me.table.lead * s.me.yaw.last)))).1 →
    (∀ g, f.entries.getD b none = some g → e = g) →
    (f.entries.getD b none = none → s.me.motion = .lost → e = ⟨0, 0, false, false, false, true⟩) →
    (f.entries.getD b none = none → s.me.motion = .tracking → e.px = px ∧ e.lost = false ∧
      e.dx = max (-(((w.win - w.wout) / 2 : Nat) : Int)) (min (((w.win - w.wout) / 2 : Nat) : Int) px) ∧
      e.clamped = decide (e.dx ≠ px) ∧ e.guardOn = decide ((w.win - w.wout) / 2 * s.me.table.guardRatio < 16 * px.natAbs) ∧
      e.beyondCurve = (lensOffset s.wu.lens.hShift s.wu.lens.hPoints (max (-16777215) (min 16777215
        (s.me.yaw.c + s.me.table.lead * s.me.yaw.last)))).2) →
    (inside = true ↔ ((w.hin - w.hout) / 2 : Nat) + f.lift.dy ≤ l.toNat ∧
      (l.toNat : Int) < ((w.hin - w.hout) / 2 : Nat) + f.lift.dy + w.hout) →
    ∃ u : State, exec (.line l pixels) s = u.settled ∧ u.sp = { s.sp with expectedLine := l.toNat + 1 } ∧
      (∀ new room : Bool, (new = true ↔ f.entries.getD b none = none ∧ s.me.motion = .tracking) →
        (room = true ↔ s.lp.lines.countP PictureCell.isLine < 8) →
        u.wu = { s.wu with frame := some { f with
          entries := f.entries.set b (some e), linesSeen := f.linesSeen + 1
          linesSent := if inside && room then f.linesSent + 1 else f.linesSent
          linesDropped := if inside && !room then f.linesDropped + 1 else f.linesDropped } } ∧
        u.me = { s.me with yaw := { s.me.yaw with guardOn := if new then e.guardOn else s.me.yaw.guardOn } } ∧
        u.lp = { s.lp with
          lines := s.lp.lines ++ (if inside && room then [.line f.number
            (l.toNat - (((w.hin - w.hout) / 2 : Nat) + f.lift.dy)).toNat b adj
            ((fit.drop (((w.win - w.wout) / 2 : Nat) + e.dx).toNat).take w.wout)] else [])
          counters := { s.lp.counters with
            clampedBands := if new && e.clamped then min 65535 (s.lp.counters.clampedBands + 1)
              else s.lp.counters.clampedBands
            linesMalformed := if adj then min 65535 (s.lp.counters.linesMalformed + 1) else s.lp.counters.linesMalformed
            linesDropped := if inside && !room then min 65535 (s.lp.counters.linesDropped + 1)
              else s.lp.counters.linesDropped } }) ∧
      u.sb = s.sb ∧ u.xm = s.xm ∧ u.cp = s.cp ∧ u.clc = s.clc ∧ u.chg = s.chg ∧ u.smn = s.smn ∧ u.powered = true ∧
      u.pending = s.pending

/-! ### The tables -/

/-- LOAD TABLE for MOTION, LENS, WINDOW and PROFILE: a load of the right length that is valid becomes the pending copy and is
answered DONE (R20, R34, R37, R154); one with a bad field is refused BAD TABLE with the first bad field and changes nothing
(R171). While the mode is not IDLE a WINDOW load whose WOUT or HOUT differs from the active table's is refused RECORDING
(R36). LOAD TABLE for RECORDER: BUSY unless the mode is IDLE; in IDLE the load is the active table at once, TABLE TAKEN is
posted, and EXTENT LOW where the new LOW MARK puts the remaining space below it for the first time (R96, R138; the order of
the two is the model's, log entry 24). -/
def Obligations.LoadTableTakesValidLoads : Prop :=
  ∀ (s : State) (tag : Byte) (fields : List Byte), s.obeys →
    (fields.length = 17 →
      (∀ k, parseMotion fields = .error k →
        exec (.loadTableMotion tag fields) s = s.replied tag 0x01 (.refused (.badTable k))) ∧
      (∀ t, parseMotion fields = .ok t → exec (.loadTableMotion tag fields) s =
        State.replied { s with me := { s.me with pendingTable := some t } } tag 0x01 (.done .plain))) ∧
    (fields.length = 70 →
      (∀ k, parseLens fields = .error k →
        exec (.loadTableLens tag fields) s = s.replied tag 0x01 (.refused (.badTable k))) ∧
      (∀ t, parseLens fields = .ok t → exec (.loadTableLens tag fields) s =
        State.replied { s with wu := { s.wu with pendingLens := some t } } tag 0x01 (.done .plain))) ∧
    (fields.length = 9 →
      (∀ k, parseWindow fields = .error k →
        exec (.loadTableWindow tag fields) s = s.replied tag 0x01 (.refused (.badTable k))) ∧
      (∀ t resized, parseWindow fields = .ok t →
        (resized ↔ s.clc.mode ≠ .idle ∧ ∃ w, s.wu.window = some w ∧ (t.wout ≠ w.wout ∨ t.hout ≠ w.hout)) →
        (resized → exec (.loadTableWindow tag fields) s = s.replied tag 0x01 (.refused .recording)) ∧
        (¬resized → exec (.loadTableWindow tag fields) s =
          State.replied { s with wu := { s.wu with pendingWindow := some t } } tag 0x01 (.done .plain)))) ∧
    (fields.length = 62 →
      (∀ k, parseProfile fields = .error k →
        exec (.loadTableProfile tag fields) s = s.replied tag 0x01 (.refused (.badTable k))) ∧
      (∀ t, parseProfile fields = .ok t → exec (.loadTableProfile tag fields) s =
        State.replied { s with chg := { s.chg with pendingTable := some t } } tag 0x01 (.done .plain))) ∧
    (fields.length = 10 →
      (∀ k, parseRecorder fields = .error k →
        exec (.loadTableRecorder tag fields) s = s.replied tag 0x01 (.refused (.badTable k))) ∧
      (∀ t, parseRecorder fields = .ok t → s.clc.mode ≠ .idle →
        exec (.loadTableRecorder tag fields) s = s.replied tag 0x01 .busy) ∧
      (∀ t low, parseRecorder fields = .ok t → s.clc.mode = .idle → low = remainingOf s.xm.extents →
        exec (.loadTableRecorder tag fields) s = State.replied { s with
          clc := { s.clc with table := t }
          lp := { s.lp with
            notices := (if s.clc.table.lowMark ≤ low ∧ low < t.lowMark then
              postNotice .extentLow (.number low) s.smn.partTime else id)
                (postNotice .tableTaken (.table .recorder) s.smn.partTime s.lp.notices) } }
          tag 0x01 (.done .plain)))

/-- The tests on the fields of a load of each of the five tables, in the order in which validation names them, on fields
of the widths R179 gives (R20, R34, R35, R138, R154, R171). A MOTION load with no bad field gives the table whose fields
these are; a PITCH SOURCE on the sensor axis of the YAW SOURCE is the fourth field's fault. For LENS and PROFILE the
orders of the bad fields are given, and the least is named: a lens point below the one before it is itself the bad field
(R34); a row of PROFILE that an earlier row meets has a bad T LOW, rows beyond ROW COUNT are not read, and of the three
thresholds each is tested against the next (R154). -/
def Obligations.FirstBadFieldIsNamed : Prop :=
  (∀ a b c d e : Nat, a < 65536 → b < 65536 → c < 65536 → d < 65536 → e < 65536 →
    parseRecorder (beBytes 2 a ++ beBytes 2 b ++ beBytes 2 c ++ beBytes 2 d ++ beBytes 2 e) =
      if 512 < a then .error 1 else if b < 256 then .error 2 else if 2000 < c then .error 3
      else if d < 50 ∨ 1000 < d then .error 4 else if 4096 < e then .error 5 else .ok ⟨a, b, c, d, e⟩) ∧
  (∀ win hin wout hout b : Nat, win < 65536 → hin < 65536 → wout < 65536 → hout < 65536 → b < 256 →
    parseWindow (beBytes 2 win ++ beBytes 2 hin ++ beBytes 2 wout ++ beBytes 2 hout ++ beBytes 1 b) =
      if win < 64 ∨ 4096 < win ∨ win % 2 = 1 then .error 1
      else if hin < 64 ∨ 3072 < hin then .error 2
      else if wout < 64 ∨ win < wout ∨ (win - wout) % 2 = 1 then .error 3
      else if hout < 64 ∨ hin < hout ∨ (hin - hout) % 2 = 1 then .error 4
      else if (b ≠ 1 ∧ b ≠ 2 ∧ b ≠ 4 ∧ b ≠ 8 ∧ b ≠ 16) ∨ hin % b ≠ 0 then .error 5
      else .ok ⟨win, hin, wout, hout, b⟩) ∧
  (∀ (start order yaw pitch scale leak lead guardRatio period hold thr count auto : Nat) (bytes : List Byte),
    start < 256 → order < 256 → yaw < 256 → pitch < 256 → scale < 65536 → leak < 256 → lead < 256 →
    guardRatio < 256 → period < 65536 → hold < 65536 → thr < 65536 → count < 256 → auto < 256 →
    bytes = beBytes 1 start ++ beBytes 1 order ++ beBytes 1 yaw ++ beBytes 1 pitch ++ beBytes 2 scale ++
      beBytes 1 leak ++ beBytes 1 lead ++ beBytes 1 guardRatio ++ beBytes 2 period ++ beBytes 2 hold ++
      beBytes 2 thr ++ beBytes 1 count ++ beBytes 1 auto →
    ∀ bad : Option Nat,
      bad = (if 1 < order then some 2 else if 5 < yaw then some 3
        else if 5 < pitch ∨ pitch / 2 = yaw / 2 then some 4 else if scale < 1 then some 5
        else if leak < 3 ∨ 15 < leak then some 6 else if 15 < lead then some 7
        else if guardRatio < 8 ∨ 16 < guardRatio then some 8 else if period < 250 ∨ 4000 < period then some 9
        else if 4095 < hold then some 10 else if thr < 1 ∨ 32767 < thr then some 11
        else if count < 1 ∨ 15 < count then some 12 else if 1 < auto then some 13 else none) →
      (∀ k, bad = some k → parseMotion bytes = .error k) ∧
      (bad = none → ∃ t, parseMotion bytes = .ok t ∧ motionFields t = bytes)) ∧
  (∀ (h v : Nat) (hs vs : List Nat) (bytes : List Byte), h < 256 → v < 256 → hs.length = 17 → vs.length = 17 →
    (∀ x ∈ hs, x < 65536) → (∀ x ∈ vs, x < 65536) →
    bytes = beBytes 1 h ++ hs.flatMap (beBytes 2) ++ (beBytes 1 v ++ vs.flatMap (beBytes 2)) →
    ∀ bad : Nat → Prop,
      (∀ k, bad k ↔ k = 1 ∧ (h < 8 ∨ 20 < h) ∨ k = 2 ∧ hs.getD 0 0 ≠ 0 ∨
        (∃ i, i < 16 ∧ k = 3 + i ∧ hs.getD (i + 1) 0 < hs.getD i 0) ∨
        k = 19 ∧ (v < 8 ∨ 20 < v) ∨ k = 20 ∧ vs.getD 0 0 ≠ 0 ∨
        ∃ i, i < 16 ∧ k = 21 + i ∧ vs.getD (i + 1) 0 < vs.getD i 0) →
      (∀ k, bad k → (∀ j, j < k → ¬bad j) → parseLens bytes = .error k) ∧
      ((∀ k, ¬bad k) → parseLens bytes = .ok ⟨h, hs, v, vs⟩)) ∧
  (∀ (n pre term slow fast low crit cut : Nat) (rows : List ProfileRow) (bytes : List Byte), n < 256 →
    pre < 65536 → term < 65536 → slow < 256 → fast < 65536 → low < 65536 → crit < 65536 → cut < 65536 →
    rows.length = 6 → (∀ r ∈ rows, (-32768 ≤ r.tLow ∧ r.tLow < 32768) ∧ (-32768 ≤ r.tHigh ∧ r.tHigh < 32768) ∧
      r.current < 65536 ∧ r.voltage < 65536) →
    bytes = beBytes 1 n ++ rows.flatMap (fun r => beSigned 2 r.tLow ++ beSigned 2 r.tHigh ++ beBytes 2 r.current ++
      beBytes 2 r.voltage) ++ (beBytes 2 pre ++ beBytes 2 term ++ beBytes 1 slow ++ beBytes 2 fast ++ beBytes 2 low ++
      beBytes 2 crit ++ beBytes 2 cut) →
    ∀ bad : Nat → Prop,
      (∀ k, bad k ↔ k = 1 ∧ (n < 1 ∨ 6 < n) ∨
        (∃ i r, i < n ∧ rows[i]? = some r ∧
          (k = 2 + 4 * i ∧ (r.tLow < -400 ∨ 1250 < r.tLow ∨ ∃ j q x, j < i ∧ rows[j]? = some q ∧
              q.tLow ≤ x ∧ x ≤ q.tHigh ∧ (x = r.tLow ∨ r.tLow ≤ x ∧ x ≤ r.tHigh)) ∨
            k = 3 + 4 * i ∧ (r.tHigh < r.tLow ∨ 1250 < r.tHigh) ∨
            k = 4 + 4 * i ∧ (3000 < r.current ∨ r.current % 25 ≠ 0) ∨
            k = 5 + 4 * i ∧ (r.voltage < 3600 ∨ 4400 < r.voltage ∨ r.voltage % 10 ≠ 0))) ∨
        k = 26 ∧ (pre < 25 ∨ 500 < pre ∨ pre % 25 ≠ 0) ∨ k = 27 ∧ (term < 25 ∨ 500 < term) ∨
        k = 28 ∧ (slow < 1 ∨ 120 < slow) ∨ k = 29 ∧ (fast < 30 ∨ 1200 < fast) ∨
        k = 30 ∧ (low < 3000 ∨ 3900 < low ∨ low ≤ crit) ∨ k = 31 ∧ (crit < 2900 ∨ 3800 < crit ∨ crit ≤ cut) ∨
        k = 32 ∧ (cut < 2800 ∨ 3600 < cut)) →
      (∀ k, bad k → (∀ j, j < k → ¬bad j) → parseProfile bytes = .error k) ∧
      ((∀ k, ¬bad k) → parseProfile bytes = .ok ⟨rows.take n, pre, term, slow, fast, low, crit, cut⟩))

/-- The fields of every table in its ranges, as QUERY TABLE answers them, load as that table (R171, R175, R179). -/
def Obligations.AnsweredTablesLoadBack : Prop :=
  (∀ t : MotionTable, t.inRange → parseMotion (motionFields t) = .ok t) ∧
    (∀ t : LensTable, t.inRange → parseLens (lensFields t) = .ok t) ∧
    (∀ t : WindowTable, t.inRange → parseWindow (windowFields t) = .ok t) ∧
    (∀ t : RecorderTable, t.inRange → parseRecorder (recorderFields t) = .ok t) ∧
    (∀ t : ProfileTable, t.inRange → parseProfile (profileFields t) = .ok t)

/-! ### The Extent Map -/

/-- APPEND EXTENT makes the tests of R92 in its order; an accepted one joins the table's tail with USED 0 and is answered
with the remaining space, raised by COUNT / 128 (R96). Where that makes the table non-empty, a writer SUSPENDED for NO
EXTENT becomes IDLE (R118); the slot write R118 then starts is a step of its own (log entry 5). -/
def Obligations.AppendExtentTestsInOrder : Prop :=
  ∀ (s : State) (tag : Byte) (f n cap : Nat) (p : List Byte) (clash : Prop), s.obeys → f < 4294967296 → n < 4294967296 →
    p = beBytes 4 f ++ beBytes 4 n →
    (clash ↔ ∃ x, f ≤ x ∧ x < f + n ∧ ((∃ e ∈ s.xm.extents, e.first ≤ x ∧ x < e.first + e.count) ∨
      ∃ r, some r ∈ s.xm.protect ∧ r.first ≤ x ∧ x < r.first + r.count)) →
    (64 ≤ s.xm.extents.length → exec (.appendExtent tag p) s = s.replied tag 0x02 (.refused .noRoom)) ∧
    (s.xm.extents.length < 64 → s.smn.standby = .standby →
      exec (.appendExtent tag p) s = s.replied tag 0x02 (.refused .standby)) ∧
    (s.xm.extents.length < 64 → s.smn.standby = .active →
      (s.cp.card ≠ .ready → s.cp.card ≠ .writing → s.cp.card ≠ .settling →
        exec (.appendExtent tag p) s = s.replied tag 0x02 (.refused .noCard)) ∧
      ((s.cp.card = .ready ∨ s.cp.card = .writing ∨ s.cp.card = .settling) → s.cp.capacity = some cap →
        (n = 0 ∨ n % 128 ≠ 0 ∨ cap < f + n →
          exec (.appendExtent tag p) s = s.replied tag 0x02 (.refused .badRange)) ∧
        (0 < n → n % 128 = 0 → f + n ≤ cap → clash →
          exec (.appendExtent tag p) s = s.replied tag 0x02 (.refused .overlap)) ∧
        (0 < n → n % 128 = 0 → f + n ≤ cap → ¬clash →
          exec (.appendExtent tag p) s = State.replied { s with
            xm := { s.xm with extents := s.xm.extents ++ [⟨f, n, 0⟩] }
            cp := { s.cp with writer :=
              if s.xm.extents = [] ∧ s.cp.writer = .suspended .noExtent then .idle else s.cp.writer } }
            tag 0x02 (.done (.remaining (remainingOf s.xm.extents + n / 128))))))

/-- CLEAR EXTENTS: BUSY while a slot write is in flight, otherwise the extent table is emptied, with EXTENT LOW where that
crosses the low mark (R96, R97). ADD PROTECT makes the tests of R100 in its order and takes the lowest empty place. REMOVE
PROTECT: BAD RANGE for no place or an empty one; a LOADED range is removed (R101); a LOCK range of a clip that is OPEN or
CLOSING is answered BUSY, and otherwise removed with the clip's LOCKED flag (R68). -/
def Obligations.ProtectAndClearCommands : Prop :=
  ∀ (s : State) (tag : Byte), s.obeys →
    ((s.cp.writer = .mapping ∨ s.cp.writer = .sending ∨ s.cp.writer = .settling →
        exec (.clearExtents tag []) s = s.replied tag 0x03 .busy) ∧
      (s.cp.writer ≠ .mapping → s.cp.writer ≠ .sending → s.cp.writer ≠ .settling →
        exec (.clearExtents tag []) s = State.replied { s with
          xm := { s.xm with extents := [] }
          lp := { s.lp with
            notices := if s.clc.table.lowMark ≤ remainingOf s.xm.extents ∧ 0 < s.clc.table.lowMark then
              postNotice .extentLow (.number 0) s.smn.partTime s.lp.notices else s.lp.notices } }
          tag 0x03 (.done .plain))) ∧
    (∀ (f n : Nat) (clash : Prop), f < 4294967296 → n < 18446744073709551616 →
      (clash ↔ ∃ x, f ≤ x ∧ x < f + n ∧ ((∃ e ∈ s.xm.extents, e.first + e.used ≤ x ∧ x < e.first + e.used + (e.count - e.used)) ∨
        ∃ r, some r ∈ s.xm.protect ∧ r.first ≤ x ∧ x < r.first + r.count)) →
      (n = 0 ∨ 4294967296 < f + n →
        exec (.addProtect tag (beBytes 4 f ++ beBytes 8 n)) s = s.replied tag 0x04 (.refused .badRange)) ∧
      (0 < n → f + n ≤ 4294967296 → none ∉ s.xm.protect →
        exec (.addProtect tag (beBytes 4 f ++ beBytes 8 n)) s = s.replied tag 0x04 (.refused .noRoom)) ∧
      (0 < n → f + n ≤ 4294967296 → none ∈ s.xm.protect → clash →
        exec (.addProtect tag (beBytes 4 f ++ beBytes 8 n)) s = s.replied tag 0x04 (.refused .overlap)) ∧
      (∀ i, 0 < n → f + n ≤ 4294967296 → ¬clash → s.xm.protect[i]? = some none →
        (∀ j, j < i → s.xm.protect[j]? ≠ some none) →
        exec (.addProtect tag (beBytes 4 f ++ beBytes 8 n)) s = State.replied { s with
          xm := { s.xm with protect := s.xm.protect.set i (some ⟨f, n, .loaded, none⟩) } } tag 0x04 (.done (.index i)))) ∧
    (∀ i : Byte,
      ((∀ r, s.xm.protect[i.toNat]? ≠ some (some r)) →
        exec (.removeProtect tag [i]) s = s.replied tag 0x05 (.refused .badRange)) ∧
      (∀ r, s.xm.protect[i.toNat]? = some (some r) → r.origin = .loaded →
        exec (.removeProtect tag [i]) s = State.replied { s with
          xm := { s.xm with protect := s.xm.protect.set i.toNat none } } tag 0x05 (.done .plain)) ∧
      (∀ r k, s.xm.protect[i.toNat]? = some (some r) → r.origin = .lock → r.clip = some k →
        (∀ c, s.clc.clip k = some c → c.state = .opened ∨ c.state = .closing →
          exec (.removeProtect tag [i]) s = s.replied tag 0x05 .busy) ∧
        ((∀ c, s.clc.clip k = some c → c.state = .closed ∨ c.state = .aborted) →
          exec (.removeProtect tag [i]) s = State.replied { s with
            xm := { s.xm with protect := s.xm.protect.set i.toNat none }
            clc := { s.clc with clips := s.clc.clips.map (fun c =>
              if c.number = k then { c with locked := false } else c) } } tag 0x05 (.done .plain))))

/-! ### The recorder -/

/-- ARM and DISARM make the tests of R124 and R125 in order. An accepted ARM only sets the mode. A DISARM while ARMED frees
the ring and the FILLING slot, discards the waiting motion entries, clears the overrun flag and goes to IDLE (R80, R85); no
trailer being due, the slots freed stay FREE (R132). -/
def Obligations.ArmAndDisarmFollowTheMode : Prop :=
  ∀ (s : State) (tag : Byte), s.obeys →
    exec (.arm tag []) s =
      (if s.smn.standby ≠ .active then s.replied tag 0x06 (.refused .standby)
      else if s.clc.mode = .recording then s.replied tag 0x06 (.refused .recording)
      else if s.clc.mode = .armed then s.replied tag 0x06 (.done .plain)
      else if s.clc.drain ≠ none ∨ s.clc.powerClose ≠ none then s.replied tag 0x06 .busy
      else if s.clc.table.prerollDepth = 0 then s.replied tag 0x06 (.refused .badRange)
      else if s.smn.battery = .critical ∨ s.smn.die = .critical then s.replied tag 0x06 (.refused .lowPower)
      else State.replied { s with clc := { s.clc with mode := .armed } } tag 0x06 (.done .plain)) ∧
    (s.clc.mode = .idle → exec (.disarm tag []) s = s.replied tag 0x07 (.done .plain)) ∧
    (s.clc.mode = .recording → exec (.disarm tag []) s = s.replied tag 0x07 (.refused .recording)) ∧
    (s.clc.mode = .armed → ∃ u : State, exec (.disarm tag []) s = u.replied tag 0x07 (.done .plain) ∧
      u.clc.mode = .idle ∧ u.sb.ring = [] ∧ u.sb.filling = none ∧ u.sb.overrun = false ∧
      u.me = { s.me with queue := [] } ∧ u.wu = s.wu ∧ u.sp = s.sp ∧ u.lp = s.lp ∧ u.xm = s.xm ∧ u.cp = s.cp ∧
      u.chg = s.chg ∧ u.smn = s.smn ∧ u.powered = true ∧ u.pending = s.pending ∧
      (s.clc.trailerDue = none → u.clc = { s.clc with mode := .idle } ∧ u.sb = { s.sb with
        ring := [], filling := none, overrun := false
        slots := s.sb.slots.filter (fun p => decide (p.1 ∉ s.sb.ring ∧ some p.1 ≠ s.sb.filling)) }))

/-- START RECORD makes the tests of R126 in its order. An accepted one opens a clip of the next number with the part time of
the start, removing the oldest CLOSED or ABORTED record where four are held (R123), and the mode is RECORDING. From IDLE
nothing else changes. From ARMED the ring becomes the first slots of the clip from the oldest one that holds a sync point:
QUEUED in order with sequence 0 up, the older ones FREE, the FILLING slot going on (R81, R82); said where no trailer is due
and no MOTION record is ready (R85, R132). -/
def Obligations.StartRecordOpensAClip : Prop :=
  ∀ (s : State) (tag : Byte) (answer : Option CommandResult) (kept : List ClipRecord), s.obeys →
    answer = (if s.smn.standby ≠ .active then some (.refused .standby)
      else if s.clc.mode = .recording then some (.refused .recording)
      else if s.clc.drain ≠ none ∨ s.clc.powerClose ≠ none then some .busy
      else if s.smn.battery = .critical ∨ s.smn.die = .critical then some (.refused .lowPower)
      else if s.clc.nextClip = none then some (.refused .noRoom)
      else if 4 ≤ s.clc.clips.length ∧ ∀ c ∈ s.clc.clips, c.state ≠ .closed ∧ c.state ≠ .aborted then some .busy
      else none) →
    kept = (if 4 ≤ s.clc.clips.length then
      s.clc.clips.eraseP (fun c => decide (c.state = .closed ∨ c.state = .aborted)) else s.clc.clips) →
    (∀ r, answer = some r → exec (.startRecord tag []) s = s.replied tag 0x08 r) ∧
    (∀ n, answer = none → s.clc.nextClip = some n → s.clc.mode = .idle →
      exec (.startRecord tag []) s = State.replied { s with clc := { s.clc with
        mode := .recording, clips := kept ++ [ClipRecord.fresh n s.smn.partTime false]
        nextClip := if n < 4294967295 then some (n + 1) else none
        splitDue := false, forcedSplitDue := false } } tag 0x08 (.done (.clipNumber n))) ∧
    (∀ n older slots, answer = none → s.clc.nextClip = some n → s.clc.mode = .armed → s.bufferOk → s.numbersOk →
      s.clc.trailerDue = none → s.me.queue.length < 32 → s.sb.ring = older ++ slots →
      (∀ m ∈ older, (s.sb.slot m).firstSync = none) → (∀ m, slots.head? = some m → (s.sb.slot m).firstSync ≠ none) →
      ∃ u : State, exec (.startRecord tag []) s = u.replied tag 0x08 (.done (.clipNumber n)) ∧
        u.clc.mode = .recording ∧ u.clc.nextClip = (if n < 4294967295 then some (n + 1) else none) ∧
        u.clc.splitDue = false ∧ u.clc.forcedSplitDue = false ∧ u.clc.table = s.clc.table ∧
        u.clc.clips = kept ++ [{ ClipRecord.fresh n s.smn.partTime false with
          slotCount := slots.length, startOffset := slots.head?.bind (fun m => (s.sb.slot m).firstSync) }] ∧
        u.sb.ring = [] ∧ u.sb.queue = s.sb.queue ++ slots ∧ u.sb.filling = s.sb.filling ∧
        u.sb.overrun = s.sb.overrun ∧ u.sb.quarters = s.sb.quarters ∧
        (∀ m ∈ older, u.sb.slots.lookup m = none) ∧
        (∀ i m, slots[i]? = some m → u.sb.slot m = { s.sb.slot m with
          state := .queued, clip := some n, sequence := some i, final := false }) ∧
        (∀ m, m ∉ s.sb.ring → u.sb.slots.lookup m = s.sb.slots.lookup m) ∧
        (∀ a, a / 65536 ∉ slots ∨ 64 ≤ a % 65536 → Memory.read u.sb.mem a = Memory.read s.sb.mem a) ∧
        u.me = s.me ∧ u.wu = s.wu ∧ u.sp = s.sp ∧ u.lp = s.lp ∧ u.xm = s.xm ∧ u.cp = s.cp ∧ u.chg = s.chg ∧
        u.smn = s.smn ∧ u.powered = true ∧ u.pending = s.pending)

/-- The ends of a clip. STOP RECORD: BUSY with a power close, DONE with clip number 0 outside RECORDING, and in RECORDING the
OPEN clip is CLOSING with END REASON STOP, the mode IDLE, the motion queue empty and a drain of DRAIN TIME started, which a
DRAIN TIME of 0 ends at once (R128). The end of a drain, at once or by DRAIN_TIMEOUT of a CLOSING clip in IDLE, part time
then being the deadline (log entry 1): the FILLING slot is QUEUED for the clip as FINAL, the data is done, the drain absent
and the overrun flag clear (R75, R76, R129). ABORT CLIP makes the tests of R135 in order and gives back the FILLING slot of
the clip's drain and the clip's QUEUED slots; where it leaves nothing to close a power close ends and the part enters
standby with its reason (R137, R162; said where no MOTION record is ready). A split of the OPEN clip at a CLIP cell, at SYNC
with split due and no clip CLOSING (R130), or at a full slot with forced split due (R131): the FILLING slot closes FINAL for
the old clip, which is CLOSING with END REASON SPLIT and its data done, a record is removed where four are held (R123), and
the cell's record opens the first slot of a new clip, to which a size-limit split gives the gap and START OFFSET 64 (the
moment of writing it is the model's reading, log entry 19); said where no trailer is due (R132). -/
def Obligations.StopDrainAndAbortEndAClip : Prop :=
  ∀ (s : State) (tag : Byte),
    (s.obeys → s.clc.powerClose ≠ none → exec (.stopRecord tag []) s = s.replied tag 0x09 .busy) ∧
    (s.obeys → s.clc.powerClose = none → s.clc.mode ≠ .recording →
      exec (.stopRecord tag []) s = s.replied tag 0x09 (.done (.clipNumber 0))) ∧
    (∀ c, s.obeys → s.clc.powerClose = none → s.clc.mode = .recording → s.clc.openClip = some c →
      0 < s.clc.table.drainTime →
      exec (.stopRecord tag []) s = State.replied { s with
        me := { s.me with queue := [] }
        clc := { s.clc with
          mode := .idle, splitDue := false, forcedSplitDue := false
          drain := some ⟨c.number, s.smn.partTime + BitVec.ofNat 48 (1000 * s.clc.table.drainTime)⟩
          clips := s.clc.clips.map (fun r => if r.number = c.number then
            { r with state := .closing, endReason := some .stop } else r) } }
        tag 0x09 (.done (.clipNumber c.number))) ∧
    (∀ c, s.obeys → s.clc.powerClose = none → s.clc.mode = .recording → s.clc.openClip = some c →
      s.clc.table.drainTime = 0 → s.numbersOk →
      ∃ u : State, exec (.stopRecord tag []) s = u.replied tag 0x09 (.done (.clipNumber c.number)) ∧
        (∃ q, u.clc.clip c.number = some q ∧ q.endReason = some .stop ∧ s.drained u c.number c.slotCount q) ∧
        u.clc.splitDue = false ∧ u.clc.forcedSplitDue = false ∧ u.clc.nextClip = s.clc.nextClip ∧
        u.me = { s.me with queue := [] } ∧ u.smn = s.smn) ∧
    (∀ d r, s.powered = true → s.clc.mode = .idle → s.clc.drain = some d → s.clc.clip d.clip = some r →
      r.state = .closing →
      ∃ u : State, exec .drainTimeout s = u.settled ∧
        u.smn = { s.smn with
          partTime := s.smn.partTime + BitVec.ofNat 48 (timeLeft s.smn.partTime d.deadline)
          sweepLeft := s.smn.sweepLeft - timeLeft s.smn.partTime d.deadline } ∧
        (∃ q, u.clc.clip d.clip = some q ∧ q.endReason = r.endReason ∧ s.drained u d.clip r.slotCount q) ∧
        u.me = s.me) ∧
    (∀ k p, s.obeys → k < 4294967296 → p = beBytes 4 k →
      (s.clc.clip k = none → exec (.abortClip tag p) s = s.replied tag 0x0A (.refused .badRange)) ∧
      ∀ c, s.clc.clip k = some c →
        (c.state = .closed ∨ c.state = .aborted → exec (.abortClip tag p) s = s.replied tag 0x0A (.refused .badRange)) ∧
        (c.state = .opened → exec (.abortClip tag p) s = s.replied tag 0x0A (.refused .recording)) ∧
        (c.state = .closing → (∃ q ∈ s.sb.slots, q.2.state = .writing ∧ q.2.clip = some k) →
          exec (.abortClip tag p) s = s.replied tag 0x0A .busy) ∧
        (∀ more : Prop, c.state = .closing → (∀ q ∈ s.sb.slots, q.2.state = .writing → q.2.clip ≠ some k) →
          s.clc.mode = .idle ∨ s.me.queue.length < 32 →
          (more ↔ (∃ q ∈ s.clc.clips, q.number ≠ k ∧ (q.state = .opened ∨ q.state = .closing)) ∨
            ∃ d, s.clc.drain = some d ∧ d.clip ≠ k) →
          ∃ u : State, exec (.abortClip tag p) s = u.replied tag 0x0A (.done .plain) ∧
            (∃ q, u.clc.clip k = some q ∧ q.state = .aborted ∧ q.endReason = some .abort) ∧
            u.clc.mode = s.clc.mode ∧ u.clc.nextClip = s.clc.nextClip ∧
            (∀ d, s.clc.drain = some d → d.clip = k → u.clc.drain = none ∧ u.sb.filling = none ∧ u.sb.overrun = false) ∧
            ((∀ d, s.clc.drain = some d → d.clip ≠ k) → u.clc.drain = s.clc.drain ∧ u.sb.filling = s.sb.filling) ∧
            (∀ n ∈ s.sb.queue, (s.sb.slot n).clip ≠ some k → s.sb.filling ≠ some n → n ∈ u.sb.queue) ∧
            (∀ n ∈ u.sb.queue, (u.sb.slot n).clip ≠ some k) ∧
            (∀ n ∈ s.sb.queue, (s.sb.slot n).clip = some k → u.sb.slots.lookup n = none ∨ (u.sb.slot n).trailer = true) ∧
            u.sb.ring = s.sb.ring ∧ u.xm = s.xm ∧ u.chg = s.chg ∧ u.powered = true ∧ u.pending = s.pending ∧
            (s.clc.powerClose = none ∨ more →
              u.lp = { s.lp with notices := postNotice .clipAborted (.number k) s.smn.partTime s.lp.notices } ∧
              ((∀ d, s.clc.drain = some d → d.clip ≠ k) → u.sb.overrun = s.sb.overrun) ∧
              u.clc.powerClose = s.clc.powerClose ∧ u.me = s.me ∧ u.wu = s.wu ∧ u.sp = s.sp ∧ u.cp = s.cp ∧
              u.smn = s.smn) ∧
            (∀ why, s.clc.powerClose = some why → ¬more → u.clc.powerClose = none ∧
              (s.smn.standby = .standby → u.smn = s.smn ∧ u.cp = s.cp) ∧
              (s.smn.standby = .active →
                u.smn = { s.smn with standby := .standby, reason := some (match why with
                  | .power => .power
                  | .heat => .heat) } ∧ u.sp.running = false ∧ u.me.reading = false ∧ u.wu.frame = none ∧
                u.lp = { s.lp with
                  lines := [], notices := postNotice .clipAborted (.number k) s.smn.partTime s.lp.notices } ∧
                u.cp.write = none ∧ u.cp.wait = none ∧ u.cp.supplyOn = false ∧
                u.cp.card = (if s.cp.card = .absent then .absent else .off))))) ∧
    (∀ (flags : Byte) (sequence : BitVec 16) (payload record : List Byte) (gap n m k fill : Nat) (bySize : Bool)
        (c : ClipRecord) (kept : List ClipRecord) (stamped : SlotRecord), s.powered = true → s.clc.mode = .recording →
      s.numbersOk → s.recorderOk → s.clc.openClip = some c → s.clc.nextClip = some k → s.clc.trailerDue = none →
      c.written ≤ c.slotCount → c.slotCount < 4294967295 →
      kept = (if 4 ≤ s.clc.clips.length then
        s.clc.clips.eraseP (fun r => decide (r.state = .closed ∨ r.state = .aborted)) else s.clc.clips) →
      gap = (s.lp.expectedSequence.elim 0 (fun e => (sequence - e).toNat)) →
      1 ≤ payload.length → payload.length ≤ 4096 → s.sb.overrun = false ∨ flags.getLsbD 0 = true →
      record = beBytes 1 1 ++ beBytes 1 ((if flags.getLsbD 0 then 1 else 0) + (if flags.getLsbD 1 then 2 else 0) +
          (if flags.getLsbD 2 then 4 else 0) + (if 0 < gap ∨ s.sb.overrun = true then 8 else 0)) ++
        beBytes 2 payload.length ++ beBytes 4 s.smn.partTime.toNat ++ payload →
      s.sb.filling = some n → n < 1024 → (s.sb.slots.lookup n).isSome = true → fill = (s.sb.slot n).fill → 64 ≤ fill →
      fill ≤ 65536 → s.lowestFreeIs m →
      (bySize = true ∧ flags.getLsbD 0 = true ∧ s.clc.splitDue = true ∧ (∀ r ∈ s.clc.clips, r.state ≠ .closing) ∨
        bySize = false ∧ (flags.getLsbD 0 = false ∨ s.clc.splitDue = false) ∧ s.clc.forcedSplitDue = true ∧
          65536 < fill + record.length ∧
          (s.clc.clips.length < 4 ∨ ∃ r ∈ s.clc.clips, r.state = .closed ∨ r.state = .aborted)) →
      stamped = { s.sb.slot n with
        state := .queued, clip := some c.number, sequence := some c.slotCount, final := true } →
      ∃ u : State, exec (.clipCell flags sequence payload) s = u.settled ∧ s.sameOutside u ∧
        u.lp = { s.lp with
          expectedSequence := some (sequence + 1)
          counters := { s.lp.counters with clipCellsMissing := min 65535 (s.lp.counters.clipCellsMissing + gap) } } ∧
        u.clc = { s.clc with
          splitDue := false, forcedSplitDue := false, nextClip := if k < 4294967295 then some (k + 1) else none
          clips := kept.map (fun r => if r.number = c.number then { r with
              state := .closing, endReason := some .split, dataDone := true, slotCount := r.slotCount + 1
              gapCount := if bySize then r.gapCount else min 4294967295 (r.gapCount + gap)
              startOffset := if r.slotCount = 0 ∧ r.startOffset = none then some ((s.sb.slot n).firstSync.getD 64)
                else r.startOffset
              noSyncStart := r.noSyncStart || decide (r.slotCount = 0 ∧ r.startOffset = none ∧
                (s.sb.slot n).firstSync = none) } else r) ++
            [{ ClipRecord.fresh k s.smn.partTime false with
              gapCount := if bySize then gap else 0, startOffset := if bySize then some 64 else none }] } ∧
        u.sb.overrun = false ∧ u.sb.slot n = stamped ∧ u.sb.queue = s.sb.queue ++ [n] ∧ u.sb.ring = s.sb.ring ∧
        u.sb.filling = some m ∧ u.sb.quarters = s.sb.quarters ∧
        u.sb.slot m = { SlotRecord.free with
          state := .filling, fill := 64 + record.length, count := 1, firstTime := some s.smn.partTime
          lastTime := some s.smn.partTime, firstSync := if flags.getLsbD 0 then some 64 else none } ∧
        (∀ j, j ≠ n → j ≠ m → u.sb.slots.lookup j = s.sb.slots.lookup j) ∧
        (∀ i b, (slotHeader stamped)[i]? = some b → Memory.read u.sb.mem (65536 * n + i) = some b) ∧
        (∀ i b, (s.finish fill)[i]? = some b → Memory.read u.sb.mem (65536 * n + fill + i) = some b) ∧
        (∀ i b, record[i]? = some b → Memory.read u.sb.mem (65536 * m + 64 + i) = some b) ∧
        (∀ a, (a < 65536 * n ∨ 65536 * n + 64 ≤ a) → (a < 65536 * n + fill ∨ 65536 * n + 65536 ≤ a) →
          (a < 65536 * m + 64 ∨ 65536 * m + 64 + record.length ≤ a) →
          Memory.read u.sb.mem a = Memory.read s.sb.mem a))

/-- A CLIP cell. With no payload or more than 4,096 bytes it counts CELLS BAD CHECK (R168). Otherwise the gap from the
expected sequence counts CLIP CELLS MISSING and the expected value moves past the cell (R169). In IDLE without a drain
it counts CLIP CELLS UNEXPECTED and is discarded (R121). While ARMED, RECORDING or draining it becomes a VIDEO record
with the cell's flags, GAP where cells are missing or where it ends an overrun (R71, R84, R180), the gap raising the gap
count of the receiving clip; every byte of the stacked DRAM outside the record stays. The record is appended to the
FILLING slot, or opens the lowest FREE slot, or the slot the ring's oldest member gives up (R73, R79); said for a record
that leaves 9 bytes or more in the slot. During an overrun a record without SYNC, and any record that finds no slot, is
discarded and counted (R83, R84). A record that does not fit closes the FILLING slot as full, finished with PAD or
zeros: stamped into the write queue for the receiving clip, or, while ARMED, into the ring (R74 to R76, R78, R82, R130).
Said where the cell makes no split (R130); for a full slot also where no forced split is due and the cell ends no drain.
A cell with LAST ends the drain of a CLOSING clip after its record was appended or discarded, as the drain deadline does
(R129). -/
def Obligations.ClipCellBecomesAVideoRecord : Prop :=
  ∀ (s : State) (flags : Byte) (sequence : BitVec 16) (payload : List Byte) (gap : Nat), s.powered = true →
    gap = (s.lp.expectedSequence.elim 0 (fun e => (sequence - e).toNat)) →
    (payload.length = 0 ∨ 4096 < payload.length →
      exec (.clipCell flags sequence payload) s = State.settled { s with lp := { s.lp with
        counters := { s.lp.counters with cellsBadCheck := min 65535 (s.lp.counters.cellsBadCheck + 1) } } }) ∧
    (1 ≤ payload.length → payload.length ≤ 4096 → s.clc.mode = .idle → s.clc.drain = none →
      exec (.clipCell flags sequence payload) s = State.settled { s with lp := { s.lp with
        expectedSequence := some (sequence + 1)
        counters := { s.lp.counters with
          clipCellsMissing := min 65535 (s.lp.counters.clipCellsMissing + gap)
          clipCellsUnexpected := min 65535 (s.lp.counters.clipCellsUnexpected + 1) } } }) ∧
    (∀ (record : List Byte) (lp : LinkPort), 1 ≤ payload.length → payload.length ≤ 4096 →
      (s.clc.mode ≠ .idle ∨ s.clc.drain ≠ none ∧ flags.getLsbD 2 = false) →
      (flags.getLsbD 0 = false ∨ s.clc.splitDue = false) →
      record = beBytes 1 1 ++ beBytes 1 ((if flags.getLsbD 0 then 1 else 0) + (if flags.getLsbD 1 then 2 else 0) +
          (if flags.getLsbD 2 then 4 else 0) + (if 0 < gap ∨ s.sb.overrun = true then 8 else 0)) ++
        beBytes 2 payload.length ++ beBytes 4 s.smn.partTime.toNat ++ payload →
      lp = { s.lp with
        expectedSequence := some (sequence + 1)
        counters := { s.lp.counters with clipCellsMissing := min 65535 (s.lp.counters.clipCellsMissing + gap) } } →
      (s.sb.overrun = true ∧ flags.getLsbD 0 = false ∨ s.noSlot →
        exec (.clipCell flags sequence payload) s = State.settled { s with
          lp := { lp with
            notices := s.overrunNotices s.lp.notices
            counters := { lp.counters with recordsDiscarded := min 65535 (s.lp.counters.recordsDiscarded + 1) } }
          sb := { s.sb with overrun := true }
          clc := s.gapped (gap + 1) }) ∧
      (s.sb.overrun = false ∨ flags.getLsbD 0 = true →
        (∀ (n : Nat) (r : SlotRecord) (ring : List Nat), s.receives record.length n r ring → ∃ u : State,
          exec (.clipCell flags sequence payload) s = u.settled ∧ s.appends u n r ring record (flags.getLsbD 0) ∧
            u.clc = s.gapped gap ∧ u.lp = lp ∧ u.sb.overrun = false ∧ s.sameOutside u) ∧
        (∀ (n m k fill : Nat) (c : ClipRecord) (stamped : SlotRecord), s.sb.filling = some n → s.clc.mode ≠ .armed →
          n < 1024 → (s.sb.slots.lookup n).isSome = true → fill = (s.sb.slot n).fill → 64 ≤ fill → fill ≤ 65536 →
          65536 < fill + record.length → s.clc.forcedSplitDue = false → s.clc.receiving = some k →
          s.clc.clip k = some c → s.lowestFreeIs m →
          stamped = { s.sb.slot n with state := .queued, clip := some k, sequence := some c.slotCount, final := false } →
          ∃ u : State, exec (.clipCell flags sequence payload) s = u.settled ∧ u.lp = lp ∧ u.sb.overrun = false ∧
            s.sameOutside u ∧ u.sb.slot n = stamped ∧ u.sb.queue = s.sb.queue ++ [n] ∧ u.sb.ring = s.sb.ring ∧ u.sb.filling = some m ∧
            u.sb.quarters = s.sb.quarters ∧
            u.sb.slot m = { SlotRecord.free with
              state := .filling, fill := 64 + record.length, count := 1, firstTime := some s.smn.partTime
              lastTime := some s.smn.partTime, firstSync := if flags.getLsbD 0 then some 64 else none } ∧
            (∀ j, j ≠ n → j ≠ m → u.sb.slots.lookup j = s.sb.slots.lookup j) ∧
            (∀ i b, (slotHeader stamped)[i]? = some b → Memory.read u.sb.mem (65536 * n + i) = some b) ∧
            (∀ i b, (s.finish fill)[i]? = some b → Memory.read u.sb.mem (65536 * n + fill + i) = some b) ∧
            (∀ i b, record[i]? = some b → Memory.read u.sb.mem (65536 * m + 64 + i) = some b) ∧
            (∀ a, (a < 65536 * n ∨ 65536 * n + 64 ≤ a) → (a < 65536 * n + fill ∨ 65536 * n + 65536 ≤ a) →
              (a < 65536 * m + 64 ∨ 65536 * m + 64 + record.length ≤ a) →
              Memory.read u.sb.mem a = Memory.read s.sb.mem a) ∧
            u.clc = { s.clc with
              splitDue := s.clc.splitDue || decide (c.state = .opened ∧
                s.clc.table.clipSizeLimit ≤ min 4294967295 (c.slotCount + 1))
              clips := s.clc.clips.map (fun r => if r.number = k then { r with
                gapCount := min 4294967295 (r.gapCount + gap), slotCount := min 4294967295 (r.slotCount + 1)
                startOffset := if r.slotCount = 0 ∧ r.startOffset = none then some ((s.sb.slot n).firstSync.getD 64)
                  else r.startOffset
                noSyncStart := r.noSyncStart || decide (r.slotCount = 0 ∧ r.startOffset = none ∧
                  (s.sb.slot n).firstSync = none) } else r) }) ∧
        (∀ (n m fill : Nat) (rest : List Nat) (gone : Option Nat), s.sb.filling = some n → s.clc.mode = .armed →
          n < 1024 → (s.sb.slots.lookup n).isSome = true → fill = (s.sb.slot n).fill → fill ≤ 65536 →
          65536 < fill + record.length → n ∉ s.sb.ring → s.clc.trailerDue = none →
          (s.sb.ring.length < s.clc.table.prerollDepth ∧ rest = s.sb.ring ∧ gone = none ∨
            s.clc.table.prerollDepth ≤ s.sb.ring.length ∧ ∃ o, s.sb.ring = o :: rest ∧ gone = some o) →
          m < 1024 → (s.sb.slots.lookup m = none ∨ gone = some m) →
          (∀ j, j < m → s.sb.slots.lookup j ≠ none ∧ gone ≠ some j) →
          ∃ u : State, exec (.clipCell flags sequence payload) s = u.settled ∧ u.lp = lp ∧ u.sb.overrun = false ∧
            s.sameOutside u ∧ u.sb.ring = rest ++ [n] ∧ u.sb.queue = s.sb.queue ∧
            u.sb.slot n = { s.sb.slot n with state := .preroll } ∧ u.sb.filling = some m ∧
            u.sb.quarters = s.sb.quarters ∧
            u.sb.slot m = { SlotRecord.free with
              state := .filling, fill := 64 + record.length, count := 1, firstTime := some s.smn.partTime
              lastTime := some s.smn.partTime, firstSync := if flags.getLsbD 0 then some 64 else none
              prerollOrigin := true } ∧
            (∀ j, gone = some j → j ≠ m → u.sb.slots.lookup j = none) ∧
            (∀ j, j ≠ n → j ≠ m → gone ≠ some j → u.sb.slots.lookup j = s.sb.slots.lookup j) ∧
            (∀ i b, record[i]? = some b → Memory.read u.sb.mem (65536 * m + 64 + i) = some b) ∧
            (∀ i b, (s.finish fill)[i]? = some b → Memory.read u.sb.mem (65536 * n + fill + i) = some b) ∧
            (∀ a, (a < 65536 * n + fill ∨ 65536 * n + 65536 ≤ a) →
              (a < 65536 * m + 64 ∨ 65536 * m + 64 + record.length ≤ a) →
              Memory.read u.sb.mem a = Memory.read s.sb.mem a) ∧
            u.clc = s.clc))) ∧
    (∀ (record : List Byte) (lp : LinkPort) (d : Drain) (c : ClipRecord) (ended : State → Nat → Prop),
      1 ≤ payload.length → payload.length ≤ 4096 → s.clc.mode = .idle → s.clc.drain = some d →
      s.clc.clip d.clip = some c → c.state = .closing → flags.getLsbD 2 = true →
      record = beBytes 1 1 ++ beBytes 1 ((if flags.getLsbD 0 then 1 else 0) + (if flags.getLsbD 1 then 2 else 0) + 4 +
          (if 0 < gap ∨ s.sb.overrun = true then 8 else 0)) ++
        beBytes 2 payload.length ++ beBytes 4 s.smn.partTime.toNat ++ payload →
      lp = { s.lp with
        expectedSequence := some (sequence + 1)
        counters := { s.lp.counters with clipCellsMissing := min 65535 (s.lp.counters.clipCellsMissing + gap) } } →
      (∀ v lost, ended v lost ↔ ∃ (u : State) (q : ClipRecord), exec (.clipCell flags sequence payload) s = u.settled ∧
        u.clc.clip d.clip = some q ∧ q.endReason = c.endReason ∧ q.gapCount = min 4294967295 (c.gapCount + lost) ∧
        v.drained u d.clip c.slotCount q ∧ u.me = s.me ∧ u.smn = s.smn) →
      (s.sb.overrun = true ∧ flags.getLsbD 0 = false ∨ s.noSlot → ended { s with
        lp := { lp with
          notices := s.overrunNotices s.lp.notices
          counters := { lp.counters with recordsDiscarded := min 65535 (s.lp.counters.recordsDiscarded + 1) } }
        sb := { s.sb with overrun := true }
        clc := s.gapped (gap + 1) } (gap + 1)) ∧
      (∀ (n : Nat) (r : SlotRecord) (ring : List Nat), s.sb.overrun = false ∨ flags.getLsbD 0 = true →
        s.receives record.length n r ring → ∃ v : State, s.appends v n r ring record (flags.getLsbD 0) ∧
          v.clc = s.gapped gap ∧ v.lp = lp ∧ v.sb.overrun = false ∧ s.sameOutside v ∧ ended v gap))

/-! ### The Card Port -/

/-- DETECT_LINE_CHANGE starts the 20 ms settle time afresh. DETECT_ASSERTED, with the line present for the settle time (part
time at its end, log entry 1), makes the settled level present, and an ABSENT card of an ACTIVE part is attached: RESET is
sent at G0 and 1 ms is waited (R105, R106); otherwise only the level changes. DETECT_RELEASED makes it not present and
removes a card that is not ABSENT (R107, R117): the write in flight ends and its slot goes back to the head of the write
queue, the writer is STOPPED or SUSPENDED for NO CARD, the extent table is emptied (R98) and CARD CHANGE is posted ABSENT:
before EXTENT LOW in ATTACHING, after it otherwise (in OFF the model's choice, log entry 37). That a removal in ATTACHING
makes capacity, maximum grade, grade in use and the wait absent is the model's reading (log entry 21). -/
def Obligations.CardDetectAttachesAndRemoves : Prop :=
  ∀ s : State, s.powered = true →
    exec .detectLineChange s = State.settled { s with cp := { s.cp with
      rawDetect := !s.cp.rawDetect, settle := some (s.smn.partTime + 20000) } } ∧
    (∀ d r, s.cp.settle = some d → r = s.reach d → s.cp.rawDetect = true → s.cp.detect = false →
      (s.cp.card = .absent → s.smn.standby = .active →
        exec .detectAsserted s = State.settled { r with cp := { s.cp with
          detect := true, settle := none, card := .attaching, gradeInUse := some .g0, sent := some .reset
          wait := some ⟨.resetDone, r.smn.partTime + 1000⟩ } }) ∧
      (s.cp.card ≠ .absent ∨ s.smn.standby ≠ .active →
        exec .detectAsserted s = State.settled { r with cp := { s.cp with detect := true, settle := none } })) ∧
    (∀ d r, s.cp.settle = some d → r = s.reach d → s.cp.rawDetect = false → s.cp.detect = true →
      (s.cp.card = .absent →
        exec .detectReleased s = State.settled { r with cp := { s.cp with detect := false, settle := none } }) ∧
      (s.cp.card ≠ .absent → ∃ u : State, exec .detectReleased s = u.settled ∧
        u.cp = { s.cp with
          detect := false, settle := none, card := .absent, capacity := none, maxGrade := none, gradeInUse := none
          write := none, wait := none
          writer := if s.cp.writer = .stopped ∨ s.cp.writer = .idle then .stopped else .suspended .noCard } ∧
        u.xm = { s.xm with extents := [] } ∧
        (∀ low absent : List Notice → List Notice,
          low = (if s.clc.table.lowMark ≤ remainingOf s.xm.extents ∧ 0 < s.clc.table.lowMark then
            postNotice .extentLow (.number 0) r.smn.partTime else id) →
          absent = postNotice .cardChange (.card .absent) r.smn.partTime →
          u.lp = { s.lp with notices :=
            if s.cp.card = .attaching then low (absent s.lp.notices) else absent (low s.lp.notices) }) ∧
        (∀ w n, s.cp.card ≠ .attaching → s.cp.write = some w → w.slot = some n →
          u.sb.queue = n :: s.sb.queue ∧ u.sb.slot n = { s.sb.slot n with state := .queued } ∧
          (∀ m, m ≠ n → u.sb.slots.lookup m = s.sb.slots.lookup m) ∧ u.sb.mem = s.sb.mem) ∧
        (s.cp.write.bind (·.slot) = none ∨ s.cp.card = .attaching → u.sb = s.sb) ∧
        u.smn = r.smn ∧ u.me = s.me ∧ u.wu = s.wu ∧ u.sp = s.sp ∧ u.clc = s.clc ∧ u.chg = s.chg ∧
        u.powered = true ∧ u.pending = s.pending))

/-- The attach after RESET (R106, R107). RESET_WAIT_EXPIRY sends IDENTIFY with a 100 ms answer timer. A good
IDENTIFY_ANSWER gives the capacity and the maximum grade, and SET GRADE is sent with the lowest of that grade, the set
grade and the thermal cap (R109); SET_GRADE_ANSWER makes the card READY at it, posts CARD CHANGE, and ends STOPPED and a
suspension other than NO EXTENT (R118); the slot write that then starts is a step of its own (log entry 5). A bad
answer, IDENTIFY_TIMEOUT and SET_GRADE_TIMEOUT fail the attach. Nothing else changes; a timer's event makes part time
its deadline (log entry 1). -/
def Obligations.AttachEndsReadyOrFailed : Prop :=
  ∀ (s r failed : State) (what : CardWait) (d : Time), s.powered = true → s.cp.wait = some ⟨what, d⟩ →
    r = s ∨ r = s.reach d →
    failed = { r with
      cp := { s.cp with
        card := .failed, capacity := none, maxGrade := none, gradeInUse := none, wait := none
        writer := match s.cp.writer with
          | .suspended _ => .suspended .cardFailed
          | w => w }
      lp := { s.lp with notices := postNotice .cardChange (.card .failed) r.smn.partTime s.lp.notices } } →
    (what = .resetDone → r = s.reach d → exec .resetWaitExpiry s = State.settled { r with cp := { s.cp with
      sent := some .identify, wait := some ⟨.identify, r.smn.partTime + 100000⟩ } }) ∧
    (what = .identify → r = s.reach d → exec .identifyTimeout s = failed.settled) ∧
    (∀ g, what = .attachGrade g → r = s.reach d → exec .setGradeTimeout s = failed.settled) ∧
    (∀ a : IdentifyAnswer, what = .identify → r = s →
      a.checkGood = false ∨ a.capacity.toNat < 128 ∨ 3 < a.grade.toNat →
      exec (.identifyAnswer a) s = failed.settled) ∧
    (∀ (a : IdentifyAnswer) (g e : Grade), what = .identify → a.checkGood = true → 128 ≤ a.capacity.toNat →
      g.code = a.grade.toNat →
      e.code = min g.code (min s.cp.setGrade (match s.smn.die with
        | .normal => 3
        | .warm => 2
        | .hot => 1
        | .critical => 0)) →
      exec (.identifyAnswer a) s = State.settled { s with cp := { s.cp with
        capacity := some a.capacity.toNat, maxGrade := some g, sent := some (.setGrade e)
        wait := some ⟨.attachGrade e, s.smn.partTime + 100000⟩ } }) ∧
    (∀ (ecc : EccRead) (g : Grade), what = .attachGrade g →
      exec (.setGradeAnswer ecc) s = State.settled { s with
        cp := { s.cp with
          card := .ready, gradeInUse := some g, wait := none
          writer := if s.cp.writer = .stopped ∨ s.cp.writer = .suspended .noCard ∨
            s.cp.writer = .suspended .cardFailed then .idle else s.cp.writer }
        lp := { s.lp with notices := postNotice .cardChange (.card .ready) s.smn.partTime s.lp.notices } })

/-- SLOT_WRITE_START with a READY card, an IDLE writer and a slot at the head of the write queue (R110, R111; a step of
its own, log entry 5). With no extent EXTENT EXHAUSTED is posted for the head slot's clip and the writer is SUSPENDED
for NO EXTENT (R93). Otherwise the write has the cursor as its position and as its grade the lowest of the card's
maximum, the set grade and the thermal cap (R109, eighth law). At another grade than the one in use SET GRADE is sent
first; SET_GRADE_ANSWER sets it and takes the slot at the head, or ends the write on an empty queue, and
SET_GRADE_TIMEOUT declares the card FAILED at its deadline, which becomes part time (R116; log entry 1). A slot taken is
WRITING, and WRITE BLOCKS with its first block is sent (R112). ECC findings of the block read count; the first damage of
a slot makes it DAMAGED (R86, R87). -/
def Obligations.SlotWriteTakesTheHeadSlot : Prop :=
  ∀ (s : State) (ecc : EccRead) (busy : Time), s.powered = true →
    busy = s.smn.partTime + BitVec.ofNat 48 (1000 * s.clc.table.busyTimeout) →
    (∀ n rest, s.cp.card = .ready → s.cp.writer = .idle → s.sb.queue = n :: rest →
      (s.xm.extents = [] → exec (.slotWriteStart ecc) s = State.settled { s with
        cp := { s.cp with writer := .suspended .noExtent, write := none, wait := none }
        lp := { s.lp with
          notices := postNotice .extentExhausted (.number ((s.sb.slot n).clip.getD 0)) s.smn.partTime s.lp.notices } }) ∧
      (∀ e g more, s.xm.extents = e :: more →
        g.code = min (s.cp.maxGrade.elim 3 Grade.code) (min s.cp.setGrade (match s.smn.die with
          | .normal => 3
          | .warm => 2
          | .hot => 1
          | .critical => 0)) →
        (s.cp.gradeInUse ≠ some g → exec (.slotWriteStart ecc) s = State.settled { s with cp := { s.cp with
          writer := .mapping, write := some ⟨none, e.first + e.used, 1, 0, 0, g⟩, sent := some (.setGrade g)
          wait := some ⟨.writeGrade, s.smn.partTime + 100000⟩ } }) ∧
        (s.cp.gradeInUse = some g → ecc.damaged = 0 ∨ (s.sb.slot n).damaged = true → exec (.slotWriteStart ecc) s = State.settled { s with
          cp := { s.cp with
            card := .writing, writer := .sending, write := some ⟨some n, e.first + e.used, 1, 0, 0, g⟩
            sent := some (.writeBlocks (e.first + e.used) 128), wait := some ⟨.block, busy⟩ }
          sb := { s.sb with slots := setEntry n { s.sb.slot n with state := .writing } s.sb.slots, queue := rest }
          lp := { s.lp with counters := { s.lp.counters with
            eccCorrected := min 65535 (s.lp.counters.eccCorrected + ecc.corrected) } } }) ∧
        (s.cp.gradeInUse = some g → 0 < ecc.damaged → (s.sb.slot n).damaged = false →
          ∃ u : State, exec (.slotWriteStart ecc) s = u.settled ∧
            u.sb.slot n = { s.sb.slot n with state := .writing, damaged := true } ∧ u.sb.queue = rest ∧
            (∀ m, m ≠ n → u.sb.slots.lookup m = s.sb.slots.lookup m) ∧
            u.lp = { s.lp with counters := { s.lp.counters with
              eccCorrected := min 65535 (s.lp.counters.eccCorrected + ecc.corrected)
              slotsDamaged := min 65535 (s.lp.counters.slotsDamaged + 1) } } ∧
            u.clc = { s.clc with clips := s.clc.clips.map (fun c => if c.number = (s.sb.slot n).clip.getD 0 then
              { c with damagedSlots := min 4294967295 (c.damagedSlots + 1)
                       firstDamaged := c.firstDamaged.or (s.sb.slot n).sequence } else c) } ∧
            u.cp = { s.cp with
              card := .writing, writer := .sending, write := some ⟨some n, e.first + e.used, 1, 0, 0, g⟩
              sent := some (.writeBlocks (e.first + e.used) 128), wait := some ⟨.block, busy⟩ } ∧
            u.sb.mem = s.sb.mem ∧ u.sb.filling = s.sb.filling ∧ u.sb.ring = s.sb.ring ∧ u.sb.overrun = s.sb.overrun ∧
            u.sb.quarters = s.sb.quarters ∧ u.me = s.me ∧ u.wu = s.wu ∧ u.sp = s.sp ∧ u.xm = s.xm ∧ u.chg = s.chg ∧
            u.smn = s.smn ∧ u.powered = true ∧ u.pending = s.pending))) ∧
    (∀ d w, s.cp.wait = some ⟨.writeGrade, d⟩ → s.cp.write = some w →
      (s.sb.queue = [] → exec (.setGradeAnswer ecc) s = State.settled { s with cp := { s.cp with
        gradeInUse := some w.grade, writer := .idle, write := none, wait := none } }) ∧
      (∀ n rest, s.sb.queue = n :: rest → ecc.damaged = 0 ∨ (s.sb.slot n).damaged = true →
        exec (.setGradeAnswer ecc) s = State.settled { s with
        cp := { s.cp with
          gradeInUse := some w.grade, card := .writing, writer := .sending
          write := some { w with slot := some n, blocksAnswered := 0 }
          sent := some (.writeBlocks w.position 128), wait := some ⟨.block, busy⟩ }
        sb := { s.sb with slots := setEntry n { s.sb.slot n with state := .writing } s.sb.slots, queue := rest }
        lp := { s.lp with counters := { s.lp.counters with
          eccCorrected := min 65535 (s.lp.counters.eccCorrected + ecc.corrected) } } }) ∧
      (∀ n rest, s.sb.queue = n :: rest → 0 < ecc.damaged → (s.sb.slot n).damaged = false →
        ∃ u : State, exec (.setGradeAnswer ecc) s = u.settled ∧
          u.sb.slot n = { s.sb.slot n with state := .writing, damaged := true } ∧ u.sb.queue = rest ∧
          (∀ m, m ≠ n → u.sb.slots.lookup m = s.sb.slots.lookup m) ∧
          u.lp = { s.lp with counters := { s.lp.counters with
            eccCorrected := min 65535 (s.lp.counters.eccCorrected + ecc.corrected)
            slotsDamaged := min 65535 (s.lp.counters.slotsDamaged + 1) } } ∧
          u.clc = { s.clc with clips := s.clc.clips.map (fun c => if c.number = (s.sb.slot n).clip.getD 0 then
            { c with damagedSlots := min 4294967295 (c.damagedSlots + 1)
                     firstDamaged := c.firstDamaged.or (s.sb.slot n).sequence } else c) } ∧
          u.cp = { s.cp with
            gradeInUse := some w.grade, card := .writing, writer := .sending
            write := some { w with slot := some n, blocksAnswered := 0 }
            sent := some (.writeBlocks w.position 128), wait := some ⟨.block, busy⟩ } ∧
          u.sb.mem = s.sb.mem ∧ u.sb.filling = s.sb.filling ∧ u.sb.ring = s.sb.ring ∧ u.sb.overrun = s.sb.overrun ∧
          u.sb.quarters = s.sb.quarters ∧ u.me = s.me ∧ u.wu = s.wu ∧ u.sp = s.sp ∧ u.xm = s.xm ∧ u.chg = s.chg ∧
          u.smn = s.smn ∧ u.powered = true ∧ u.pending = s.pending) ∧
      (∀ r, r = s.reach d → w.slot = none → exec .setGradeTimeout s = State.settled { r with
        cp := { s.cp with
          card := .failed, gradeInUse := none, wait := none, write := none, writer := .suspended .cardFailed }
        lp := { s.lp with
          notices := postNotice .cardChange (.card .failed) r.smn.partTime
            (postNotice .cardFailed (.number (match s.sb.queue with
            | n :: _ => (s.sb.slot n).clip.getD 0
            | [] => 0)) r.smn.partTime s.lp.notices) } }))

/-- The blocks of an attempt (R112 to R114, R116). An ACCEPTED block raises BLOCKS ANSWERED and sends the next,
one block being unanswered at a time by the model's choice (log entry 10); the 128th
leaves the card and the writer SETTLING under the busy timer. CHECK ERROR, WRITE ERROR, BLOCK_ANSWER_TIMEOUT and
BUSY_TIMER_EXPIRY fail the attempt: CARD RETRIES is counted, STOP is sent, and the card is WRITING until it reports ready.
STOP_TIMEOUT declares the card FAILED: the slot goes back to the head of the write queue, the position is consumed (R94),
the writer is SUSPENDED, and CARD FAILED and then CARD CHANGE are posted. A timer's event makes part time its deadline (log
entry 1); an ACCEPTED block is said for a next block without uncorrectable errors. -/
def Obligations.BlockAnswersMoveTheAttempt : Prop :=
  ∀ (s r stopped : State) (what : CardWait) (d : Time) (w : SlotWrite) (event : Instr), s.powered = true →
    s.cp.wait = some ⟨what, d⟩ → s.cp.write = some w →
    stopped = { r with
      cp := { s.cp with
        card := .writing, writer := .sending, sent := some .stop
        wait := some ⟨.stopped, r.smn.partTime + BitVec.ofNat 48 (1000 * s.clc.table.busyTimeout)⟩ }
      lp := { s.lp with counters := { s.lp.counters with
        cardRetries := min 65535 (s.lp.counters.cardRetries + 1) } } } →
    (∀ ecc, what = .block → event = .blockAnswer .checkError ecc ∨ event = .blockAnswer .writeError ecc → r = s →
      exec event s = stopped.settled) ∧
    (what = .block ∧ event = .blockAnswerTimeout ∨ what = .settled ∧ event = .busyTimerExpiry → r = s.reach d →
      exec event s = stopped.settled) ∧
    (∀ ecc, what = .block → w.blocksAnswered + 1 < 128 → ecc.damaged = 0 →
      exec (.blockAnswer .accepted ecc) s = State.settled { s with
        cp := { s.cp with
          write := some { w with blocksAnswered := w.blocksAnswered + 1 }
          sent := some (.block (w.blocksAnswered + 1))
          wait := some ⟨.block, s.smn.partTime + BitVec.ofNat 48 (1000 * s.clc.table.busyTimeout)⟩ }
        lp := { s.lp with counters := { s.lp.counters with
          eccCorrected := min 65535 (s.lp.counters.eccCorrected + ecc.corrected) } } }) ∧
    (∀ ecc, what = .block → 128 ≤ w.blocksAnswered + 1 →
      exec (.blockAnswer .accepted ecc) s = State.settled { s with cp := { s.cp with
        card := .settling, writer := .settling, write := some { w with blocksAnswered := w.blocksAnswered + 1 }
        wait := some ⟨.settled, s.smn.partTime + BitVec.ofNat 48 (1000 * s.clc.table.busyTimeout)⟩ } }) ∧
    (∀ n, what = .stopped → r = s.reach d → w.slot = some n →
      ∃ u : State, exec .stopTimeout s = u.settled ∧
        u.cp = { s.cp with
          card := .failed, gradeInUse := none, wait := none, write := none, writer := .suspended .cardFailed } ∧
        u.sb = { s.sb with
          slots := setEntry n { s.sb.slot n with state := .queued } s.sb.slots, queue := n :: s.sb.queue } ∧
        u.xm = { s.xm with extents := consumeHead s.xm.extents } ∧
        u.lp = { s.lp with
          notices := postNotice .cardChange (.card .failed) r.smn.partTime
            (postNotice .cardFailed (.number ((s.sb.slot n).clip.getD 0)) r.smn.partTime
              ((if s.clc.table.lowMark ≤ remainingOf s.xm.extents ∧ remainingOf u.xm.extents < s.clc.table.lowMark then
                postNotice .extentLow (.number (remainingOf u.xm.extents)) r.smn.partTime else id) s.lp.notices)) } ∧
        u.smn = r.smn ∧ u.me = s.me ∧ u.wu = s.wu ∧ u.sp = s.sp ∧ u.clc = s.clc ∧ u.chg = s.chg ∧
        u.powered = true ∧ u.pending = s.pending)

/-- READY_REPORT. After STOP, a report raised before STOP reached the card is ignored (R113; which it is, the operand
says, log entry 36). On one raised after it: a first failed attempt is repeated at its position (R114); a second at the
first position is skipped, the position being consumed, CARD SKIPS and the clip's skipped ranges counted, and the slot
moves to the new cursor (R94, R115), or is given back where there is none (R95); a second at the second position
declares the card FAILED (R116). In SETTLING the write succeeds (R113): the position is consumed, the card is READY and
the writer IDLE, the next write being a step of its own (log entry 5). A data slot raises WRITTEN and lengthens the last
range or begins a new one, a range not listed of an OPEN clip making a forced split due (R127); a trailer records its
position, and its clip is CLOSED with CLIP CLOSED posted (R134; said with no power close). The protect table follows a
LOCKED clip (R66, R67, R102). Then the trailer test: the slot becomes FREE, or, where the trailer of the lowest CLOSING
clip is due, it is claimed for it: its contents and stamp are those of R133 and R180, and it is the head of the write
queue (R77, R132). Said where no MOTION record is ready. -/
def Obligations.ReadyReportEndsTheAttempt : Prop :=
  ∀ (s : State) (moment : ReportMoment) (ecc : EccRead) (d : Time) (w : SlotWrite) (n : Nat) (busy : Time)
      (low : List Notice → List Notice),
    s.powered = true → s.cp.write = some w → w.slot = some n →
    busy = s.smn.partTime + BitVec.ofNat 48 (1000 * s.clc.table.busyTimeout) →
    low = (if s.clc.table.lowMark ≤ remainingOf s.xm.extents ∧
        remainingOf (consumeHead s.xm.extents) < s.clc.table.lowMark then
      postNotice .extentLow (.number (remainingOf (consumeHead s.xm.extents))) s.smn.partTime else id) →
    (s.cp.wait = some ⟨.stopped, d⟩ → moment = .beforeStop → exec (.readyReport ⟨moment, ecc⟩) s = s.settled) ∧
    (s.cp.wait = some ⟨.stopped, d⟩ → moment = .afterStop → ecc.damaged = 0 →
      (w.attempts = 0 → exec (.readyReport ⟨moment, ecc⟩) s = State.settled { s with
        cp := { s.cp with
          card := .writing, writer := .sending, write := some { w with attempts := 1, blocksAnswered := 0 }
          sent := some (.writeBlocks w.position 128), wait := some ⟨.block, busy⟩ }
        lp := { s.lp with counters := { s.lp.counters with
          eccCorrected := min 65535 (s.lp.counters.eccCorrected + ecc.corrected) } } }) ∧
      (∀ p, w.attempts ≠ 0 → w.positionCount = 1 → cursorOf (consumeHead s.xm.extents) = some p →
        exec (.readyReport ⟨moment, ecc⟩) s = State.settled { s with
          cp := { s.cp with
            card := .writing, writer := .sending
            write := some { w with position := p, positionCount := 2, attempts := 0, blocksAnswered := 0 }
            sent := some (.writeBlocks p 128), wait := some ⟨.block, busy⟩ }
          xm := { s.xm with extents := consumeHead s.xm.extents }
          clc := { s.clc with clips := s.clc.clips.map (fun c => if c.number = (s.sb.slot n).clip.getD 0 then
            { c with skippedRanges := min 4294967295 (c.skippedRanges + 1) } else c) }
          lp := { s.lp with
            notices := low s.lp.notices
            counters := { s.lp.counters with
              cardSkips := min 65535 (s.lp.counters.cardSkips + 1)
              eccCorrected := min 65535 (s.lp.counters.eccCorrected + ecc.corrected) } } }) ∧
      (w.attempts ≠ 0 → w.positionCount = 1 ∧ cursorOf (consumeHead s.xm.extents) = none ∨ w.positionCount = 2 →
        ∃ u : State, exec (.readyReport ⟨moment, ecc⟩) s = u.settled ∧ u.xm = { s.xm with extents := consumeHead s.xm.extents } ∧
          u.sb = { s.sb with
            slots := setEntry n { s.sb.slot n with state := .queued } s.sb.slots, queue := n :: s.sb.queue } ∧
          u.cp.write = none ∧ u.cp.wait = none ∧
          (w.positionCount = 1 → u.cp.card = .ready ∧ u.cp.writer = .suspended .noExtent) ∧
          (w.positionCount = 2 → u.cp.card = .failed ∧ u.cp.writer = .suspended .cardFailed) ∧
          u.smn = s.smn ∧ u.me = s.me ∧ u.wu = s.wu ∧ u.sp = s.sp ∧ u.chg = s.chg ∧ u.powered = true ∧
          u.pending = s.pending)) ∧
    (∀ (k f : Nat) (c after : ClipRecord) (locks : List (Option ProtectRange)) (partly trailer : Bool)
        (clips : List ClipRecord), s.cp.wait = some ⟨.settled, d⟩ → (s.sb.slot n).clip = some k → s.clc.clip k = some c →
      s.numbersOk → s.clc.mode = .idle ∨ s.me.queue.length < 32 → f = w.position → trailer = (s.sb.slot n).trailer →
      (trailer = true → s.clc.powerClose = none) →
      (c.locked = false ∧ locks = s.xm.protect ∧ partly = false ∨
        c.locked = true ∧ lockOutcome (consumeHead s.xm.extents) s.xm.protect k f locks partly) →
      after = (if trailer then { c with trailerPosition := some f, state := .closed, lockPartial := c.lockPartial || partly }
        else { c.completed f with lockPartial := c.lockPartial || partly }) →
      clips = s.clc.clips.map (fun q => if q.number = k then after else q) →
      ∃ u : State, exec (.readyReport ⟨moment, ecc⟩) s = u.settled ∧
        u.cp = { s.cp with card := .ready, write := none, writer := .idle, wait := none } ∧
        u.xm = ⟨consumeHead s.xm.extents, locks⟩ ∧
        u.lp = { s.lp with
          notices := (if trailer then postNotice .clipClosed (.number k) s.smn.partTime else id)
            ((if partly && !c.lockPartial then postNotice .lockPartial (.number k) s.smn.partTime else id)
              (low s.lp.notices)) } ∧
        u.smn = s.smn ∧ u.me = s.me ∧ u.wu = s.wu ∧ u.sp = s.sp ∧ u.chg = s.chg ∧ u.powered = true ∧
        u.pending = s.pending ∧
        (∀ (due : ClipRecord → Prop) (forced : Bool),
          (∀ q, due q ↔ clips.find? (fun x => decide (x.state = .closing)) = some q ∧ q.dataDone = true ∧
            q.written = q.slotCount ∧ q.trailerFormed = false) →
          (forced = true ↔ s.clc.forcedSplitDue = true ∨ trailer = false ∧ c.state = .opened ∧ 128 ≤ c.ranges.length ∧
            ∀ g, c.ranges.getLast? = some g → g.1 + g.2 ≠ f) →
          ((∀ q, ¬due q) → u.clc = { s.clc with clips := clips, forcedSplitDue := forced } ∧
            u.sb = { s.sb with slots := s.sb.slots.filter (fun p => decide (p.1 ≠ n)) }) ∧
          (∀ (q : ClipRecord) (reason : EndReason) (head : SlotRecord) (contents : List Byte), due q →
            q.endReason = some reason → q.ranges.length ≤ 128 → n < 1024 →
            head = { SlotRecord.free with
              state := .queued, clip := some q.number, sequence := some q.slotCount, fill := 104 + 8 * q.ranges.length
              firstTime := some s.smn.partTime, lastTime := some s.smn.partTime, trailer := true } →
            contents = beBytes 4 q.number ++ beBytes 1 1 ++ beBytes 6 q.startTime.toNat ++ beBytes 1 reason.code ++
              beBytes 4 q.slotCount ++ beBytes 2 (q.startOffset.getD 0) ++
              beBytes 1 ((if q.noSyncStart then 1 else 0) + (if q.locked then 2 else 0) + (if q.lockPartial then 4 else 0)) ++
              beBytes 4 q.gapCount ++ beBytes 4 q.damagedSlots ++ beBytes 4 (q.firstDamaged.getD 4294967295) ++
              beBytes 4 q.skippedRanges ++ beBytes 4 q.unlisted ++ beBytes 1 q.ranges.length ++
              q.ranges.flatMap (fun g => beBytes 4 g.1 ++ beBytes 4 g.2) →
            u.clc = { s.clc with
              forcedSplitDue := forced
              clips := clips.map (fun x => if x.number = q.number then { x with trailerFormed := true } else x) } ∧
            u.sb.slot n = head ∧ u.sb.queue = n :: s.sb.queue ∧ u.sb.filling = s.sb.filling ∧ u.sb.ring = s.sb.ring ∧
            u.sb.overrun = s.sb.overrun ∧ (∀ m, m ≠ n → u.sb.slots.lookup m = s.sb.slots.lookup m) ∧
            (∀ i b, (slotHeader head)[i]? = some b → Memory.read u.sb.mem (65536 * n + i) = some b) ∧
            (∀ i, i < 65472 → Memory.read u.sb.mem (65536 * n + 64 + i) = some (contents.getD i 0)) ∧
            (∀ a, a < 65536 * n ∨ 65536 * n + 65536 ≤ a → Memory.read u.sb.mem a = Memory.read s.sb.mem a))))

/-- The account of a completed data slot at block f (R127): WRITTEN rises by one; the last range is lengthened by 128 where
it ends at f, a new range of 128 blocks at f begins otherwise, and with 128 ranges listed UNLISTED rises instead. -/
def Obligations.CompletedSlotEntersTheRangeList : Prop :=
  ∀ (c : ClipRecord) (f a n : Nat) (front : List (Nat × Nat)),
    (c.completed f).written = min 4294967295 (c.written + 1) ∧ (c.completed f).number = c.number ∧
    (c.ranges = [] → (c.completed f).ranges = [(f, 128)] ∧ (c.completed f).unlisted = c.unlisted) ∧
    (c.ranges = front ++ [(a, n)] → a + n = f →
      (c.completed f).ranges = front ++ [(a, n + 128)] ∧ (c.completed f).unlisted = c.unlisted) ∧
    (c.ranges = front ++ [(a, n)] → a + n ≠ f → c.ranges.length < 128 →
      (c.completed f).ranges = c.ranges ++ [(f, 128)] ∧ (c.completed f).unlisted = c.unlisted) ∧
    (c.ranges = front ++ [(a, n)] → a + n ≠ f → 128 ≤ c.ranges.length →
      (c.completed f).ranges = c.ranges ∧ (c.completed f).unlisted = min 4294967295 (c.unlisted + 1))

/-! ### Charging, levels and standby -/

/-- A sweep above V CUT takes the readings, held to their ranges, at its moment, 10 ms after the sweep before (R141; log
entries 1 and 30), takes the pending PROFILE table (R155), and tests the input (R143, R144): above 6,000 mV NO INPUT
with reason OVER-VOLTAGE; below 4,200 mV a closed switch opens, NO INPUT with reason REMOVED; from 4,400 mV NO INPUT
becomes QUALIFY, whose count rises, and at 200 the switch closes with a charge start (R147), which step 4 of the same
sweep can take on (log entry 18): FAULT for an OPEN T_bat, PAUSED without an active row, and with one PRECHARGE below
3,000 mV and FAST or TAPER above. avail follows (R108, R145). While no level is CRITICAL an ACTIVE part outside charging
stays as it is. -/
def Obligations.SweepTestsTheInput : Prop :=
  ∀ (s : State) (r q : Readings) (T : ProfileTable), s.powered = true → s.switchOk → q = clampReadings r →
    T = s.chg.pendingTable.getD s.chg.table → (T.vCut : Int) < q.vBat →
    ∃ u : State, exec (.sweep r) s = u.settled ∧ u.powered = true ∧ u.pending = s.pending ∧
      u.smn.readings = some q ∧
      u.smn.partTime = s.smn.partTime + BitVec.ofNat 48 s.smn.sweepLeft.toNat ∧
      u.smn.sweepLeft = (if 0 < s.smn.sweepLeft then 0 else s.smn.sweepLeft) + 10000 ∧
      u.chg.table = T ∧ u.chg.pendingTable = none ∧ u.chg.inputLimit = s.chg.inputLimit ∧
      u.chg.avail = some ((s.chg.inputLimit : Int) - q.iSys - (if s.cp.card = .writing ∨ s.cp.card = .settling then
        (match s.cp.gradeInUse with
          | some .g0 => 60
          | some .g1 => 90
          | some .g2 => 140
          | some .g3 => 200
          | none => 0) else 0) - 50) ∧
      (6000 < q.vIn → u.chg.switchClosed = false ∧ u.chg.state = .noInput ∧ u.chg.reason = some .overVoltage) ∧
      (q.vIn < 4200 → s.chg.switchClosed = true →
        u.chg.switchClosed = false ∧ u.chg.state = .noInput ∧ u.chg.reason = some .removed ∧ u.chg.qualifyCount = 0 ∧
          u.chg.prechargeCount = 0 ∧ u.chg.fastCount = 0 ∧ u.chg.terminationCount = 0) ∧
      (4200 ≤ q.vIn → q.vIn ≤ 6000 → s.chg.switchClosed = true → u.chg.switchClosed = true) ∧
      (q.vIn ≤ 6000 → s.chg.switchClosed = false → s.chg.state = .noInput →
        u.chg.switchClosed = false ∧
        (q.vIn < 4400 → u.chg.state = .noInput ∧ u.chg.reason = s.chg.reason) ∧
        (4400 ≤ q.vIn → u.chg.state = .qualify ∧ u.chg.reason = none ∧ u.chg.qualifyCount = 1)) ∧
      (q.vIn ≤ 6000 → s.chg.switchClosed = false → s.chg.state = .qualify →
        (q.vIn < 4400 → u.chg.switchClosed = false ∧ u.chg.state = .noInput ∧ u.chg.reason = some .removed ∧
          u.chg.qualifyCount = 0) ∧
        (4400 ≤ q.vIn → s.chg.qualifyCount < 199 → u.chg.switchClosed = false ∧ u.chg.state = .qualify ∧
          u.chg.qualifyCount = s.chg.qualifyCount + 1) ∧
        (4400 ≤ q.vIn → 199 ≤ s.chg.qualifyCount → u.chg.switchClosed = true ∧
          (q.tBat = none → u.chg.state = .fault ∧ u.chg.reason = some .batteryAbsent) ∧
          (∀ x, q.tBat = some x → T.activeRow q.tBat = none → u.chg.state = .paused ∧ u.chg.reason = some (T.side x)) ∧
          (∀ p, T.activeRow q.tBat = some p → 1 ≤ T.prechargeTimer → 1 ≤ T.fastTimer → u.chg.reason = none ∧
            u.chg.state = (if q.vBat < 3000 then .precharge
              else if (p.voltage : Int) - 10 ≤ q.vBat then .taper else .fast)))) ∧
      (s.smn.standby = .active → u.smn.battery ≠ .critical → u.smn.die ≠ .critical →
        u.me = s.me ∧ u.wu = s.wu ∧ u.sp = s.sp ∧ u.sb = s.sb ∧ u.xm = s.xm ∧ u.cp = s.cp ∧ u.clc = s.clc ∧
        u.smn.standby = .active ∧ u.lp = { s.lp with notices := u.lp.notices })

/-- A sweep with the switch closed and V_in from 4,200 to 6,000 mV makes at most one transition of R148, by T_bat, the
active row and V_bat; a FAULT for BATTERY ABSENT ends with T_bat (R153), a PAUSED charge or that FAULT with a charge start
(R147), and TAPER at the tenth termination count in a row (R149). Said where no safety count is at its limit (R152). A
change of the state or its reason posts CHARGE STATE. -/
def Obligations.SweepMovesTheCharger : Prop :=
  ∀ (s : State) (r q : Readings) (T : ProfileTable) (row : Option ProfileRow) (start : ChargerState × Option ChargeReason)
    (stay : ChargerState × Option ChargeReason), s.powered = true → q = clampReadings r →
    T = s.chg.pendingTable.getD s.chg.table → s.chg.switchClosed = true → 4200 ≤ q.vIn → q.vIn ≤ 6000 →
    row = T.activeRow q.tBat → s.chg.prechargeCount + 1 < T.prechargeTimer * 6000 →
    s.chg.fastCount + 1 < T.fastTimer * 6000 → stay = (s.chg.state, s.chg.reason) →
    (∀ x, q.tBat = some x → row = none → start = (.paused, some (T.side x))) →
    (row ≠ none → start = (if q.vBat < 3000 then .precharge else .fast, none)) →
    ∃ u : State, exec (.sweep r) s = u.settled ∧
      (∀ moved : ChargerState × Option ChargeReason,
        (q.tBat = none ∧ (s.chg.state = .fault ∧ moved = stay ∨
            s.chg.state ≠ .fault ∧ s.chg.state ≠ .noInput ∧ s.chg.state ≠ .qualify ∧ moved = (.fault, some .batteryAbsent)) ∨
          q.tBat ≠ none ∧ s.chg.state = .fault ∧
            moved = (if s.chg.reason = some .batteryAbsent then start else stay) ∨
          q.tBat ≠ none ∧ row = none ∧ (s.chg.state = .full ∧ moved = stay ∨
            (s.chg.state = .precharge ∨ s.chg.state = .fast ∨ s.chg.state = .taper ∨ s.chg.state = .paused) ∧
              moved = start) ∨
          (∃ p, row = some p ∧
            (s.chg.state = .precharge ∧ moved = (if 3000 ≤ q.vBat then (.fast, none) else stay) ∨
              s.chg.state = .fast ∧ moved = (if (p.voltage : Int) - 10 ≤ q.vBat then (.taper, none) else stay) ∨
              s.chg.state = .taper ∧ moved = (if q.vBat < (p.voltage : Int) - 100 then (.fast, none)
                else if q.iBat < T.terminationCurrent ∧ T.terminationCurrent ≤ s.chg.target ∧
                  9 ≤ s.chg.terminationCount then (.full, none) else stay) ∨
              s.chg.state = .full ∧ moved = (if q.vBat < (p.voltage : Int) - 100 then (.fast, none) else stay) ∨
              s.chg.state = .paused ∧ moved = start))) →
        (u.chg.state, u.chg.reason) = moved ∧
        (moved ≠ stay → ∃ n, (⟨.chargeState, n, .charger moved.1 moved.2, u.smn.partTime⟩ : Notice) ∈ u.lp.notices)) ∧
      u.chg.switchClosed = true ∧ u.chg.qualifyCount = s.chg.qualifyCount

/-- At a sweep the battery is classified from V_bat, the switch and avail (R159), the die from T_die: a rise to the
highest threshold of 850, 1,000 and 1,150 reached, else a fall to the highest leaving value of 800, 950 and 1,100 it is
above (R161). The target is the lesser of the row's current, halved at HOT and held to PRECHARGE CURRENT in PRECHARGE,
and avail rounded down to 25 mA, 0 at CRITICAL and outside PRECHARGE, FAST and TAPER (R150, seventh law). With the
switch open and V_bat at or below V CUT the part goes dark and loses its state (R160); the detect pin and the queue
stand outside it (log entry 7), and the switch is the one step 2 left (log entry 39). The classifications stand before
step 4 (log entry 38). A change of the die level posts HEAT. In ACTIVE and with no power close present, a level that
becomes CRITICAL starts one, POWER for the battery, else HEAT for the die: it ends a recording, disarms an ARMED
recorder or finds IDLE, stays present while a clip is OPEN or CLOSING or a drain runs, and otherwise ends at once in
standby with its reason (R136, R137, R161, R162, R164; said of ARMED and IDLE where no trailer is due); at any other
sweep the clips stay as they are. -/
def Obligations.SweepClassifiesAndBudgets : Prop :=
  ∀ (s : State) (r q : Readings) (T : ProfileTable), s.powered = true → s.switchOk → q = clampReadings r →
    T = s.chg.pendingTable.getD s.chg.table →
    (q.vBat ≤ T.vCut → 6000 < q.vIn ∨ q.vIn < 4200 ∨ s.chg.switchClosed = false ∧ s.chg.qualifyCount < 199 →
      exec (.sweep r) s = State.settled { State.powerOn s.cp.rawDetect s.pending with powered := false }) ∧
    ((T.vCut : Int) < q.vBat → ∃ u : State, exec (.sweep r) s = u.settled ∧
      (∀ count : Nat, count = (if s.smn.battery = .critical then s.smn.criticalCount
          else if q.vBat ≤ T.vCrit ∧ (u.chg.switchClosed = false ∨ ∃ a, u.chg.avail = some a ∧ a < 0) then
            min 3 (s.smn.criticalCount + 1) else 0) →
        u.smn.battery = (match s.smn.battery with
          | .normal => if count = 3 then .critical else if q.vBat < T.vLow then .low else .normal
          | .low => if count = 3 then .critical else if (T.vLow : Int) + 100 ≤ q.vBat then .normal else .low
          | .critical =>
            if q.vBat ≤ (T.vCrit : Int) + 200 then .critical
            else if (T.vLow : Int) + 100 ≤ q.vBat then .normal else .low) ∧
        u.smn.criticalCount = (if u.smn.battery = .critical then 0 else count)) ∧
      (∀ up down : Nat,
        up = (if 1150 ≤ q.tDie then 3 else if 1000 ≤ q.tDie then 2 else if 850 ≤ q.tDie then 1 else 0) →
        down = (if 1100 < q.tDie then 3 else if 950 < q.tDie then 2 else if 800 < q.tDie then 1 else 0) →
        u.smn.die.code = (if s.smn.die.code < up then up else min s.smn.die.code down)) ∧
      (∀ p, T.activeRow q.tBat = some p → u.smn.die ≠ .critical →
        u.chg.state = .precharge ∨ u.chg.state = .fast ∨ u.chg.state = .taper →
        ∀ limit : Nat, limit = (if u.smn.die = .hot then p.current / 2 / 25 * 25 else p.current) →
          u.chg.target = min (if u.chg.state = .precharge then min limit T.prechargeCurrent else limit)
            ((u.chg.avail.elim 0 Int.toNat) / 25 * 25)) ∧
      (T.activeRow q.tBat = none ∨ u.smn.die = .critical ∨ u.chg.state.charging = false → u.chg.target = 0) ∧
      (u.smn.die ≠ s.smn.die → ∃ n, (⟨.heat, n, .die u.smn.die, u.smn.partTime⟩ : Notice) ∈ u.lp.notices) ∧
      ((s.smn.battery = .critical ∨ u.smn.battery ≠ .critical) ∧ (s.smn.die = .critical ∨ u.smn.die ≠ .critical) ∨
        s.smn.standby ≠ .active ∨ s.clc.powerClose ≠ none → u.clc = s.clc) ∧
      (∀ (why : PowerReason) (more : Prop), s.smn.standby = .active → s.clc.powerClose = none →
        (why = .power ∧ s.smn.battery ≠ .critical ∧ u.smn.battery = .critical ∨
          why = .heat ∧ (s.smn.battery = .critical ∨ u.smn.battery ≠ .critical) ∧ s.smn.die ≠ .critical ∧
            u.smn.die = .critical) →
        (more ↔ s.clc.drain ≠ none ∨ ∃ c ∈ s.clc.clips, c.state = .opened ∨ c.state = .closing) →
        (∀ c, s.clc.mode = .recording → s.clc.openClip = some c → u.clc.mode = .idle ∧ u.clc.powerClose = some why ∧
          u.clc.splitDue = false ∧ u.clc.forcedSplitDue = false ∧ u.me.queue = [] ∧ u.sb.filling = none ∧
          u.sb.overrun = false ∧ u.smn.standby = .active ∧ ∃ k ∈ u.clc.clips, k.number = c.number ∧ k.state = .closing ∧
            k.endReason = some (match why with
              | .power => .power
              | .heat => .heat) ∧ k.dataDone = true) ∧
        (s.clc.mode ≠ .recording → s.clc.trailerDue = none →
          (s.clc.mode = .armed → u.sb.ring = [] ∧ u.sb.filling = none ∧ u.sb.overrun = false ∧ u.me.queue = [] ∧
            ∀ n ∈ s.sb.ring ++ s.sb.filling.toList, u.sb.slots.lookup n = none) ∧
          (more → u.clc = { s.clc with mode := .idle, powerClose := some why } ∧ u.smn.standby = .active) ∧
          (¬more → u.clc = { s.clc with mode := .idle } ∧ s.parked u (match why with
            | .power => .power
            | .heat => .heat)))) ∧
      u.powered = true)

/-- The rows of the table that are special sweeps are that sweep where their condition holds at it (log entry 6): the
200th good voltage closes the switch (R143), which keeps the part up even at or below V CUT (log entry 39), and in
STANDBY with reason POWER starts the buffer wake unless the die is CRITICAL, while with another reason or a CRITICAL die
it starts none (R165, R166; the level is the one before the sweep, log entry 17); the tenth termination count makes FULL
(R149); a safety count that reaches its limit makes FAULT with its reason and target 0 (R152); and the third critical
count in a row makes the battery CRITICAL, which ends a recording for POWER (R136, R159). CHARGE RESET zeroes the counts
and the target and makes a charge start from the latest readings, or changes nothing in NO INPUT and QUALIFY (R147,
R157). -/
def Obligations.SweepEventsAndChargeReset : Prop :=
  ∀ (s : State) (r q : Readings) (T : ProfileTable) (tag : Byte), s.powered = true → q = clampReadings r →
    T = s.chg.pendingTable.getD s.chg.table →
    (s.chg.switchClosed = false → s.chg.state = .qualify → 199 ≤ s.chg.qualifyCount → 4400 ≤ q.vIn → q.vIn ≤ 6000 →
      exec (.qualifyEnd r) s = exec (.sweep r) s ∧
      ∃ u : State, exec (.qualifyEnd r) s = u.settled ∧ u.chg.switchClosed = true ∧
        (s.smn.standby = .standby → s.smn.reason = some .power → s.smn.die ≠ .critical →
          u.smn.standby = .waking ∧ u.smn.reason = some .power ∧ u.smn.wakeDeadline = some (u.smn.partTime + 2000) ∧
          u.sb = { s.sb with quarters := [true, true, true, true] }) ∧
        (s.smn.standby = .standby → s.smn.reason ≠ some .power ∨ s.smn.die = .critical →
          u.smn.standby = .standby ∧ u.smn.reason = s.smn.reason ∧ u.smn.wakeDeadline = s.smn.wakeDeadline ∧
          u.sb = s.sb)) ∧
    (∀ p, s.chg.switchClosed = true → 4200 ≤ q.vIn → q.vIn ≤ 6000 → T.activeRow q.tBat = some p →
      s.chg.state = .taper → (p.voltage : Int) - 100 ≤ q.vBat → q.iBat < T.terminationCurrent →
      T.terminationCurrent ≤ s.chg.target → 9 ≤ s.chg.terminationCount →
      exec (.terminationCountReached r) s = exec (.sweep r) s ∧
      ∃ u : State, exec (.terminationCountReached r) s = u.settled ∧ u.chg.state = .full ∧ u.chg.target = 0) ∧
    (∀ p, s.chg.switchClosed = true → 4200 ≤ q.vIn → q.vIn ≤ 6000 → T.activeRow q.tBat = some p →
      25 ≤ p.current → 25 ≤ T.prechargeCurrent → s.smn.die = .normal → q.tDie < 850 → s.cp.card ≠ .writing →
      s.cp.card ≠ .settling → 75 + q.iSys ≤ s.chg.inputLimit →
      (s.chg.state = .precharge → q.vBat < 3000 → T.prechargeTimer * 6000 ≤ min 720000 (s.chg.prechargeCount + 1) →
        exec (.safetyTimerExpiry r) s = exec (.sweep r) s ∧ ∃ u : State, exec (.safetyTimerExpiry r) s = u.settled ∧
          u.chg.state = .fault ∧ u.chg.reason = some .prechargeTimer ∧ u.chg.target = 0) ∧
      (s.chg.state = .fast → q.vBat < (p.voltage : Int) - 10 → T.fastTimer * 6000 ≤ min 7200000 (s.chg.fastCount + 1) →
        exec (.safetyTimerExpiry r) s = exec (.sweep r) s ∧ ∃ u : State, exec (.safetyTimerExpiry r) s = u.settled ∧
          u.chg.state = .fault ∧ u.chg.reason = some .fastTimer ∧ u.chg.target = 0) ∧
      (s.chg.state = .taper → (p.voltage : Int) - 100 ≤ q.vBat → T.terminationCurrent ≤ q.iBat →
        T.fastTimer * 6000 ≤ min 7200000 (s.chg.fastCount + 1) →
        exec (.safetyTimerExpiry r) s = exec (.sweep r) s ∧ ∃ u : State, exec (.safetyTimerExpiry r) s = u.settled ∧
          u.chg.state = .fault ∧ u.chg.reason = some .fastTimer ∧ u.chg.target = 0)) ∧
    (s.chg.switchClosed = false → s.chg.state = .noInput → q.vIn < 4400 → s.smn.battery ≠ .critical →
      (T.vCut : Int) < q.vBat → q.vBat ≤ T.vCrit → 2 ≤ s.smn.criticalCount →
      exec (.criticalCountReached r) s = exec (.sweep r) s ∧ ∃ u : State, exec (.criticalCountReached r) s = u.settled ∧
        u.smn.battery = .critical ∧ u.smn.criticalCount = 0 ∧
        (∃ n, (⟨.batteryCritical, n, .number q.vBat.toNat, u.smn.partTime⟩ : Notice) ∈ u.lp.notices) ∧
        (∀ c, s.smn.standby = .active → s.clc.powerClose = none → s.clc.mode = .recording →
          s.clc.openClip = some c → u.clc.mode = .idle ∧ u.clc.powerClose = some .power ∧ u.sb.filling = none ∧
            ∃ k ∈ u.clc.clips, k.number = c.number ∧ k.state = .closing ∧ k.endReason = some .power ∧ k.dataDone = true)) ∧
    (s.obeys → (s.chg.state = .noInput ∨ s.chg.state = .qualify →
        exec (.chargeReset tag []) s = s.replied tag 0x0D (.done .plain)) ∧
      (∀ (now : Readings) (start : ChargerState × Option ChargeReason), s.chg.state ≠ .noInput →
        s.chg.state ≠ .qualify → s.smn.readings = some now →
        (now.tBat = none → start = (.fault, some .batteryAbsent)) →
        (∀ x, now.tBat = some x → s.chg.table.activeRow now.tBat = none → start = (.paused, some (s.chg.table.side x))) →
        (s.chg.table.activeRow now.tBat ≠ none → start = (if now.vBat < 3000 then .precharge else .fast, none)) →
        exec (.chargeReset tag []) s = State.replied { s with
          chg := { s.chg with
            state := start.1, reason := start.2, target := 0, prechargeCount := 0, fastCount := 0, terminationCount := 0 }
          lp := { s.lp with
            notices := if start = (s.chg.state, s.chg.reason) then s.lp.notices
              else postNotice .chargeState (.charger start.1 start.2) s.smn.partTime s.lp.notices } }
          tag 0x0D (.done .plain)))

/-- STANDBY: DONE in STANDBY; in ACTIVE BUSY unless the mode is IDLE, no clip is OPEN and no write is in flight, and then
standby entry with reason COMMAND: streams and motion reading stop, motion is LOST, lines are emptied, the card is OFF with
its writer STOPPED or still SUSPENDED, and quarters without a QUEUED slot lose power (R56, R89, R120, R163, R164; said with
no drain and no power close); capacity and maximum grade are kept, which for an ATTACHING card is the model's choice (log
entry 41). WAKE: DONE in ACTIVE; refused LOW POWER at a CRITICAL level; otherwise the wake timer of 2 ms
starts and every quarter has power (R90, R166). WAKE_TIMER_EXPIRY: part time is the deadline (log entry 1), the part is
ACTIVE, the card's supply is on and a present card is attached, and both streams run (R120, R166; said with no level
CRITICAL); that capacity and maximum grade stay where no card is present is the model's choice too (log entry 41). -/
def Obligations.StandbyParksAndWakeResumes : Prop :=
  ∀ (s : State) (tag : Byte),
    (s.obeys → s.smn.standby = .standby → exec (.standby tag []) s = s.replied tag 0x0F (.done .plain)) ∧
    (s.obeys → s.smn.standby = .active → (s.clc.mode ≠ .idle ∨ s.clc.openClip ≠ none ∨ s.cp.writing = true) →
      exec (.standby tag []) s = s.replied tag 0x0F .busy) ∧
    (s.obeys → s.smn.standby = .active → s.clc.mode = .idle → s.clc.openClip = none → s.cp.writing = false →
      s.clc.drain = none → s.clc.powerClose = none →
      ∃ u : State, exec (.standby tag []) s = u.replied tag 0x0F (.done .plain) ∧
        u.smn = { s.smn with standby := .standby, reason := some .command } ∧ u.wu = { s.wu with frame := none } ∧
        u.sp = ⟨s.sp.frameNumber, false, 0, none, false⟩ ∧ u.lp = { s.lp with lines := [] } ∧
        u.me = { MotionEngine.powerOn with
          reading := false, table := s.me.table, pendingTable := s.me.pendingTable } ∧
        u.cp = { s.cp with
          write := none, wait := none, gradeInUse := none, supplyOn := false
          card := if s.cp.card = .absent then .absent else .off
          writer := match s.cp.writer with
            | .suspended why => .suspended why
            | _ => .stopped } ∧
        u.sb.overrun = false ∧ u.sb.slots = s.sb.slots ∧ u.sb.queue = s.sb.queue ∧
        (∀ k, k < 4 → (u.sb.quarters[k]? = some true ↔ ∃ p ∈ s.sb.slots, p.1 / 256 = k)) ∧
        (∀ p ∈ s.sb.slots, ∀ i, p.1 < 1024 → i < 65536 →
          Memory.read u.sb.mem (65536 * p.1 + i) = Memory.read s.sb.mem (65536 * p.1 + i)) ∧
        u.xm = s.xm ∧ u.clc = s.clc ∧ u.chg = s.chg ∧ u.powered = true ∧ u.pending = s.pending) ∧
    (s.obeys → s.smn.standby = .active → exec (.wake tag []) s = s.replied tag 0x10 (.done .plain)) ∧
    (s.obeys → s.smn.standby = .standby → ∀ refused : Prop,
      (refused ↔ s.smn.battery = .critical ∧ s.chg.switchClosed = false ∨ s.smn.die = .critical) →
      (refused → exec (.wake tag []) s = s.replied tag 0x10 (.refused .lowPower)) ∧
      (¬refused → exec (.wake tag []) s = State.replied { s with
        smn := { s.smn with standby := .waking, wakeDeadline := some (s.smn.partTime + 2000) }
        sb := { s.sb with quarters := [true, true, true, true] } } tag 0x10 (.done .plain))) ∧
    (∀ d r, s.powered = true → s.smn.wakeDeadline = some d → r = s.reach d → s.smn.die ≠ .critical →
      (s.smn.battery = .critical → s.chg.switchClosed = true) → s.clc.powerClose = none →
      exec .wakeTimerExpiry s = State.settled { r with
        smn := { r.smn with standby := .active, reason := none, wakeDeadline := none }
        sp := { s.sp with running := true }
        me := { s.me with reading := true }
        cp := if s.cp.detect then { s.cp with
            supplyOn := true, card := .attaching, gradeInUse := some .g0, sent := some .reset
            wait := some ⟨.resetDone, r.smn.partTime + 1000⟩ }
          else { s.cp with supplyOn := true, card := .absent } })
end

