-- ==== Sys2Proof/Laws/State.lean ====
section
/-!
SUPPORT. One lemma per field per update of the state: what each shared update leaves as it was. Every one holds by
computation, so that no proof unfolds a record update.
-/
namespace Sys2Proof.Machine

variable (s : State)

/-! ### `State.setLink` changes `lp` only -/

@[simp] theorem State.setLink_powered (f : LinkPort → LinkPort) : (s.setLink f).powered = s.powered := rfl
@[simp] theorem State.setLink_me (f : LinkPort → LinkPort) : (s.setLink f).me = s.me := rfl
@[simp] theorem State.setLink_wu (f : LinkPort → LinkPort) : (s.setLink f).wu = s.wu := rfl
@[simp] theorem State.setLink_sp (f : LinkPort → LinkPort) : (s.setLink f).sp = s.sp := rfl
@[simp] theorem State.setLink_sb (f : LinkPort → LinkPort) : (s.setLink f).sb = s.sb := rfl
@[simp] theorem State.setLink_xm (f : LinkPort → LinkPort) : (s.setLink f).xm = s.xm := rfl
@[simp] theorem State.setLink_cp (f : LinkPort → LinkPort) : (s.setLink f).cp = s.cp := rfl
@[simp] theorem State.setLink_clc (f : LinkPort → LinkPort) : (s.setLink f).clc = s.clc := rfl
@[simp] theorem State.setLink_chg (f : LinkPort → LinkPort) : (s.setLink f).chg = s.chg := rfl
@[simp] theorem State.setLink_smn (f : LinkPort → LinkPort) : (s.setLink f).smn = s.smn := rfl
@[simp] theorem State.setLink_pending (f : LinkPort → LinkPort) : (s.setLink f).pending = s.pending := rfl

/-! ### `State.setBuffer` changes `sb` only -/

@[simp] theorem State.setBuffer_powered (f : SlotBuffer → SlotBuffer) : (s.setBuffer f).powered = s.powered := rfl
@[simp] theorem State.setBuffer_me (f : SlotBuffer → SlotBuffer) : (s.setBuffer f).me = s.me := rfl
@[simp] theorem State.setBuffer_wu (f : SlotBuffer → SlotBuffer) : (s.setBuffer f).wu = s.wu := rfl
@[simp] theorem State.setBuffer_sp (f : SlotBuffer → SlotBuffer) : (s.setBuffer f).sp = s.sp := rfl
@[simp] theorem State.setBuffer_lp (f : SlotBuffer → SlotBuffer) : (s.setBuffer f).lp = s.lp := rfl
@[simp] theorem State.setBuffer_xm (f : SlotBuffer → SlotBuffer) : (s.setBuffer f).xm = s.xm := rfl
@[simp] theorem State.setBuffer_cp (f : SlotBuffer → SlotBuffer) : (s.setBuffer f).cp = s.cp := rfl
@[simp] theorem State.setBuffer_clc (f : SlotBuffer → SlotBuffer) : (s.setBuffer f).clc = s.clc := rfl
@[simp] theorem State.setBuffer_chg (f : SlotBuffer → SlotBuffer) : (s.setBuffer f).chg = s.chg := rfl
@[simp] theorem State.setBuffer_smn (f : SlotBuffer → SlotBuffer) : (s.setBuffer f).smn = s.smn := rfl
@[simp] theorem State.setBuffer_pending (f : SlotBuffer → SlotBuffer) : (s.setBuffer f).pending = s.pending := rfl

/-! ### `State.setMap` changes `xm` only -/

@[simp] theorem State.setMap_powered (f : ExtentMap → ExtentMap) : (s.setMap f).powered = s.powered := rfl
@[simp] theorem State.setMap_me (f : ExtentMap → ExtentMap) : (s.setMap f).me = s.me := rfl
@[simp] theorem State.setMap_wu (f : ExtentMap → ExtentMap) : (s.setMap f).wu = s.wu := rfl
@[simp] theorem State.setMap_sp (f : ExtentMap → ExtentMap) : (s.setMap f).sp = s.sp := rfl
@[simp] theorem State.setMap_lp (f : ExtentMap → ExtentMap) : (s.setMap f).lp = s.lp := rfl
@[simp] theorem State.setMap_sb (f : ExtentMap → ExtentMap) : (s.setMap f).sb = s.sb := rfl
@[simp] theorem State.setMap_cp (f : ExtentMap → ExtentMap) : (s.setMap f).cp = s.cp := rfl
@[simp] theorem State.setMap_clc (f : ExtentMap → ExtentMap) : (s.setMap f).clc = s.clc := rfl
@[simp] theorem State.setMap_chg (f : ExtentMap → ExtentMap) : (s.setMap f).chg = s.chg := rfl
@[simp] theorem State.setMap_smn (f : ExtentMap → ExtentMap) : (s.setMap f).smn = s.smn := rfl
@[simp] theorem State.setMap_pending (f : ExtentMap → ExtentMap) : (s.setMap f).pending = s.pending := rfl

/-! ### `State.setRecorder` changes `clc` only -/

@[simp] theorem State.setRecorder_powered (f : ClipController → ClipController) : (s.setRecorder f).powered = s.powered := rfl
@[simp] theorem State.setRecorder_me (f : ClipController → ClipController) : (s.setRecorder f).me = s.me := rfl
@[simp] theorem State.setRecorder_wu (f : ClipController → ClipController) : (s.setRecorder f).wu = s.wu := rfl
@[simp] theorem State.setRecorder_sp (f : ClipController → ClipController) : (s.setRecorder f).sp = s.sp := rfl
@[simp] theorem State.setRecorder_lp (f : ClipController → ClipController) : (s.setRecorder f).lp = s.lp := rfl
@[simp] theorem State.setRecorder_sb (f : ClipController → ClipController) : (s.setRecorder f).sb = s.sb := rfl
@[simp] theorem State.setRecorder_xm (f : ClipController → ClipController) : (s.setRecorder f).xm = s.xm := rfl
@[simp] theorem State.setRecorder_cp (f : ClipController → ClipController) : (s.setRecorder f).cp = s.cp := rfl
@[simp] theorem State.setRecorder_chg (f : ClipController → ClipController) : (s.setRecorder f).chg = s.chg := rfl
@[simp] theorem State.setRecorder_smn (f : ClipController → ClipController) : (s.setRecorder f).smn = s.smn := rfl
@[simp] theorem State.setRecorder_pending (f : ClipController → ClipController) : (s.setRecorder f).pending = s.pending := rfl

/-! ### `State.setCard` changes `cp` only -/

@[simp] theorem State.setCard_powered (f : CardPort → CardPort) : (s.setCard f).powered = s.powered := rfl
@[simp] theorem State.setCard_me (f : CardPort → CardPort) : (s.setCard f).me = s.me := rfl
@[simp] theorem State.setCard_wu (f : CardPort → CardPort) : (s.setCard f).wu = s.wu := rfl
@[simp] theorem State.setCard_sp (f : CardPort → CardPort) : (s.setCard f).sp = s.sp := rfl
@[simp] theorem State.setCard_lp (f : CardPort → CardPort) : (s.setCard f).lp = s.lp := rfl
@[simp] theorem State.setCard_sb (f : CardPort → CardPort) : (s.setCard f).sb = s.sb := rfl
@[simp] theorem State.setCard_xm (f : CardPort → CardPort) : (s.setCard f).xm = s.xm := rfl
@[simp] theorem State.setCard_clc (f : CardPort → CardPort) : (s.setCard f).clc = s.clc := rfl
@[simp] theorem State.setCard_chg (f : CardPort → CardPort) : (s.setCard f).chg = s.chg := rfl
@[simp] theorem State.setCard_smn (f : CardPort → CardPort) : (s.setCard f).smn = s.smn := rfl
@[simp] theorem State.setCard_pending (f : CardPort → CardPort) : (s.setCard f).pending = s.pending := rfl

/-! ### `State.sendCard` changes `cp` only -/

@[simp] theorem State.sendCard_powered (i : CardSend) (w : CardWait) (n : Nat) : (s.sendCard i w n).powered = s.powered := rfl
@[simp] theorem State.sendCard_me (i : CardSend) (w : CardWait) (n : Nat) : (s.sendCard i w n).me = s.me := rfl
@[simp] theorem State.sendCard_wu (i : CardSend) (w : CardWait) (n : Nat) : (s.sendCard i w n).wu = s.wu := rfl
@[simp] theorem State.sendCard_sp (i : CardSend) (w : CardWait) (n : Nat) : (s.sendCard i w n).sp = s.sp := rfl
@[simp] theorem State.sendCard_lp (i : CardSend) (w : CardWait) (n : Nat) : (s.sendCard i w n).lp = s.lp := rfl
@[simp] theorem State.sendCard_sb (i : CardSend) (w : CardWait) (n : Nat) : (s.sendCard i w n).sb = s.sb := rfl
@[simp] theorem State.sendCard_xm (i : CardSend) (w : CardWait) (n : Nat) : (s.sendCard i w n).xm = s.xm := rfl
@[simp] theorem State.sendCard_clc (i : CardSend) (w : CardWait) (n : Nat) : (s.sendCard i w n).clc = s.clc := rfl
@[simp] theorem State.sendCard_chg (i : CardSend) (w : CardWait) (n : Nat) : (s.sendCard i w n).chg = s.chg := rfl
@[simp] theorem State.sendCard_smn (i : CardSend) (w : CardWait) (n : Nat) : (s.sendCard i w n).smn = s.smn := rfl
@[simp] theorem State.sendCard_pending (i : CardSend) (w : CardWait) (n : Nat) : (s.sendCard i w n).pending = s.pending := rfl

/-! ### `State.setWrite` changes `cp` only -/

@[simp] theorem State.setWrite_powered (f : SlotWrite → SlotWrite) : (s.setWrite f).powered = s.powered := rfl
@[simp] theorem State.setWrite_me (f : SlotWrite → SlotWrite) : (s.setWrite f).me = s.me := rfl
@[simp] theorem State.setWrite_wu (f : SlotWrite → SlotWrite) : (s.setWrite f).wu = s.wu := rfl
@[simp] theorem State.setWrite_sp (f : SlotWrite → SlotWrite) : (s.setWrite f).sp = s.sp := rfl
@[simp] theorem State.setWrite_lp (f : SlotWrite → SlotWrite) : (s.setWrite f).lp = s.lp := rfl
@[simp] theorem State.setWrite_sb (f : SlotWrite → SlotWrite) : (s.setWrite f).sb = s.sb := rfl
@[simp] theorem State.setWrite_xm (f : SlotWrite → SlotWrite) : (s.setWrite f).xm = s.xm := rfl
@[simp] theorem State.setWrite_clc (f : SlotWrite → SlotWrite) : (s.setWrite f).clc = s.clc := rfl
@[simp] theorem State.setWrite_chg (f : SlotWrite → SlotWrite) : (s.setWrite f).chg = s.chg := rfl
@[simp] theorem State.setWrite_smn (f : SlotWrite → SlotWrite) : (s.setWrite f).smn = s.smn := rfl
@[simp] theorem State.setWrite_pending (f : SlotWrite → SlotWrite) : (s.setWrite f).pending = s.pending := rfl

/-! ### `State.setMotion` changes `me` only -/

@[simp] theorem State.setMotion_powered (f : MotionEngine → MotionEngine) : (s.setMotion f).powered = s.powered := rfl
@[simp] theorem State.setMotion_wu (f : MotionEngine → MotionEngine) : (s.setMotion f).wu = s.wu := rfl
@[simp] theorem State.setMotion_sp (f : MotionEngine → MotionEngine) : (s.setMotion f).sp = s.sp := rfl
@[simp] theorem State.setMotion_lp (f : MotionEngine → MotionEngine) : (s.setMotion f).lp = s.lp := rfl
@[simp] theorem State.setMotion_sb (f : MotionEngine → MotionEngine) : (s.setMotion f).sb = s.sb := rfl
@[simp] theorem State.setMotion_xm (f : MotionEngine → MotionEngine) : (s.setMotion f).xm = s.xm := rfl
@[simp] theorem State.setMotion_cp (f : MotionEngine → MotionEngine) : (s.setMotion f).cp = s.cp := rfl
@[simp] theorem State.setMotion_clc (f : MotionEngine → MotionEngine) : (s.setMotion f).clc = s.clc := rfl
@[simp] theorem State.setMotion_chg (f : MotionEngine → MotionEngine) : (s.setMotion f).chg = s.chg := rfl
@[simp] theorem State.setMotion_smn (f : MotionEngine → MotionEngine) : (s.setMotion f).smn = s.smn := rfl
@[simp] theorem State.setMotion_pending (f : MotionEngine → MotionEngine) : (s.setMotion f).pending = s.pending := rfl

/-! ### `State.restartGap` changes `me` only -/

@[simp] theorem State.restartGap_powered : (s.restartGap).powered = s.powered := rfl
@[simp] theorem State.restartGap_wu : (s.restartGap).wu = s.wu := rfl
@[simp] theorem State.restartGap_sp : (s.restartGap).sp = s.sp := rfl
@[simp] theorem State.restartGap_lp : (s.restartGap).lp = s.lp := rfl
@[simp] theorem State.restartGap_sb : (s.restartGap).sb = s.sb := rfl
@[simp] theorem State.restartGap_xm : (s.restartGap).xm = s.xm := rfl
@[simp] theorem State.restartGap_cp : (s.restartGap).cp = s.cp := rfl
@[simp] theorem State.restartGap_clc : (s.restartGap).clc = s.clc := rfl
@[simp] theorem State.restartGap_chg : (s.restartGap).chg = s.chg := rfl
@[simp] theorem State.restartGap_smn : (s.restartGap).smn = s.smn := rfl
@[simp] theorem State.restartGap_pending : (s.restartGap).pending = s.pending := rfl

/-! ### `State.dropMotion` changes `me` only -/

@[simp] theorem State.dropMotion_powered : (s.dropMotion).powered = s.powered := rfl
@[simp] theorem State.dropMotion_wu : (s.dropMotion).wu = s.wu := rfl
@[simp] theorem State.dropMotion_sp : (s.dropMotion).sp = s.sp := rfl
@[simp] theorem State.dropMotion_lp : (s.dropMotion).lp = s.lp := rfl
@[simp] theorem State.dropMotion_sb : (s.dropMotion).sb = s.sb := rfl
@[simp] theorem State.dropMotion_xm : (s.dropMotion).xm = s.xm := rfl
@[simp] theorem State.dropMotion_cp : (s.dropMotion).cp = s.cp := rfl
@[simp] theorem State.dropMotion_clc : (s.dropMotion).clc = s.clc := rfl
@[simp] theorem State.dropMotion_chg : (s.dropMotion).chg = s.chg := rfl
@[simp] theorem State.dropMotion_smn : (s.dropMotion).smn = s.smn := rfl
@[simp] theorem State.dropMotion_pending : (s.dropMotion).pending = s.pending := rfl

/-! ### `State.holdAxes` changes `me` only -/

@[simp] theorem State.holdAxes_powered : (s.holdAxes).powered = s.powered := rfl
@[simp] theorem State.holdAxes_wu : (s.holdAxes).wu = s.wu := rfl
@[simp] theorem State.holdAxes_sp : (s.holdAxes).sp = s.sp := rfl
@[simp] theorem State.holdAxes_lp : (s.holdAxes).lp = s.lp := rfl
@[simp] theorem State.holdAxes_sb : (s.holdAxes).sb = s.sb := rfl
@[simp] theorem State.holdAxes_xm : (s.holdAxes).xm = s.xm := rfl
@[simp] theorem State.holdAxes_cp : (s.holdAxes).cp = s.cp := rfl
@[simp] theorem State.holdAxes_clc : (s.holdAxes).clc = s.clc := rfl
@[simp] theorem State.holdAxes_chg : (s.holdAxes).chg = s.chg := rfl
@[simp] theorem State.holdAxes_smn : (s.holdAxes).smn = s.smn := rfl
@[simp] theorem State.holdAxes_pending : (s.holdAxes).pending = s.pending := rfl

/-! ### `State.restAxes` changes `me` only -/

@[simp] theorem State.restAxes_powered : (s.restAxes).powered = s.powered := rfl
@[simp] theorem State.restAxes_wu : (s.restAxes).wu = s.wu := rfl
@[simp] theorem State.restAxes_sp : (s.restAxes).sp = s.sp := rfl
@[simp] theorem State.restAxes_lp : (s.restAxes).lp = s.lp := rfl
@[simp] theorem State.restAxes_sb : (s.restAxes).sb = s.sb := rfl
@[simp] theorem State.restAxes_xm : (s.restAxes).xm = s.xm := rfl
@[simp] theorem State.restAxes_cp : (s.restAxes).cp = s.cp := rfl
@[simp] theorem State.restAxes_clc : (s.restAxes).clc = s.clc := rfl
@[simp] theorem State.restAxes_chg : (s.restAxes).chg = s.chg := rfl
@[simp] theorem State.restAxes_smn : (s.restAxes).smn = s.smn := rfl
@[simp] theorem State.restAxes_pending : (s.restAxes).pending = s.pending := rfl

/-! ### `State.writePitchGuard` changes `me` only -/

@[simp] theorem State.writePitchGuard_powered (b : Bool) : (s.writePitchGuard b).powered = s.powered := rfl
@[simp] theorem State.writePitchGuard_wu (b : Bool) : (s.writePitchGuard b).wu = s.wu := rfl
@[simp] theorem State.writePitchGuard_sp (b : Bool) : (s.writePitchGuard b).sp = s.sp := rfl
@[simp] theorem State.writePitchGuard_lp (b : Bool) : (s.writePitchGuard b).lp = s.lp := rfl
@[simp] theorem State.writePitchGuard_sb (b : Bool) : (s.writePitchGuard b).sb = s.sb := rfl
@[simp] theorem State.writePitchGuard_xm (b : Bool) : (s.writePitchGuard b).xm = s.xm := rfl
@[simp] theorem State.writePitchGuard_cp (b : Bool) : (s.writePitchGuard b).cp = s.cp := rfl
@[simp] theorem State.writePitchGuard_clc (b : Bool) : (s.writePitchGuard b).clc = s.clc := rfl
@[simp] theorem State.writePitchGuard_chg (b : Bool) : (s.writePitchGuard b).chg = s.chg := rfl
@[simp] theorem State.writePitchGuard_smn (b : Bool) : (s.writePitchGuard b).smn = s.smn := rfl
@[simp] theorem State.writePitchGuard_pending (b : Bool) : (s.writePitchGuard b).pending = s.pending := rfl

/-! ### `State.writeYawGuard` changes `me` only -/

@[simp] theorem State.writeYawGuard_powered (b : Bool) : (s.writeYawGuard b).powered = s.powered := rfl
@[simp] theorem State.writeYawGuard_wu (b : Bool) : (s.writeYawGuard b).wu = s.wu := rfl
@[simp] theorem State.writeYawGuard_sp (b : Bool) : (s.writeYawGuard b).sp = s.sp := rfl
@[simp] theorem State.writeYawGuard_lp (b : Bool) : (s.writeYawGuard b).lp = s.lp := rfl
@[simp] theorem State.writeYawGuard_sb (b : Bool) : (s.writeYawGuard b).sb = s.sb := rfl
@[simp] theorem State.writeYawGuard_xm (b : Bool) : (s.writeYawGuard b).xm = s.xm := rfl
@[simp] theorem State.writeYawGuard_cp (b : Bool) : (s.writeYawGuard b).cp = s.cp := rfl
@[simp] theorem State.writeYawGuard_clc (b : Bool) : (s.writeYawGuard b).clc = s.clc := rfl
@[simp] theorem State.writeYawGuard_chg (b : Bool) : (s.writeYawGuard b).chg = s.chg := rfl
@[simp] theorem State.writeYawGuard_smn (b : Bool) : (s.writeYawGuard b).smn = s.smn := rfl
@[simp] theorem State.writeYawGuard_pending (b : Bool) : (s.writeYawGuard b).pending = s.pending := rfl

/-! ### `State.setWindowUnit` changes `wu` only -/

@[simp] theorem State.setWindowUnit_powered (f : WindowUnit → WindowUnit) : (s.setWindowUnit f).powered = s.powered := rfl
@[simp] theorem State.setWindowUnit_me (f : WindowUnit → WindowUnit) : (s.setWindowUnit f).me = s.me := rfl
@[simp] theorem State.setWindowUnit_sp (f : WindowUnit → WindowUnit) : (s.setWindowUnit f).sp = s.sp := rfl
@[simp] theorem State.setWindowUnit_lp (f : WindowUnit → WindowUnit) : (s.setWindowUnit f).lp = s.lp := rfl
@[simp] theorem State.setWindowUnit_sb (f : WindowUnit → WindowUnit) : (s.setWindowUnit f).sb = s.sb := rfl
@[simp] theorem State.setWindowUnit_xm (f : WindowUnit → WindowUnit) : (s.setWindowUnit f).xm = s.xm := rfl
@[simp] theorem State.setWindowUnit_cp (f : WindowUnit → WindowUnit) : (s.setWindowUnit f).cp = s.cp := rfl
@[simp] theorem State.setWindowUnit_clc (f : WindowUnit → WindowUnit) : (s.setWindowUnit f).clc = s.clc := rfl
@[simp] theorem State.setWindowUnit_chg (f : WindowUnit → WindowUnit) : (s.setWindowUnit f).chg = s.chg := rfl
@[simp] theorem State.setWindowUnit_smn (f : WindowUnit → WindowUnit) : (s.setWindowUnit f).smn = s.smn := rfl
@[simp] theorem State.setWindowUnit_pending (f : WindowUnit → WindowUnit) : (s.setWindowUnit f).pending = s.pending := rfl

/-! ### `State.setFrame` changes `wu` only -/

@[simp] theorem State.setFrame_powered (f : FrameRecord → FrameRecord) : (s.setFrame f).powered = s.powered := rfl
@[simp] theorem State.setFrame_me (f : FrameRecord → FrameRecord) : (s.setFrame f).me = s.me := rfl
@[simp] theorem State.setFrame_sp (f : FrameRecord → FrameRecord) : (s.setFrame f).sp = s.sp := rfl
@[simp] theorem State.setFrame_lp (f : FrameRecord → FrameRecord) : (s.setFrame f).lp = s.lp := rfl
@[simp] theorem State.setFrame_sb (f : FrameRecord → FrameRecord) : (s.setFrame f).sb = s.sb := rfl
@[simp] theorem State.setFrame_xm (f : FrameRecord → FrameRecord) : (s.setFrame f).xm = s.xm := rfl
@[simp] theorem State.setFrame_cp (f : FrameRecord → FrameRecord) : (s.setFrame f).cp = s.cp := rfl
@[simp] theorem State.setFrame_clc (f : FrameRecord → FrameRecord) : (s.setFrame f).clc = s.clc := rfl
@[simp] theorem State.setFrame_chg (f : FrameRecord → FrameRecord) : (s.setFrame f).chg = s.chg := rfl
@[simp] theorem State.setFrame_smn (f : FrameRecord → FrameRecord) : (s.setFrame f).smn = s.smn := rfl
@[simp] theorem State.setFrame_pending (f : FrameRecord → FrameRecord) : (s.setFrame f).pending = s.pending := rfl

/-! ### `State.setPort` changes `sp` only -/

@[simp] theorem State.setPort_powered (f : SensorPort → SensorPort) : (s.setPort f).powered = s.powered := rfl
@[simp] theorem State.setPort_me (f : SensorPort → SensorPort) : (s.setPort f).me = s.me := rfl
@[simp] theorem State.setPort_wu (f : SensorPort → SensorPort) : (s.setPort f).wu = s.wu := rfl
@[simp] theorem State.setPort_lp (f : SensorPort → SensorPort) : (s.setPort f).lp = s.lp := rfl
@[simp] theorem State.setPort_sb (f : SensorPort → SensorPort) : (s.setPort f).sb = s.sb := rfl
@[simp] theorem State.setPort_xm (f : SensorPort → SensorPort) : (s.setPort f).xm = s.xm := rfl
@[simp] theorem State.setPort_cp (f : SensorPort → SensorPort) : (s.setPort f).cp = s.cp := rfl
@[simp] theorem State.setPort_clc (f : SensorPort → SensorPort) : (s.setPort f).clc = s.clc := rfl
@[simp] theorem State.setPort_chg (f : SensorPort → SensorPort) : (s.setPort f).chg = s.chg := rfl
@[simp] theorem State.setPort_smn (f : SensorPort → SensorPort) : (s.setPort f).smn = s.smn := rfl
@[simp] theorem State.setPort_pending (f : SensorPort → SensorPort) : (s.setPort f).pending = s.pending := rfl

/-! ### `State.setCharge` changes `chg` only -/

@[simp] theorem State.setCharge_powered (f : ChargeController → ChargeController) : (s.setCharge f).powered = s.powered := rfl
@[simp] theorem State.setCharge_me (f : ChargeController → ChargeController) : (s.setCharge f).me = s.me := rfl
@[simp] theorem State.setCharge_wu (f : ChargeController → ChargeController) : (s.setCharge f).wu = s.wu := rfl
@[simp] theorem State.setCharge_sp (f : ChargeController → ChargeController) : (s.setCharge f).sp = s.sp := rfl
@[simp] theorem State.setCharge_lp (f : ChargeController → ChargeController) : (s.setCharge f).lp = s.lp := rfl
@[simp] theorem State.setCharge_sb (f : ChargeController → ChargeController) : (s.setCharge f).sb = s.sb := rfl
@[simp] theorem State.setCharge_xm (f : ChargeController → ChargeController) : (s.setCharge f).xm = s.xm := rfl
@[simp] theorem State.setCharge_cp (f : ChargeController → ChargeController) : (s.setCharge f).cp = s.cp := rfl
@[simp] theorem State.setCharge_clc (f : ChargeController → ChargeController) : (s.setCharge f).clc = s.clc := rfl
@[simp] theorem State.setCharge_smn (f : ChargeController → ChargeController) : (s.setCharge f).smn = s.smn := rfl
@[simp] theorem State.setCharge_pending (f : ChargeController → ChargeController) : (s.setCharge f).pending = s.pending := rfl

/-! ### `State.setSupply` changes `smn` only -/

@[simp] theorem State.setSupply_powered (f : SupplyMonitor → SupplyMonitor) : (s.setSupply f).powered = s.powered := rfl
@[simp] theorem State.setSupply_me (f : SupplyMonitor → SupplyMonitor) : (s.setSupply f).me = s.me := rfl
@[simp] theorem State.setSupply_wu (f : SupplyMonitor → SupplyMonitor) : (s.setSupply f).wu = s.wu := rfl
@[simp] theorem State.setSupply_sp (f : SupplyMonitor → SupplyMonitor) : (s.setSupply f).sp = s.sp := rfl
@[simp] theorem State.setSupply_lp (f : SupplyMonitor → SupplyMonitor) : (s.setSupply f).lp = s.lp := rfl
@[simp] theorem State.setSupply_sb (f : SupplyMonitor → SupplyMonitor) : (s.setSupply f).sb = s.sb := rfl
@[simp] theorem State.setSupply_xm (f : SupplyMonitor → SupplyMonitor) : (s.setSupply f).xm = s.xm := rfl
@[simp] theorem State.setSupply_cp (f : SupplyMonitor → SupplyMonitor) : (s.setSupply f).cp = s.cp := rfl
@[simp] theorem State.setSupply_clc (f : SupplyMonitor → SupplyMonitor) : (s.setSupply f).clc = s.clc := rfl
@[simp] theorem State.setSupply_chg (f : SupplyMonitor → SupplyMonitor) : (s.setSupply f).chg = s.chg := rfl
@[simp] theorem State.setSupply_pending (f : SupplyMonitor → SupplyMonitor) : (s.setSupply f).pending = s.pending := rfl

/-! ### `State.formAvail` changes `chg` only -/

@[simp] theorem State.formAvail_powered (r : Readings) : (s.formAvail r).powered = s.powered := rfl
@[simp] theorem State.formAvail_me (r : Readings) : (s.formAvail r).me = s.me := rfl
@[simp] theorem State.formAvail_wu (r : Readings) : (s.formAvail r).wu = s.wu := rfl
@[simp] theorem State.formAvail_sp (r : Readings) : (s.formAvail r).sp = s.sp := rfl
@[simp] theorem State.formAvail_lp (r : Readings) : (s.formAvail r).lp = s.lp := rfl
@[simp] theorem State.formAvail_sb (r : Readings) : (s.formAvail r).sb = s.sb := rfl
@[simp] theorem State.formAvail_xm (r : Readings) : (s.formAvail r).xm = s.xm := rfl
@[simp] theorem State.formAvail_cp (r : Readings) : (s.formAvail r).cp = s.cp := rfl
@[simp] theorem State.formAvail_clc (r : Readings) : (s.formAvail r).clc = s.clc := rfl
@[simp] theorem State.formAvail_smn (r : Readings) : (s.formAvail r).smn = s.smn := rfl
@[simp] theorem State.formAvail_pending (r : Readings) : (s.formAvail r).pending = s.pending := rfl

/-! ### `State.setTarget` changes `chg` only -/

@[simp] theorem State.setTarget_powered (r : Readings) : (s.setTarget r).powered = s.powered := rfl
@[simp] theorem State.setTarget_me (r : Readings) : (s.setTarget r).me = s.me := rfl
@[simp] theorem State.setTarget_wu (r : Readings) : (s.setTarget r).wu = s.wu := rfl
@[simp] theorem State.setTarget_sp (r : Readings) : (s.setTarget r).sp = s.sp := rfl
@[simp] theorem State.setTarget_lp (r : Readings) : (s.setTarget r).lp = s.lp := rfl
@[simp] theorem State.setTarget_sb (r : Readings) : (s.setTarget r).sb = s.sb := rfl
@[simp] theorem State.setTarget_xm (r : Readings) : (s.setTarget r).xm = s.xm := rfl
@[simp] theorem State.setTarget_cp (r : Readings) : (s.setTarget r).cp = s.cp := rfl
@[simp] theorem State.setTarget_clc (r : Readings) : (s.setTarget r).clc = s.clc := rfl
@[simp] theorem State.setTarget_smn (r : Readings) : (s.setTarget r).smn = s.smn := rfl
@[simp] theorem State.setTarget_pending (r : Readings) : (s.setTarget r).pending = s.pending := rfl

/-! ### `State.post` changes `lp` only -/

@[simp] theorem State.post_powered (k : NoticeKind) (v : NoticeValue) : (s.post k v).powered = s.powered := rfl
@[simp] theorem State.post_me (k : NoticeKind) (v : NoticeValue) : (s.post k v).me = s.me := rfl
@[simp] theorem State.post_wu (k : NoticeKind) (v : NoticeValue) : (s.post k v).wu = s.wu := rfl
@[simp] theorem State.post_sp (k : NoticeKind) (v : NoticeValue) : (s.post k v).sp = s.sp := rfl
@[simp] theorem State.post_sb (k : NoticeKind) (v : NoticeValue) : (s.post k v).sb = s.sb := rfl
@[simp] theorem State.post_xm (k : NoticeKind) (v : NoticeValue) : (s.post k v).xm = s.xm := rfl
@[simp] theorem State.post_cp (k : NoticeKind) (v : NoticeValue) : (s.post k v).cp = s.cp := rfl
@[simp] theorem State.post_clc (k : NoticeKind) (v : NoticeValue) : (s.post k v).clc = s.clc := rfl
@[simp] theorem State.post_chg (k : NoticeKind) (v : NoticeValue) : (s.post k v).chg = s.chg := rfl
@[simp] theorem State.post_smn (k : NoticeKind) (v : NoticeValue) : (s.post k v).smn = s.smn := rfl
@[simp] theorem State.post_pending (k : NoticeKind) (v : NoticeValue) : (s.post k v).pending = s.pending := rfl

/-! ### `State.countBy` changes `lp` only -/

@[simp] theorem State.countBy_powered (k : Counter) (n : Nat) : (s.countBy k n).powered = s.powered := rfl
@[simp] theorem State.countBy_me (k : Counter) (n : Nat) : (s.countBy k n).me = s.me := rfl
@[simp] theorem State.countBy_wu (k : Counter) (n : Nat) : (s.countBy k n).wu = s.wu := rfl
@[simp] theorem State.countBy_sp (k : Counter) (n : Nat) : (s.countBy k n).sp = s.sp := rfl
@[simp] theorem State.countBy_sb (k : Counter) (n : Nat) : (s.countBy k n).sb = s.sb := rfl
@[simp] theorem State.countBy_xm (k : Counter) (n : Nat) : (s.countBy k n).xm = s.xm := rfl
@[simp] theorem State.countBy_cp (k : Counter) (n : Nat) : (s.countBy k n).cp = s.cp := rfl
@[simp] theorem State.countBy_clc (k : Counter) (n : Nat) : (s.countBy k n).clc = s.clc := rfl
@[simp] theorem State.countBy_chg (k : Counter) (n : Nat) : (s.countBy k n).chg = s.chg := rfl
@[simp] theorem State.countBy_smn (k : Counter) (n : Nat) : (s.countBy k n).smn = s.smn := rfl
@[simp] theorem State.countBy_pending (k : Counter) (n : Nat) : (s.countBy k n).pending = s.pending := rfl

/-! ### `State.count` changes `lp` only -/

@[simp] theorem State.count_powered (k : Counter) : (s.count k).powered = s.powered := rfl
@[simp] theorem State.count_me (k : Counter) : (s.count k).me = s.me := rfl
@[simp] theorem State.count_wu (k : Counter) : (s.count k).wu = s.wu := rfl
@[simp] theorem State.count_sp (k : Counter) : (s.count k).sp = s.sp := rfl
@[simp] theorem State.count_sb (k : Counter) : (s.count k).sb = s.sb := rfl
@[simp] theorem State.count_xm (k : Counter) : (s.count k).xm = s.xm := rfl
@[simp] theorem State.count_cp (k : Counter) : (s.count k).cp = s.cp := rfl
@[simp] theorem State.count_clc (k : Counter) : (s.count k).clc = s.clc := rfl
@[simp] theorem State.count_chg (k : Counter) : (s.count k).chg = s.chg := rfl
@[simp] theorem State.count_smn (k : Counter) : (s.count k).smn = s.smn := rfl
@[simp] theorem State.count_pending (k : Counter) : (s.count k).pending = s.pending := rfl

/-! ### `State.reply` changes `lp` only -/

@[simp] theorem State.reply_powered (tag code : Byte) (r : CommandResult) : (s.reply tag code r).powered = s.powered := rfl
@[simp] theorem State.reply_me (tag code : Byte) (r : CommandResult) : (s.reply tag code r).me = s.me := rfl
@[simp] theorem State.reply_wu (tag code : Byte) (r : CommandResult) : (s.reply tag code r).wu = s.wu := rfl
@[simp] theorem State.reply_sp (tag code : Byte) (r : CommandResult) : (s.reply tag code r).sp = s.sp := rfl
@[simp] theorem State.reply_sb (tag code : Byte) (r : CommandResult) : (s.reply tag code r).sb = s.sb := rfl
@[simp] theorem State.reply_xm (tag code : Byte) (r : CommandResult) : (s.reply tag code r).xm = s.xm := rfl
@[simp] theorem State.reply_cp (tag code : Byte) (r : CommandResult) : (s.reply tag code r).cp = s.cp := rfl
@[simp] theorem State.reply_clc (tag code : Byte) (r : CommandResult) : (s.reply tag code r).clc = s.clc := rfl
@[simp] theorem State.reply_chg (tag code : Byte) (r : CommandResult) : (s.reply tag code r).chg = s.chg := rfl
@[simp] theorem State.reply_smn (tag code : Byte) (r : CommandResult) : (s.reply tag code r).smn = s.smn := rfl
@[simp] theorem State.reply_pending (tag code : Byte) (r : CommandResult) : (s.reply tag code r).pending = s.pending := rfl

/-! ### `State.pushCell` changes `lp` only -/

@[simp] theorem State.pushCell_powered (c : PictureCell) : (s.pushCell c).powered = s.powered := rfl
@[simp] theorem State.pushCell_me (c : PictureCell) : (s.pushCell c).me = s.me := rfl
@[simp] theorem State.pushCell_wu (c : PictureCell) : (s.pushCell c).wu = s.wu := rfl
@[simp] theorem State.pushCell_sp (c : PictureCell) : (s.pushCell c).sp = s.sp := rfl
@[simp] theorem State.pushCell_sb (c : PictureCell) : (s.pushCell c).sb = s.sb := rfl
@[simp] theorem State.pushCell_xm (c : PictureCell) : (s.pushCell c).xm = s.xm := rfl
@[simp] theorem State.pushCell_cp (c : PictureCell) : (s.pushCell c).cp = s.cp := rfl
@[simp] theorem State.pushCell_clc (c : PictureCell) : (s.pushCell c).clc = s.clc := rfl
@[simp] theorem State.pushCell_chg (c : PictureCell) : (s.pushCell c).chg = s.chg := rfl
@[simp] theorem State.pushCell_smn (c : PictureCell) : (s.pushCell c).smn = s.smn := rfl
@[simp] theorem State.pushCell_pending (c : PictureCell) : (s.pushCell c).pending = s.pending := rfl

/-! ### `State.freeLink` changes `lp` only -/

@[simp] theorem State.freeLink_powered : (s.freeLink).powered = s.powered := rfl
@[simp] theorem State.freeLink_me : (s.freeLink).me = s.me := rfl
@[simp] theorem State.freeLink_wu : (s.freeLink).wu = s.wu := rfl
@[simp] theorem State.freeLink_sp : (s.freeLink).sp = s.sp := rfl
@[simp] theorem State.freeLink_sb : (s.freeLink).sb = s.sb := rfl
@[simp] theorem State.freeLink_xm : (s.freeLink).xm = s.xm := rfl
@[simp] theorem State.freeLink_cp : (s.freeLink).cp = s.cp := rfl
@[simp] theorem State.freeLink_clc : (s.freeLink).clc = s.clc := rfl
@[simp] theorem State.freeLink_chg : (s.freeLink).chg = s.chg := rfl
@[simp] theorem State.freeLink_smn : (s.freeLink).smn = s.smn := rfl
@[simp] theorem State.freeLink_pending : (s.freeLink).pending = s.pending := rfl

/-! ### `State.arbitrate` changes `lp` only -/

@[simp] theorem State.arbitrate_powered : (s.arbitrate).powered = s.powered := rfl
@[simp] theorem State.arbitrate_me : (s.arbitrate).me = s.me := rfl
@[simp] theorem State.arbitrate_wu : (s.arbitrate).wu = s.wu := rfl
@[simp] theorem State.arbitrate_sp : (s.arbitrate).sp = s.sp := rfl
@[simp] theorem State.arbitrate_sb : (s.arbitrate).sb = s.sb := rfl
@[simp] theorem State.arbitrate_xm : (s.arbitrate).xm = s.xm := rfl
@[simp] theorem State.arbitrate_cp : (s.arbitrate).cp = s.cp := rfl
@[simp] theorem State.arbitrate_clc : (s.arbitrate).clc = s.clc := rfl
@[simp] theorem State.arbitrate_chg : (s.arbitrate).chg = s.chg := rfl
@[simp] theorem State.arbitrate_smn : (s.arbitrate).smn = s.smn := rfl
@[simp] theorem State.arbitrate_pending : (s.arbitrate).pending = s.pending := rfl

/-! ### `State.sequenceTest` changes `lp` only -/

@[simp] theorem State.sequenceTest_powered (q : BitVec 16) : (s.sequenceTest q).powered = s.powered := rfl
@[simp] theorem State.sequenceTest_me (q : BitVec 16) : (s.sequenceTest q).me = s.me := rfl
@[simp] theorem State.sequenceTest_wu (q : BitVec 16) : (s.sequenceTest q).wu = s.wu := rfl
@[simp] theorem State.sequenceTest_sp (q : BitVec 16) : (s.sequenceTest q).sp = s.sp := rfl
@[simp] theorem State.sequenceTest_sb (q : BitVec 16) : (s.sequenceTest q).sb = s.sb := rfl
@[simp] theorem State.sequenceTest_xm (q : BitVec 16) : (s.sequenceTest q).xm = s.xm := rfl
@[simp] theorem State.sequenceTest_cp (q : BitVec 16) : (s.sequenceTest q).cp = s.cp := rfl
@[simp] theorem State.sequenceTest_clc (q : BitVec 16) : (s.sequenceTest q).clc = s.clc := rfl
@[simp] theorem State.sequenceTest_chg (q : BitVec 16) : (s.sequenceTest q).chg = s.chg := rfl
@[simp] theorem State.sequenceTest_smn (q : BitVec 16) : (s.sequenceTest q).smn = s.smn := rfl
@[simp] theorem State.sequenceTest_pending (q : BitVec 16) : (s.sequenceTest q).pending = s.pending := rfl

/-! ### `State.advance` changes `smn` only -/

@[simp] theorem State.advance_powered (n : Nat) : (s.advance n).powered = s.powered := rfl
@[simp] theorem State.advance_me (n : Nat) : (s.advance n).me = s.me := rfl
@[simp] theorem State.advance_wu (n : Nat) : (s.advance n).wu = s.wu := rfl
@[simp] theorem State.advance_sp (n : Nat) : (s.advance n).sp = s.sp := rfl
@[simp] theorem State.advance_lp (n : Nat) : (s.advance n).lp = s.lp := rfl
@[simp] theorem State.advance_sb (n : Nat) : (s.advance n).sb = s.sb := rfl
@[simp] theorem State.advance_xm (n : Nat) : (s.advance n).xm = s.xm := rfl
@[simp] theorem State.advance_cp (n : Nat) : (s.advance n).cp = s.cp := rfl
@[simp] theorem State.advance_clc (n : Nat) : (s.advance n).clc = s.clc := rfl
@[simp] theorem State.advance_chg (n : Nat) : (s.advance n).chg = s.chg := rfl
@[simp] theorem State.advance_pending (n : Nat) : (s.advance n).pending = s.pending := rfl

/-! ### `State.reach` changes `smn` only -/

@[simp] theorem State.reach_powered (d : Time) : (s.reach d).powered = s.powered := rfl
@[simp] theorem State.reach_me (d : Time) : (s.reach d).me = s.me := rfl
@[simp] theorem State.reach_wu (d : Time) : (s.reach d).wu = s.wu := rfl
@[simp] theorem State.reach_sp (d : Time) : (s.reach d).sp = s.sp := rfl
@[simp] theorem State.reach_lp (d : Time) : (s.reach d).lp = s.lp := rfl
@[simp] theorem State.reach_sb (d : Time) : (s.reach d).sb = s.sb := rfl
@[simp] theorem State.reach_xm (d : Time) : (s.reach d).xm = s.xm := rfl
@[simp] theorem State.reach_cp (d : Time) : (s.reach d).cp = s.cp := rfl
@[simp] theorem State.reach_clc (d : Time) : (s.reach d).clc = s.clc := rfl
@[simp] theorem State.reach_chg (d : Time) : (s.reach d).chg = s.chg := rfl
@[simp] theorem State.reach_pending (d : Time) : (s.reach d).pending = s.pending := rfl

/-! ### `State.setSlot` changes `sb` only -/

@[simp] theorem State.setSlot_powered (n : Nat) (r : SlotRecord) : (s.setSlot n r).powered = s.powered := rfl
@[simp] theorem State.setSlot_me (n : Nat) (r : SlotRecord) : (s.setSlot n r).me = s.me := rfl
@[simp] theorem State.setSlot_wu (n : Nat) (r : SlotRecord) : (s.setSlot n r).wu = s.wu := rfl
@[simp] theorem State.setSlot_sp (n : Nat) (r : SlotRecord) : (s.setSlot n r).sp = s.sp := rfl
@[simp] theorem State.setSlot_lp (n : Nat) (r : SlotRecord) : (s.setSlot n r).lp = s.lp := rfl
@[simp] theorem State.setSlot_xm (n : Nat) (r : SlotRecord) : (s.setSlot n r).xm = s.xm := rfl
@[simp] theorem State.setSlot_cp (n : Nat) (r : SlotRecord) : (s.setSlot n r).cp = s.cp := rfl
@[simp] theorem State.setSlot_clc (n : Nat) (r : SlotRecord) : (s.setSlot n r).clc = s.clc := rfl
@[simp] theorem State.setSlot_chg (n : Nat) (r : SlotRecord) : (s.setSlot n r).chg = s.chg := rfl
@[simp] theorem State.setSlot_smn (n : Nat) (r : SlotRecord) : (s.setSlot n r).smn = s.smn := rfl
@[simp] theorem State.setSlot_pending (n : Nat) (r : SlotRecord) : (s.setSlot n r).pending = s.pending := rfl

/-! ### `State.freeSlots` changes `sb` only -/

@[simp] theorem State.freeSlots_powered (ns : List Nat) : (s.freeSlots ns).powered = s.powered := rfl
@[simp] theorem State.freeSlots_me (ns : List Nat) : (s.freeSlots ns).me = s.me := rfl
@[simp] theorem State.freeSlots_wu (ns : List Nat) : (s.freeSlots ns).wu = s.wu := rfl
@[simp] theorem State.freeSlots_sp (ns : List Nat) : (s.freeSlots ns).sp = s.sp := rfl
@[simp] theorem State.freeSlots_lp (ns : List Nat) : (s.freeSlots ns).lp = s.lp := rfl
@[simp] theorem State.freeSlots_xm (ns : List Nat) : (s.freeSlots ns).xm = s.xm := rfl
@[simp] theorem State.freeSlots_cp (ns : List Nat) : (s.freeSlots ns).cp = s.cp := rfl
@[simp] theorem State.freeSlots_clc (ns : List Nat) : (s.freeSlots ns).clc = s.clc := rfl
@[simp] theorem State.freeSlots_chg (ns : List Nat) : (s.freeSlots ns).chg = s.chg := rfl
@[simp] theorem State.freeSlots_smn (ns : List Nat) : (s.freeSlots ns).smn = s.smn := rfl
@[simp] theorem State.freeSlots_pending (ns : List Nat) : (s.freeSlots ns).pending = s.pending := rfl

/-! ### `State.enterRing` changes `sb` only -/

@[simp] theorem State.enterRing_powered (n : Nat) : (s.enterRing n).powered = s.powered := rfl
@[simp] theorem State.enterRing_me (n : Nat) : (s.enterRing n).me = s.me := rfl
@[simp] theorem State.enterRing_wu (n : Nat) : (s.enterRing n).wu = s.wu := rfl
@[simp] theorem State.enterRing_sp (n : Nat) : (s.enterRing n).sp = s.sp := rfl
@[simp] theorem State.enterRing_lp (n : Nat) : (s.enterRing n).lp = s.lp := rfl
@[simp] theorem State.enterRing_xm (n : Nat) : (s.enterRing n).xm = s.xm := rfl
@[simp] theorem State.enterRing_cp (n : Nat) : (s.enterRing n).cp = s.cp := rfl
@[simp] theorem State.enterRing_clc (n : Nat) : (s.enterRing n).clc = s.clc := rfl
@[simp] theorem State.enterRing_chg (n : Nat) : (s.enterRing n).chg = s.chg := rfl
@[simp] theorem State.enterRing_smn (n : Nat) : (s.enterRing n).smn = s.smn := rfl
@[simp] theorem State.enterRing_pending (n : Nat) : (s.enterRing n).pending = s.pending := rfl

/-! ### `State.giveBack` changes `sb` only -/

@[simp] theorem State.giveBack_powered (n : Nat) : (s.giveBack n).powered = s.powered := rfl
@[simp] theorem State.giveBack_me (n : Nat) : (s.giveBack n).me = s.me := rfl
@[simp] theorem State.giveBack_wu (n : Nat) : (s.giveBack n).wu = s.wu := rfl
@[simp] theorem State.giveBack_sp (n : Nat) : (s.giveBack n).sp = s.sp := rfl
@[simp] theorem State.giveBack_lp (n : Nat) : (s.giveBack n).lp = s.lp := rfl
@[simp] theorem State.giveBack_xm (n : Nat) : (s.giveBack n).xm = s.xm := rfl
@[simp] theorem State.giveBack_cp (n : Nat) : (s.giveBack n).cp = s.cp := rfl
@[simp] theorem State.giveBack_clc (n : Nat) : (s.giveBack n).clc = s.clc := rfl
@[simp] theorem State.giveBack_chg (n : Nat) : (s.giveBack n).chg = s.chg := rfl
@[simp] theorem State.giveBack_smn (n : Nat) : (s.giveBack n).smn = s.smn := rfl
@[simp] theorem State.giveBack_pending (n : Nat) : (s.giveBack n).pending = s.pending := rfl

/-! ### `State.powerQuarter` changes `sb` only -/

@[simp] theorem State.powerQuarter_powered (n : Nat) : (s.powerQuarter n).powered = s.powered := rfl
@[simp] theorem State.powerQuarter_me (n : Nat) : (s.powerQuarter n).me = s.me := rfl
@[simp] theorem State.powerQuarter_wu (n : Nat) : (s.powerQuarter n).wu = s.wu := rfl
@[simp] theorem State.powerQuarter_sp (n : Nat) : (s.powerQuarter n).sp = s.sp := rfl
@[simp] theorem State.powerQuarter_lp (n : Nat) : (s.powerQuarter n).lp = s.lp := rfl
@[simp] theorem State.powerQuarter_xm (n : Nat) : (s.powerQuarter n).xm = s.xm := rfl
@[simp] theorem State.powerQuarter_cp (n : Nat) : (s.powerQuarter n).cp = s.cp := rfl
@[simp] theorem State.powerQuarter_clc (n : Nat) : (s.powerQuarter n).clc = s.clc := rfl
@[simp] theorem State.powerQuarter_chg (n : Nat) : (s.powerQuarter n).chg = s.chg := rfl
@[simp] theorem State.powerQuarter_smn (n : Nat) : (s.powerQuarter n).smn = s.smn := rfl
@[simp] theorem State.powerQuarter_pending (n : Nat) : (s.powerQuarter n).pending = s.pending := rfl

/-! ### `State.fillSlot` changes `sb` only -/

@[simp] theorem State.fillSlot_powered (n : Nat) : (s.fillSlot n).powered = s.powered := rfl
@[simp] theorem State.fillSlot_me (n : Nat) : (s.fillSlot n).me = s.me := rfl
@[simp] theorem State.fillSlot_wu (n : Nat) : (s.fillSlot n).wu = s.wu := rfl
@[simp] theorem State.fillSlot_sp (n : Nat) : (s.fillSlot n).sp = s.sp := rfl
@[simp] theorem State.fillSlot_lp (n : Nat) : (s.fillSlot n).lp = s.lp := rfl
@[simp] theorem State.fillSlot_xm (n : Nat) : (s.fillSlot n).xm = s.xm := rfl
@[simp] theorem State.fillSlot_cp (n : Nat) : (s.fillSlot n).cp = s.cp := rfl
@[simp] theorem State.fillSlot_clc (n : Nat) : (s.fillSlot n).clc = s.clc := rfl
@[simp] theorem State.fillSlot_chg (n : Nat) : (s.fillSlot n).chg = s.chg := rfl
@[simp] theorem State.fillSlot_smn (n : Nat) : (s.fillSlot n).smn = s.smn := rfl
@[simp] theorem State.fillSlot_pending (n : Nat) : (s.fillSlot n).pending = s.pending := rfl

/-! ### `State.modifyClip` changes `clc` only -/

@[simp] theorem State.modifyClip_powered (n : Nat) (f : ClipRecord → ClipRecord) : (s.modifyClip n f).powered = s.powered := rfl
@[simp] theorem State.modifyClip_me (n : Nat) (f : ClipRecord → ClipRecord) : (s.modifyClip n f).me = s.me := rfl
@[simp] theorem State.modifyClip_wu (n : Nat) (f : ClipRecord → ClipRecord) : (s.modifyClip n f).wu = s.wu := rfl
@[simp] theorem State.modifyClip_sp (n : Nat) (f : ClipRecord → ClipRecord) : (s.modifyClip n f).sp = s.sp := rfl
@[simp] theorem State.modifyClip_lp (n : Nat) (f : ClipRecord → ClipRecord) : (s.modifyClip n f).lp = s.lp := rfl
@[simp] theorem State.modifyClip_sb (n : Nat) (f : ClipRecord → ClipRecord) : (s.modifyClip n f).sb = s.sb := rfl
@[simp] theorem State.modifyClip_xm (n : Nat) (f : ClipRecord → ClipRecord) : (s.modifyClip n f).xm = s.xm := rfl
@[simp] theorem State.modifyClip_cp (n : Nat) (f : ClipRecord → ClipRecord) : (s.modifyClip n f).cp = s.cp := rfl
@[simp] theorem State.modifyClip_chg (n : Nat) (f : ClipRecord → ClipRecord) : (s.modifyClip n f).chg = s.chg := rfl
@[simp] theorem State.modifyClip_smn (n : Nat) (f : ClipRecord → ClipRecord) : (s.modifyClip n f).smn = s.smn := rfl
@[simp] theorem State.modifyClip_pending (n : Nat) (f : ClipRecord → ClipRecord) : (s.modifyClip n f).pending = s.pending := rfl

/-! ### `State.endRecording` changes `me, clc` only -/

@[simp] theorem State.endRecording_powered (c : Nat) (r : EndReason) : (s.endRecording c r).powered = s.powered := rfl
@[simp] theorem State.endRecording_wu (c : Nat) (r : EndReason) : (s.endRecording c r).wu = s.wu := rfl
@[simp] theorem State.endRecording_sp (c : Nat) (r : EndReason) : (s.endRecording c r).sp = s.sp := rfl
@[simp] theorem State.endRecording_lp (c : Nat) (r : EndReason) : (s.endRecording c r).lp = s.lp := rfl
@[simp] theorem State.endRecording_sb (c : Nat) (r : EndReason) : (s.endRecording c r).sb = s.sb := rfl
@[simp] theorem State.endRecording_xm (c : Nat) (r : EndReason) : (s.endRecording c r).xm = s.xm := rfl
@[simp] theorem State.endRecording_cp (c : Nat) (r : EndReason) : (s.endRecording c r).cp = s.cp := rfl
@[simp] theorem State.endRecording_chg (c : Nat) (r : EndReason) : (s.endRecording c r).chg = s.chg := rfl
@[simp] theorem State.endRecording_smn (c : Nat) (r : EndReason) : (s.endRecording c r).smn = s.smn := rfl
@[simp] theorem State.endRecording_pending (c : Nat) (r : EndReason) : (s.endRecording c r).pending = s.pending := rfl

/-! ### `State.openRecord` changes `wu` only -/

@[simp] theorem State.openRecord_powered (w : WindowTable) (l : Lift) : (s.openRecord w l).powered = s.powered := rfl
@[simp] theorem State.openRecord_me (w : WindowTable) (l : Lift) : (s.openRecord w l).me = s.me := rfl
@[simp] theorem State.openRecord_sp (w : WindowTable) (l : Lift) : (s.openRecord w l).sp = s.sp := rfl
@[simp] theorem State.openRecord_lp (w : WindowTable) (l : Lift) : (s.openRecord w l).lp = s.lp := rfl
@[simp] theorem State.openRecord_sb (w : WindowTable) (l : Lift) : (s.openRecord w l).sb = s.sb := rfl
@[simp] theorem State.openRecord_xm (w : WindowTable) (l : Lift) : (s.openRecord w l).xm = s.xm := rfl
@[simp] theorem State.openRecord_cp (w : WindowTable) (l : Lift) : (s.openRecord w l).cp = s.cp := rfl
@[simp] theorem State.openRecord_clc (w : WindowTable) (l : Lift) : (s.openRecord w l).clc = s.clc := rfl
@[simp] theorem State.openRecord_chg (w : WindowTable) (l : Lift) : (s.openRecord w l).chg = s.chg := rfl
@[simp] theorem State.openRecord_smn (w : WindowTable) (l : Lift) : (s.openRecord w l).smn = s.smn := rfl
@[simp] theorem State.openRecord_pending (w : WindowTable) (l : Lift) : (s.openRecord w l).pending = s.pending := rfl

/-! ### `State.enterBand` changes `wu` only -/

@[simp] theorem State.enterBand_powered (b : Nat) (e : BandEntry) : (s.enterBand b e).powered = s.powered := rfl
@[simp] theorem State.enterBand_me (b : Nat) (e : BandEntry) : (s.enterBand b e).me = s.me := rfl
@[simp] theorem State.enterBand_sp (b : Nat) (e : BandEntry) : (s.enterBand b e).sp = s.sp := rfl
@[simp] theorem State.enterBand_lp (b : Nat) (e : BandEntry) : (s.enterBand b e).lp = s.lp := rfl
@[simp] theorem State.enterBand_sb (b : Nat) (e : BandEntry) : (s.enterBand b e).sb = s.sb := rfl
@[simp] theorem State.enterBand_xm (b : Nat) (e : BandEntry) : (s.enterBand b e).xm = s.xm := rfl
@[simp] theorem State.enterBand_cp (b : Nat) (e : BandEntry) : (s.enterBand b e).cp = s.cp := rfl
@[simp] theorem State.enterBand_clc (b : Nat) (e : BandEntry) : (s.enterBand b e).clc = s.clc := rfl
@[simp] theorem State.enterBand_chg (b : Nat) (e : BandEntry) : (s.enterBand b e).chg = s.chg := rfl
@[simp] theorem State.enterBand_smn (b : Nat) (e : BandEntry) : (s.enterBand b e).smn = s.smn := rfl
@[simp] theorem State.enterBand_pending (b : Nat) (e : BandEntry) : (s.enterBand b e).pending = s.pending := rfl

/-! ### `State.startWake` changes `smn, sb` only -/

@[simp] theorem State.startWake_powered : (s.startWake).powered = s.powered := rfl
@[simp] theorem State.startWake_me : (s.startWake).me = s.me := rfl
@[simp] theorem State.startWake_wu : (s.startWake).wu = s.wu := rfl
@[simp] theorem State.startWake_sp : (s.startWake).sp = s.sp := rfl
@[simp] theorem State.startWake_lp : (s.startWake).lp = s.lp := rfl
@[simp] theorem State.startWake_xm : (s.startWake).xm = s.xm := rfl
@[simp] theorem State.startWake_cp : (s.startWake).cp = s.cp := rfl
@[simp] theorem State.startWake_clc : (s.startWake).clc = s.clc := rfl
@[simp] theorem State.startWake_chg : (s.startWake).chg = s.chg := rfl
@[simp] theorem State.startWake_pending : (s.startWake).pending = s.pending := rfl

/-! ### `State.runStreams` changes `sp, me` only -/

@[simp] theorem State.runStreams_powered : (s.runStreams).powered = s.powered := rfl
@[simp] theorem State.runStreams_wu : (s.runStreams).wu = s.wu := rfl
@[simp] theorem State.runStreams_lp : (s.runStreams).lp = s.lp := rfl
@[simp] theorem State.runStreams_sb : (s.runStreams).sb = s.sb := rfl
@[simp] theorem State.runStreams_xm : (s.runStreams).xm = s.xm := rfl
@[simp] theorem State.runStreams_cp : (s.runStreams).cp = s.cp := rfl
@[simp] theorem State.runStreams_clc : (s.runStreams).clc = s.clc := rfl
@[simp] theorem State.runStreams_chg : (s.runStreams).chg = s.chg := rfl
@[simp] theorem State.runStreams_smn : (s.runStreams).smn = s.smn := rfl
@[simp] theorem State.runStreams_pending : (s.runStreams).pending = s.pending := rfl

/-! ### `State.filter` changes `me` only -/

@[simp] theorem State.filter_powered (x : Sample) : (s.filter x).powered = s.powered := rfl
@[simp] theorem State.filter_wu (x : Sample) : (s.filter x).wu = s.wu := rfl
@[simp] theorem State.filter_sp (x : Sample) : (s.filter x).sp = s.sp := rfl
@[simp] theorem State.filter_lp (x : Sample) : (s.filter x).lp = s.lp := rfl
@[simp] theorem State.filter_sb (x : Sample) : (s.filter x).sb = s.sb := rfl
@[simp] theorem State.filter_xm (x : Sample) : (s.filter x).xm = s.xm := rfl
@[simp] theorem State.filter_cp (x : Sample) : (s.filter x).cp = s.cp := rfl
@[simp] theorem State.filter_clc (x : Sample) : (s.filter x).clc = s.clc := rfl
@[simp] theorem State.filter_chg (x : Sample) : (s.filter x).chg = s.chg := rfl
@[simp] theorem State.filter_smn (x : Sample) : (s.filter x).smn = s.smn := rfl
@[simp] theorem State.filter_pending (x : Sample) : (s.filter x).pending = s.pending := rfl

/-! ### `State.setPlace` changes `xm` only -/

@[simp] theorem State.setPlace_powered (i : Nat) (r : Option ProtectRange) : (s.setPlace i r).powered = s.powered := rfl
@[simp] theorem State.setPlace_me (i : Nat) (r : Option ProtectRange) : (s.setPlace i r).me = s.me := rfl
@[simp] theorem State.setPlace_wu (i : Nat) (r : Option ProtectRange) : (s.setPlace i r).wu = s.wu := rfl
@[simp] theorem State.setPlace_sp (i : Nat) (r : Option ProtectRange) : (s.setPlace i r).sp = s.sp := rfl
@[simp] theorem State.setPlace_lp (i : Nat) (r : Option ProtectRange) : (s.setPlace i r).lp = s.lp := rfl
@[simp] theorem State.setPlace_sb (i : Nat) (r : Option ProtectRange) : (s.setPlace i r).sb = s.sb := rfl
@[simp] theorem State.setPlace_cp (i : Nat) (r : Option ProtectRange) : (s.setPlace i r).cp = s.cp := rfl
@[simp] theorem State.setPlace_clc (i : Nat) (r : Option ProtectRange) : (s.setPlace i r).clc = s.clc := rfl
@[simp] theorem State.setPlace_chg (i : Nat) (r : Option ProtectRange) : (s.setPlace i r).chg = s.chg := rfl
@[simp] theorem State.setPlace_smn (i : Nat) (r : Option ProtectRange) : (s.setPlace i r).smn = s.smn := rfl
@[simp] theorem State.setPlace_pending (i : Nat) (r : Option ProtectRange) : (s.setPlace i r).pending = s.pending := rfl

/-! ### `State.changePlace` changes `xm` only -/

@[simp] theorem State.changePlace_powered (i : Nat) (f : ProtectRange → ProtectRange) : (s.changePlace i f).powered = s.powered := rfl
@[simp] theorem State.changePlace_me (i : Nat) (f : ProtectRange → ProtectRange) : (s.changePlace i f).me = s.me := rfl
@[simp] theorem State.changePlace_wu (i : Nat) (f : ProtectRange → ProtectRange) : (s.changePlace i f).wu = s.wu := rfl
@[simp] theorem State.changePlace_sp (i : Nat) (f : ProtectRange → ProtectRange) : (s.changePlace i f).sp = s.sp := rfl
@[simp] theorem State.changePlace_lp (i : Nat) (f : ProtectRange → ProtectRange) : (s.changePlace i f).lp = s.lp := rfl
@[simp] theorem State.changePlace_sb (i : Nat) (f : ProtectRange → ProtectRange) : (s.changePlace i f).sb = s.sb := rfl
@[simp] theorem State.changePlace_cp (i : Nat) (f : ProtectRange → ProtectRange) : (s.changePlace i f).cp = s.cp := rfl
@[simp] theorem State.changePlace_clc (i : Nat) (f : ProtectRange → ProtectRange) : (s.changePlace i f).clc = s.clc := rfl
@[simp] theorem State.changePlace_chg (i : Nat) (f : ProtectRange → ProtectRange) : (s.changePlace i f).chg = s.chg := rfl
@[simp] theorem State.changePlace_smn (i : Nat) (f : ProtectRange → ProtectRange) : (s.changePlace i f).smn = s.smn := rfl
@[simp] theorem State.changePlace_pending (i : Nat) (f : ProtectRange → ProtectRange) : (s.changePlace i f).pending = s.pending := rfl

/-! ### What the updates write -/

@[simp] theorem State.setCard_cp (f : CardPort → CardPort) : (s.setCard f).cp = f s.cp := rfl
@[simp] theorem State.setMotion_me (f : MotionEngine → MotionEngine) : (s.setMotion f).me = f s.me := rfl
@[simp] theorem State.setWindowUnit_wu (f : WindowUnit → WindowUnit) : (s.setWindowUnit f).wu = f s.wu := rfl
@[simp] theorem State.setPort_sp (f : SensorPort → SensorPort) : (s.setPort f).sp = f s.sp := rfl
@[simp] theorem State.setCharge_chg (f : ChargeController → ChargeController) : (s.setCharge f).chg = f s.chg := rfl
@[simp] theorem State.setSupply_smn (f : SupplyMonitor → SupplyMonitor) : (s.setSupply f).smn = f s.smn := rfl
@[simp] theorem State.setLink_lp (f : LinkPort → LinkPort) : (s.setLink f).lp = f s.lp := rfl
@[simp] theorem State.setBuffer_sb (f : SlotBuffer → SlotBuffer) : (s.setBuffer f).sb = f s.sb := rfl
@[simp] theorem State.setMap_xm (f : ExtentMap → ExtentMap) : (s.setMap f).xm = f s.xm := rfl
@[simp] theorem State.setRecorder_clc (f : ClipController → ClipController) : (s.setRecorder f).clc = f s.clc := rfl
@[simp] theorem State.post_notices (k : NoticeKind) (v : NoticeValue) :
    (s.post k v).lp.notices = postNotice k v s.smn.partTime s.lp.notices := rfl
@[simp] theorem State.post_counters (k : NoticeKind) (v : NoticeValue) :
    (s.post k v).lp.counters = s.lp.counters := rfl
@[simp] theorem State.post_replies (k : NoticeKind) (v : NoticeValue) :
    (s.post k v).lp.replies = s.lp.replies := rfl
@[simp] theorem State.post_lines (k : NoticeKind) (v : NoticeValue) : (s.post k v).lp.lines = s.lp.lines := rfl
@[simp] theorem State.post_sending (k : NoticeKind) (v : NoticeValue) : (s.post k v).lp.sending = s.lp.sending := rfl
@[simp] theorem State.countBy_counters (k : Counter) (n : Nat) :
    (s.countBy k n).lp.counters = s.lp.counters.add n k := rfl
@[simp] theorem State.countBy_notices (k : Counter) (n : Nat) : (s.countBy k n).lp.notices = s.lp.notices := rfl
@[simp] theorem State.countBy_replies (k : Counter) (n : Nat) : (s.countBy k n).lp.replies = s.lp.replies := rfl
@[simp] theorem State.countBy_lines (k : Counter) (n : Nat) : (s.countBy k n).lp.lines = s.lp.lines := rfl
@[simp] theorem State.countBy_sending (k : Counter) (n : Nat) : (s.countBy k n).lp.sending = s.lp.sending := rfl
@[simp] theorem State.count_counters (k : Counter) : (s.count k).lp.counters = s.lp.counters.add 1 k := rfl
@[simp] theorem State.count_notices (k : Counter) : (s.count k).lp.notices = s.lp.notices := rfl
@[simp] theorem State.count_replies (k : Counter) : (s.count k).lp.replies = s.lp.replies := rfl
@[simp] theorem State.count_lines (k : Counter) : (s.count k).lp.lines = s.lp.lines := rfl
@[simp] theorem State.count_sending (k : Counter) : (s.count k).lp.sending = s.lp.sending := rfl
@[simp] theorem State.reply_replies (tag code : Byte) (r : CommandResult) :
    (s.reply tag code r).lp.replies = s.lp.replies ++ [⟨tag, code, r⟩] := rfl
@[simp] theorem State.reply_notices (tag code : Byte) (r : CommandResult) :
    (s.reply tag code r).lp.notices = s.lp.notices := rfl
@[simp] theorem State.reply_counters (tag code : Byte) (r : CommandResult) :
    (s.reply tag code r).lp.counters = s.lp.counters := rfl
@[simp] theorem State.reply_lines (tag code : Byte) (r : CommandResult) :
    (s.reply tag code r).lp.lines = s.lp.lines := rfl
@[simp] theorem State.reply_sending (tag code : Byte) (r : CommandResult) :
    (s.reply tag code r).lp.sending = s.lp.sending := rfl
@[simp] theorem State.arbitrate_lp : s.arbitrate.lp = s.lp.arbitrate := rfl
@[simp] theorem State.setSlot_mem (n : Nat) (r : SlotRecord) : (s.setSlot n r).sb.mem = s.sb.mem := rfl
@[simp] theorem State.freeSlots_mem (ns : List Nat) : (s.freeSlots ns).sb.mem = s.sb.mem := rfl
@[simp] theorem State.powerQuarter_mem (n : Nat) : (s.powerQuarter n).sb.mem = s.sb.mem := rfl
@[simp] theorem State.fillSlot_mem (n : Nat) : (s.fillSlot n).sb.mem = s.sb.mem := rfl

end Sys2Proof.Machine
end

