-- ==== Sys2Proof/Laws/Frames.lean ====
section
/-!
SUPPORT. Which blocks the shared operations of the recorder leave as they were: one lemma per operation.
-/
namespace Sys2Proof.Machine

variable (s : State)

/-- `State.writeSlot` changes no block but `sb`. -/
@[simp] theorem State.writeSlot_frame (n o : Nat) (bs : List Byte) :
    (s.writeSlot n o bs).powered = s.powered ∧ (s.writeSlot n o bs).me = s.me ∧
    (s.writeSlot n o bs).wu = s.wu ∧ (s.writeSlot n o bs).sp = s.sp ∧ (s.writeSlot n o bs).lp = s.lp ∧
    (s.writeSlot n o bs).xm = s.xm ∧ (s.writeSlot n o bs).cp = s.cp ∧ (s.writeSlot n o bs).clc = s.clc ∧
    (s.writeSlot n o bs).chg = s.chg ∧ (s.writeSlot n o bs).smn = s.smn ∧
    (s.writeSlot n o bs).pending = s.pending := by
  simp only [State.writeSlot]; (repeat' split) <;> (try simp)

/-- `State.addClip` changes no block but `clc`. -/
@[simp] theorem State.addClip_frame (b : Bool) :
    (s.addClip b).powered = s.powered ∧ (s.addClip b).me = s.me ∧ (s.addClip b).wu = s.wu ∧
    (s.addClip b).sp = s.sp ∧ (s.addClip b).lp = s.lp ∧ (s.addClip b).sb = s.sb ∧ (s.addClip b).xm = s.xm ∧
    (s.addClip b).cp = s.cp ∧ (s.addClip b).chg = s.chg ∧ (s.addClip b).smn = s.smn ∧
    (s.addClip b).pending = s.pending := by
  simp only [State.addClip]; (repeat' split) <;> (try simp)

/-- `State.splitClip` changes no block but `clc`. -/
@[simp] theorem State.splitClip_frame (n : Nat) :
    (s.splitClip n).powered = s.powered ∧ (s.splitClip n).me = s.me ∧ (s.splitClip n).wu = s.wu ∧
    (s.splitClip n).sp = s.sp ∧ (s.splitClip n).lp = s.lp ∧ (s.splitClip n).sb = s.sb ∧
    (s.splitClip n).xm = s.xm ∧ (s.splitClip n).cp = s.cp ∧ (s.splitClip n).chg = s.chg ∧
    (s.splitClip n).smn = s.smn ∧ (s.splitClip n).pending = s.pending := by
  simp [State.splitClip]

/-- `State.formTrailer` changes no block but `sb`, `clc`. -/
@[simp] theorem State.formTrailer_frame (c : ClipRecord) (n : Nat) :
    (s.formTrailer c n).powered = s.powered ∧ (s.formTrailer c n).me = s.me ∧ (s.formTrailer c n).wu = s.wu ∧
    (s.formTrailer c n).sp = s.sp ∧ (s.formTrailer c n).lp = s.lp ∧ (s.formTrailer c n).xm = s.xm ∧
    (s.formTrailer c n).cp = s.cp ∧ (s.formTrailer c n).chg = s.chg ∧ (s.formTrailer c n).smn = s.smn ∧
    (s.formTrailer c n).pending = s.pending := by
  simp [State.formTrailer]

/-- `State.trailerTest` changes no block but `sb`, `clc`. -/
@[simp] theorem State.trailerTest_frame :
    s.trailerTest.powered = s.powered ∧ s.trailerTest.me = s.me ∧ s.trailerTest.wu = s.wu ∧
    s.trailerTest.sp = s.sp ∧ s.trailerTest.lp = s.lp ∧ s.trailerTest.xm = s.xm ∧ s.trailerTest.cp = s.cp ∧
    s.trailerTest.chg = s.chg ∧ s.trailerTest.smn = s.smn ∧ s.trailerTest.pending = s.pending := by
  simp only [State.trailerTest]; (repeat' split) <;> (try simp)

/-- `State.release` changes no block but `sb`, `clc`. -/
@[simp] theorem State.release_frame (ns : List Nat) :
    (s.release ns).powered = s.powered ∧ (s.release ns).me = s.me ∧ (s.release ns).wu = s.wu ∧
    (s.release ns).sp = s.sp ∧ (s.release ns).lp = s.lp ∧ (s.release ns).xm = s.xm ∧ (s.release ns).cp = s.cp ∧
    (s.release ns).chg = s.chg ∧ (s.release ns).smn = s.smn ∧ (s.release ns).pending = s.pending := by
  simp [State.release]

/-- `State.padSlot` changes no block but `sb`. -/
@[simp] theorem State.padSlot_frame (n : Nat) :
    (s.padSlot n).powered = s.powered ∧ (s.padSlot n).me = s.me ∧ (s.padSlot n).wu = s.wu ∧
    (s.padSlot n).sp = s.sp ∧ (s.padSlot n).lp = s.lp ∧ (s.padSlot n).xm = s.xm ∧ (s.padSlot n).cp = s.cp ∧
    (s.padSlot n).clc = s.clc ∧ (s.padSlot n).chg = s.chg ∧ (s.padSlot n).smn = s.smn ∧
    (s.padSlot n).pending = s.pending := by
  simp [State.padSlot]

/-- `State.stampSlot` changes no block but `sb`, `clc`. -/
@[simp] theorem State.stampSlot_frame (n c : Nat) (b : Bool) :
    (s.stampSlot n c b).powered = s.powered ∧ (s.stampSlot n c b).me = s.me ∧ (s.stampSlot n c b).wu = s.wu ∧
    (s.stampSlot n c b).sp = s.sp ∧ (s.stampSlot n c b).lp = s.lp ∧ (s.stampSlot n c b).xm = s.xm ∧
    (s.stampSlot n c b).cp = s.cp ∧ (s.stampSlot n c b).chg = s.chg ∧ (s.stampSlot n c b).smn = s.smn ∧
    (s.stampSlot n c b).pending = s.pending := by
  simp [State.stampSlot]

/-- `State.sizeTest` changes no block but `clc`. -/
@[simp] theorem State.sizeTest_frame (c : Nat) :
    (s.sizeTest c).powered = s.powered ∧ (s.sizeTest c).me = s.me ∧ (s.sizeTest c).wu = s.wu ∧
    (s.sizeTest c).sp = s.sp ∧ (s.sizeTest c).lp = s.lp ∧ (s.sizeTest c).sb = s.sb ∧ (s.sizeTest c).xm = s.xm ∧
    (s.sizeTest c).cp = s.cp ∧ (s.sizeTest c).chg = s.chg ∧ (s.sizeTest c).smn = s.smn ∧
    (s.sizeTest c).pending = s.pending := by
  simp only [State.sizeTest]; (repeat' split) <;> (try simp)

/-- `State.dropMember` changes no block but `sb`, `clc`. -/
@[simp] theorem State.dropMember_frame :
    s.dropMember.powered = s.powered ∧ s.dropMember.me = s.me ∧ s.dropMember.wu = s.wu ∧
    s.dropMember.sp = s.sp ∧ s.dropMember.lp = s.lp ∧ s.dropMember.xm = s.xm ∧ s.dropMember.cp = s.cp ∧
    s.dropMember.chg = s.chg ∧ s.dropMember.smn = s.smn ∧ s.dropMember.pending = s.pending := by
  simp only [State.dropMember]; (repeat' split) <;> (try simp)

/-- `State.joinRing` changes no block but `sb`, `clc`. -/
@[simp] theorem State.joinRing_frame (n : Nat) :
    (s.joinRing n).powered = s.powered ∧ (s.joinRing n).me = s.me ∧ (s.joinRing n).wu = s.wu ∧
    (s.joinRing n).sp = s.sp ∧ (s.joinRing n).lp = s.lp ∧ (s.joinRing n).xm = s.xm ∧ (s.joinRing n).cp = s.cp ∧
    (s.joinRing n).chg = s.chg ∧ (s.joinRing n).smn = s.smn ∧ (s.joinRing n).pending = s.pending := by
  simp only [State.joinRing]; (repeat' split) <;> (try simp)

/-- `State.closeSlot` changes no block but `sb`, `clc`. -/
@[simp] theorem State.closeSlot_frame (c : Option Nat) (b : Bool) :
    (s.closeSlot c b).powered = s.powered ∧ (s.closeSlot c b).me = s.me ∧ (s.closeSlot c b).wu = s.wu ∧
    (s.closeSlot c b).sp = s.sp ∧ (s.closeSlot c b).lp = s.lp ∧ (s.closeSlot c b).xm = s.xm ∧
    (s.closeSlot c b).cp = s.cp ∧ (s.closeSlot c b).chg = s.chg ∧ (s.closeSlot c b).smn = s.smn ∧
    (s.closeSlot c b).pending = s.pending := by
  simp only [State.closeSlot]; (repeat' split) <;> (try simp)

/-- `State.closeFull` changes no block but `sb`, `clc`. -/
@[simp] theorem State.closeFull_frame :
    s.closeFull.powered = s.powered ∧ s.closeFull.me = s.me ∧ s.closeFull.wu = s.wu ∧ s.closeFull.sp = s.sp ∧
    s.closeFull.lp = s.lp ∧ s.closeFull.xm = s.xm ∧ s.closeFull.cp = s.cp ∧ s.closeFull.chg = s.chg ∧
    s.closeFull.smn = s.smn ∧ s.closeFull.pending = s.pending := by
  simp only [State.closeFull]; (repeat' split) <;> (try simp)

/-- `State.makeRoom` changes no block but `sb`, `clc`. -/
@[simp] theorem State.makeRoom_frame (k : Nat) :
    (State.makeRoom k s).powered = s.powered ∧ (State.makeRoom k s).me = s.me ∧
    (State.makeRoom k s).wu = s.wu ∧ (State.makeRoom k s).sp = s.sp ∧ (State.makeRoom k s).lp = s.lp ∧
    (State.makeRoom k s).xm = s.xm ∧ (State.makeRoom k s).cp = s.cp ∧ (State.makeRoom k s).chg = s.chg ∧
    (State.makeRoom k s).smn = s.smn ∧ (State.makeRoom k s).pending = s.pending := by
  induction k generalizing s with
  | zero => simp [State.makeRoom]
  | succ k ih => simp only [State.makeRoom]; (repeat' split) <;> (try simp [ih])

/-- `State.fillLowest` changes no block but `sb`, `clc`. -/
@[simp] theorem State.fillLowest_frame :
    s.fillLowest.powered = s.powered ∧ s.fillLowest.me = s.me ∧ s.fillLowest.wu = s.wu ∧
    s.fillLowest.sp = s.sp ∧ s.fillLowest.lp = s.lp ∧ s.fillLowest.xm = s.xm ∧ s.fillLowest.cp = s.cp ∧
    s.fillLowest.chg = s.chg ∧ s.fillLowest.smn = s.smn ∧ s.fillLowest.pending = s.pending := by
  simp only [State.fillLowest]; (repeat' split) <;> (try simp)

/-- `State.openFilling` changes no block but `sb`, `clc`. -/
@[simp] theorem State.openFilling_frame :
    s.openFilling.powered = s.powered ∧ s.openFilling.me = s.me ∧ s.openFilling.wu = s.wu ∧
    s.openFilling.sp = s.sp ∧ s.openFilling.lp = s.lp ∧ s.openFilling.xm = s.xm ∧ s.openFilling.cp = s.cp ∧
    s.openFilling.chg = s.chg ∧ s.openFilling.smn = s.smn ∧ s.openFilling.pending = s.pending := by
  simp [State.openFilling]

/-- `State.placeRecord` changes no block but `sb`. -/
@[simp] theorem State.placeRecord_frame (n : Nat) (k : RecordKind) (g : Byte) (y : Bool) (p : List Byte) :
    (s.placeRecord n k g y p).powered = s.powered ∧ (s.placeRecord n k g y p).me = s.me ∧
    (s.placeRecord n k g y p).wu = s.wu ∧ (s.placeRecord n k g y p).sp = s.sp ∧
    (s.placeRecord n k g y p).lp = s.lp ∧ (s.placeRecord n k g y p).xm = s.xm ∧
    (s.placeRecord n k g y p).cp = s.cp ∧ (s.placeRecord n k g y p).clc = s.clc ∧
    (s.placeRecord n k g y p).chg = s.chg ∧ (s.placeRecord n k g y p).smn = s.smn ∧
    (s.placeRecord n k g y p).pending = s.pending := by
  simp [State.placeRecord]

/-- `State.overrunStart` changes no block but `sb`, `lp`. -/
@[simp] theorem State.overrunStart_frame :
    s.overrunStart.powered = s.powered ∧ s.overrunStart.me = s.me ∧ s.overrunStart.wu = s.wu ∧
    s.overrunStart.sp = s.sp ∧ s.overrunStart.xm = s.xm ∧ s.overrunStart.cp = s.cp ∧
    s.overrunStart.clc = s.clc ∧ s.overrunStart.chg = s.chg ∧ s.overrunStart.smn = s.smn ∧
    s.overrunStart.pending = s.pending := by
  simp only [State.overrunStart]; (repeat' split) <;> (try simp)

/-- `State.splitTest` changes no block but `sb`, `clc`. -/
@[simp] theorem State.splitTest_frame (b : Bool) :
    (s.splitTest b).powered = s.powered ∧ (s.splitTest b).me = s.me ∧ (s.splitTest b).wu = s.wu ∧
    (s.splitTest b).sp = s.sp ∧ (s.splitTest b).lp = s.lp ∧ (s.splitTest b).xm = s.xm ∧
    (s.splitTest b).cp = s.cp ∧ (s.splitTest b).chg = s.chg ∧ (s.splitTest b).smn = s.smn ∧
    (s.splitTest b).pending = s.pending := by
  simp only [State.splitTest]; (repeat' split) <;> (try simp)

/-- `State.closeIfFull` changes no block but `sb`, `clc`. -/
@[simp] theorem State.closeIfFull_frame (n : Nat) :
    (s.closeIfFull n).powered = s.powered ∧ (s.closeIfFull n).me = s.me ∧ (s.closeIfFull n).wu = s.wu ∧
    (s.closeIfFull n).sp = s.sp ∧ (s.closeIfFull n).lp = s.lp ∧ (s.closeIfFull n).xm = s.xm ∧
    (s.closeIfFull n).cp = s.cp ∧ (s.closeIfFull n).chg = s.chg ∧ (s.closeIfFull n).smn = s.smn ∧
    (s.closeIfFull n).pending = s.pending := by
  simp only [State.closeIfFull]; (repeat' split) <;> (try simp)

/-- `State.appendOpen` changes no block but `sb`, `clc`, `lp`. -/
@[simp] theorem State.appendOpen_frame (k : RecordKind) (g : Byte) (y : Bool) (p : List Byte) :
    (s.appendOpen k g y p).1.powered = s.powered ∧ (s.appendOpen k g y p).1.me = s.me ∧
    (s.appendOpen k g y p).1.wu = s.wu ∧ (s.appendOpen k g y p).1.sp = s.sp ∧
    (s.appendOpen k g y p).1.xm = s.xm ∧ (s.appendOpen k g y p).1.cp = s.cp ∧
    (s.appendOpen k g y p).1.chg = s.chg ∧ (s.appendOpen k g y p).1.smn = s.smn ∧
    (s.appendOpen k g y p).1.pending = s.pending := by
  simp only [State.appendOpen]; (repeat' split) <;> (try simp)

/-- `State.appendRecord` changes no block but `sb`, `clc`, `lp`. -/
@[simp] theorem State.appendRecord_frame (k : RecordKind) (g : Byte) (y : Bool) (p : List Byte) :
    (s.appendRecord k g y p).1.powered = s.powered ∧ (s.appendRecord k g y p).1.me = s.me ∧
    (s.appendRecord k g y p).1.wu = s.wu ∧ (s.appendRecord k g y p).1.sp = s.sp ∧
    (s.appendRecord k g y p).1.xm = s.xm ∧ (s.appendRecord k g y p).1.cp = s.cp ∧
    (s.appendRecord k g y p).1.chg = s.chg ∧ (s.appendRecord k g y p).1.smn = s.smn ∧
    (s.appendRecord k g y p).1.pending = s.pending := by
  simp only [State.appendRecord]; (repeat' split) <;> (try simp)

/-- `State.addGap` changes no block but `clc`. -/
@[simp] theorem State.addGap_frame (n : Nat) :
    (s.addGap n).powered = s.powered ∧ (s.addGap n).me = s.me ∧ (s.addGap n).wu = s.wu ∧
    (s.addGap n).sp = s.sp ∧ (s.addGap n).lp = s.lp ∧ (s.addGap n).sb = s.sb ∧ (s.addGap n).xm = s.xm ∧
    (s.addGap n).cp = s.cp ∧ (s.addGap n).chg = s.chg ∧ (s.addGap n).smn = s.smn ∧
    (s.addGap n).pending = s.pending := by
  simp only [State.addGap]; (repeat' split) <;> (try simp)

/-- `State.discardRecord` changes no block but `lp`, `clc`. -/
@[simp] theorem State.discardRecord_frame :
    s.discardRecord.powered = s.powered ∧ s.discardRecord.me = s.me ∧ s.discardRecord.wu = s.wu ∧
    s.discardRecord.sp = s.sp ∧ s.discardRecord.sb = s.sb ∧ s.discardRecord.xm = s.xm ∧
    s.discardRecord.cp = s.cp ∧ s.discardRecord.chg = s.chg ∧ s.discardRecord.smn = s.smn ∧
    s.discardRecord.pending = s.pending := by
  simp [State.discardRecord]

/-- `State.handRecord` changes no block but `sb`, `clc`, `lp`. -/
@[simp] theorem State.handRecord_frame (k : RecordKind) (p : List Byte) :
    (s.handRecord k p).powered = s.powered ∧ (s.handRecord k p).me = s.me ∧ (s.handRecord k p).wu = s.wu ∧
    (s.handRecord k p).sp = s.sp ∧ (s.handRecord k p).xm = s.xm ∧ (s.handRecord k p).cp = s.cp ∧
    (s.handRecord k p).chg = s.chg ∧ (s.handRecord k p).smn = s.smn ∧
    (s.handRecord k p).pending = s.pending := by
  simp only [State.handRecord]; (repeat' split) <;> (try simp)

/-- `State.handVideo` changes no block but `sb`, `clc`, `lp`. -/
@[simp] theorem State.handVideo_frame (y f l g : Bool) (p : List Byte) :
    (s.handVideo y f l g p).1.powered = s.powered ∧ (s.handVideo y f l g p).1.me = s.me ∧
    (s.handVideo y f l g p).1.wu = s.wu ∧ (s.handVideo y f l g p).1.sp = s.sp ∧
    (s.handVideo y f l g p).1.xm = s.xm ∧ (s.handVideo y f l g p).1.cp = s.cp ∧
    (s.handVideo y f l g p).1.chg = s.chg ∧ (s.handVideo y f l g p).1.smn = s.smn ∧
    (s.handVideo y f l g p).1.pending = s.pending := by
  simp only [State.handVideo]; (repeat' split) <;> (try simp)

/-- `State.pumpRecords` changes no block but `me`, `sb`, `clc`, `lp`. -/
@[simp] theorem State.pumpRecords_frame (k : Nat) :
    (State.pumpRecords k s).powered = s.powered ∧ (State.pumpRecords k s).wu = s.wu ∧
    (State.pumpRecords k s).sp = s.sp ∧ (State.pumpRecords k s).xm = s.xm ∧ (State.pumpRecords k s).cp = s.cp ∧
    (State.pumpRecords k s).chg = s.chg ∧ (State.pumpRecords k s).smn = s.smn ∧
    (State.pumpRecords k s).pending = s.pending := by
  induction k generalizing s with
  | zero => simp [State.pumpRecords]
  | succ k ih => simp only [State.pumpRecords]; (repeat' split) <;> (try simp [ih])

/-- `State.pump` changes no block but `me`, `sb`, `clc`, `lp`. -/
@[simp] theorem State.pump_frame :
    s.pump.powered = s.powered ∧ s.pump.wu = s.wu ∧ s.pump.sp = s.sp ∧ s.pump.xm = s.xm ∧ s.pump.cp = s.cp ∧
    s.pump.chg = s.chg ∧ s.pump.smn = s.smn ∧ s.pump.pending = s.pending := by
  simp [State.pump]

/-- `State.retryMotion` changes no block but `me`, `sb`, `clc`, `lp`. -/
@[simp] theorem State.retryMotion_frame :
    s.retryMotion.powered = s.powered ∧ s.retryMotion.wu = s.wu ∧ s.retryMotion.sp = s.sp ∧
    s.retryMotion.xm = s.xm ∧ s.retryMotion.cp = s.cp ∧ s.retryMotion.chg = s.chg ∧ s.retryMotion.smn = s.smn ∧
    s.retryMotion.pending = s.pending := by
  simp only [State.retryMotion]; (repeat' split) <;> (try simp)

/-- `State.freePreroll` changes no block but `me`, `sb`, `clc`. -/
@[simp] theorem State.freePreroll_frame :
    s.freePreroll.powered = s.powered ∧ s.freePreroll.wu = s.wu ∧ s.freePreroll.sp = s.sp ∧
    s.freePreroll.lp = s.lp ∧ s.freePreroll.xm = s.xm ∧ s.freePreroll.cp = s.cp ∧ s.freePreroll.chg = s.chg ∧
    s.freePreroll.smn = s.smn ∧ s.freePreroll.pending = s.pending := by
  simp [State.freePreroll]

/-- `State.stampAll` changes no block but `sb`, `clc`. -/
@[simp] theorem State.stampAll_frame (c : Nat) (l : List Nat) :
    (s.stampAll c l).powered = s.powered ∧ (s.stampAll c l).me = s.me ∧ (s.stampAll c l).wu = s.wu ∧
    (s.stampAll c l).sp = s.sp ∧ (s.stampAll c l).lp = s.lp ∧ (s.stampAll c l).xm = s.xm ∧
    (s.stampAll c l).cp = s.cp ∧ (s.stampAll c l).chg = s.chg ∧ (s.stampAll c l).smn = s.smn ∧
    (s.stampAll c l).pending = s.pending := by
  induction l generalizing s with
  | nil => simp [State.stampAll]
  | cons a l ih => simp [State.stampAll, ih]

/-- `State.prerollToClip` changes no block but `sb`, `clc`. -/
@[simp] theorem State.prerollToClip_frame (c : Nat) :
    (s.prerollToClip c).powered = s.powered ∧ (s.prerollToClip c).me = s.me ∧ (s.prerollToClip c).wu = s.wu ∧
    (s.prerollToClip c).sp = s.sp ∧ (s.prerollToClip c).lp = s.lp ∧ (s.prerollToClip c).xm = s.xm ∧
    (s.prerollToClip c).cp = s.cp ∧ (s.prerollToClip c).chg = s.chg ∧ (s.prerollToClip c).smn = s.smn ∧
    (s.prerollToClip c).pending = s.pending := by
  simp [State.prerollToClip]

/-- `State.setExtents` changes no block but `xm`, `lp`. -/
@[simp] theorem State.setExtents_frame (e : List Extent) :
    (s.setExtents e).powered = s.powered ∧ (s.setExtents e).me = s.me ∧ (s.setExtents e).wu = s.wu ∧
    (s.setExtents e).sp = s.sp ∧ (s.setExtents e).sb = s.sb ∧ (s.setExtents e).cp = s.cp ∧
    (s.setExtents e).clc = s.clc ∧ (s.setExtents e).chg = s.chg ∧ (s.setExtents e).smn = s.smn ∧
    (s.setExtents e).pending = s.pending := by
  simp only [State.setExtents]; (repeat' split) <;> (try simp)

/-- `State.consume` changes no block but `xm`, `lp`. -/
@[simp] theorem State.consume_frame :
    s.consume.powered = s.powered ∧ s.consume.me = s.me ∧ s.consume.wu = s.wu ∧ s.consume.sp = s.sp ∧
    s.consume.sb = s.sb ∧ s.consume.cp = s.cp ∧ s.consume.clc = s.clc ∧ s.consume.chg = s.chg ∧
    s.consume.smn = s.smn ∧ s.consume.pending = s.pending := by
  simp [State.consume]

/-- `State.lockPartial` changes no block but `clc`, `lp`. -/
@[simp] theorem State.lockPartial_frame (c : Nat) :
    (s.lockPartial c).powered = s.powered ∧ (s.lockPartial c).me = s.me ∧ (s.lockPartial c).wu = s.wu ∧
    (s.lockPartial c).sp = s.sp ∧ (s.lockPartial c).sb = s.sb ∧ (s.lockPartial c).xm = s.xm ∧
    (s.lockPartial c).cp = s.cp ∧ (s.lockPartial c).chg = s.chg ∧ (s.lockPartial c).smn = s.smn ∧
    (s.lockPartial c).pending = s.pending := by
  simp only [State.lockPartial]; (repeat' split) <;> (try simp)

/-- `State.addLock` changes no block but `xm`, `clc`, `lp`. -/
@[simp] theorem State.addLock_frame (c f n : Nat) :
    (s.addLock c f n).powered = s.powered ∧ (s.addLock c f n).me = s.me ∧ (s.addLock c f n).wu = s.wu ∧
    (s.addLock c f n).sp = s.sp ∧ (s.addLock c f n).sb = s.sb ∧ (s.addLock c f n).cp = s.cp ∧
    (s.addLock c f n).chg = s.chg ∧ (s.addLock c f n).smn = s.smn ∧ (s.addLock c f n).pending = s.pending := by
  simp only [State.addLock]; (repeat' split) <;> (try simp)

/-- `State.updateLock` changes no block but `xm`, `clc`, `lp`. -/
@[simp] theorem State.updateLock_frame (c f : Nat) :
    (s.updateLock c f).powered = s.powered ∧ (s.updateLock c f).me = s.me ∧ (s.updateLock c f).wu = s.wu ∧
    (s.updateLock c f).sp = s.sp ∧ (s.updateLock c f).sb = s.sb ∧ (s.updateLock c f).cp = s.cp ∧
    (s.updateLock c f).chg = s.chg ∧ (s.updateLock c f).smn = s.smn ∧
    (s.updateLock c f).pending = s.pending := by
  simp only [State.updateLock]; (repeat' split) <;> (try simp)

/-- `State.addLocks` changes no block but `xm`, `clc`, `lp`. -/
@[simp] theorem State.addLocks_frame (c : Nat) (l : List (Nat × Nat)) :
    (s.addLocks c l).powered = s.powered ∧ (s.addLocks c l).me = s.me ∧ (s.addLocks c l).wu = s.wu ∧
    (s.addLocks c l).sp = s.sp ∧ (s.addLocks c l).sb = s.sb ∧ (s.addLocks c l).cp = s.cp ∧
    (s.addLocks c l).chg = s.chg ∧ (s.addLocks c l).smn = s.smn ∧ (s.addLocks c l).pending = s.pending := by
  induction l generalizing s with
  | nil => simp [State.addLocks]
  | cons a l ih => simp [State.addLocks, ih]

/-- `State.takePreroll` changes no block but `me`, `sb`, `clc`, `lp`. -/
@[simp] theorem State.takePreroll_frame (c : Nat) :
    (s.takePreroll c).powered = s.powered ∧ (s.takePreroll c).wu = s.wu ∧ (s.takePreroll c).sp = s.sp ∧
    (s.takePreroll c).xm = s.xm ∧ (s.takePreroll c).cp = s.cp ∧ (s.takePreroll c).chg = s.chg ∧
    (s.takePreroll c).smn = s.smn ∧ (s.takePreroll c).pending = s.pending := by
  simp only [State.takePreroll]; (repeat' split) <;> (try simp)

/-- `State.startClip` changes no block but `me`, `sb`, `clc`, `lp`. -/
@[simp] theorem State.startClip_frame (b : Bool) :
    (s.startClip b).powered = s.powered ∧ (s.startClip b).wu = s.wu ∧ (s.startClip b).sp = s.sp ∧
    (s.startClip b).xm = s.xm ∧ (s.startClip b).cp = s.cp ∧ (s.startClip b).chg = s.chg ∧
    (s.startClip b).smn = s.smn ∧ (s.startClip b).pending = s.pending := by
  simp only [State.startClip]; (repeat' split) <;> (try simp)

/-- `State.startRecord` changes no block but `me`, `sb`, `clc`, `lp`. -/
@[simp] theorem State.startRecord_frame :
    s.startRecord.1.powered = s.powered ∧ s.startRecord.1.wu = s.wu ∧ s.startRecord.1.sp = s.sp ∧
    s.startRecord.1.xm = s.xm ∧ s.startRecord.1.cp = s.cp ∧ s.startRecord.1.chg = s.chg ∧
    s.startRecord.1.smn = s.smn ∧ s.startRecord.1.pending = s.pending := by
  simp only [State.startRecord, State.answered]; (repeat' split) <;> (try simp)

/-- `State.arm` changes no block but `clc`. -/
@[simp] theorem State.arm_frame :
    s.arm.1.powered = s.powered ∧ s.arm.1.me = s.me ∧ s.arm.1.wu = s.wu ∧ s.arm.1.sp = s.sp ∧
    s.arm.1.lp = s.lp ∧ s.arm.1.sb = s.sb ∧ s.arm.1.xm = s.xm ∧ s.arm.1.cp = s.cp ∧ s.arm.1.chg = s.chg ∧
    s.arm.1.smn = s.smn ∧ s.arm.1.pending = s.pending := by
  simp only [State.arm, State.answered]; (repeat' split) <;> (try simp)

/-- `State.disarmNow` changes no block but `me`, `sb`, `clc`. -/
@[simp] theorem State.disarmNow_frame :
    s.disarmNow.powered = s.powered ∧ s.disarmNow.wu = s.wu ∧ s.disarmNow.sp = s.sp ∧ s.disarmNow.lp = s.lp ∧
    s.disarmNow.xm = s.xm ∧ s.disarmNow.cp = s.cp ∧ s.disarmNow.chg = s.chg ∧ s.disarmNow.smn = s.smn ∧
    s.disarmNow.pending = s.pending := by
  simp [State.disarmNow]

/-- `State.disarm` changes no block but `me`, `sb`, `clc`. -/
@[simp] theorem State.disarm_frame :
    s.disarm.1.powered = s.powered ∧ s.disarm.1.wu = s.wu ∧ s.disarm.1.sp = s.sp ∧ s.disarm.1.lp = s.lp ∧
    s.disarm.1.xm = s.xm ∧ s.disarm.1.cp = s.cp ∧ s.disarm.1.chg = s.chg ∧ s.disarm.1.smn = s.smn ∧
    s.disarm.1.pending = s.pending := by
  simp only [State.disarm, State.answered]; (repeat' split) <;> (try simp)

/-- `State.finishClip` changes no block but `sb`, `clc`. -/
@[simp] theorem State.finishClip_frame (c : Nat) :
    (s.finishClip c).powered = s.powered ∧ (s.finishClip c).me = s.me ∧ (s.finishClip c).wu = s.wu ∧
    (s.finishClip c).sp = s.sp ∧ (s.finishClip c).lp = s.lp ∧ (s.finishClip c).xm = s.xm ∧
    (s.finishClip c).cp = s.cp ∧ (s.finishClip c).chg = s.chg ∧ (s.finishClip c).smn = s.smn ∧
    (s.finishClip c).pending = s.pending := by
  simp [State.finishClip]

/-- `State.endDrain` changes no block but `sb`, `clc`. -/
@[simp] theorem State.endDrain_frame :
    s.endDrain.powered = s.powered ∧ s.endDrain.me = s.me ∧ s.endDrain.wu = s.wu ∧ s.endDrain.sp = s.sp ∧
    s.endDrain.lp = s.lp ∧ s.endDrain.xm = s.xm ∧ s.endDrain.cp = s.cp ∧ s.endDrain.chg = s.chg ∧
    s.endDrain.smn = s.smn ∧ s.endDrain.pending = s.pending := by
  simp only [State.endDrain]; (repeat' split) <;> (try simp)

/-- `State.startDrain` changes no block but `sb`, `clc`. -/
@[simp] theorem State.startDrain_frame (c : Nat) :
    (s.startDrain c).powered = s.powered ∧ (s.startDrain c).me = s.me ∧ (s.startDrain c).wu = s.wu ∧
    (s.startDrain c).sp = s.sp ∧ (s.startDrain c).lp = s.lp ∧ (s.startDrain c).xm = s.xm ∧
    (s.startDrain c).cp = s.cp ∧ (s.startDrain c).chg = s.chg ∧ (s.startDrain c).smn = s.smn ∧
    (s.startDrain c).pending = s.pending := by
  simp only [State.startDrain]; (repeat' split) <;> (try simp)

/-- `State.stopRecord` changes no block but `me`, `sb`, `clc`. -/
@[simp] theorem State.stopRecord_frame :
    s.stopRecord.1.powered = s.powered ∧ s.stopRecord.1.wu = s.wu ∧ s.stopRecord.1.sp = s.sp ∧
    s.stopRecord.1.lp = s.lp ∧ s.stopRecord.1.xm = s.xm ∧ s.stopRecord.1.cp = s.cp ∧
    s.stopRecord.1.chg = s.chg ∧ s.stopRecord.1.smn = s.smn ∧ s.stopRecord.1.pending = s.pending := by
  simp only [State.stopRecord, State.answered]; (repeat' split) <;> (try simp)

/-- `State.closeForPower` changes no block but `me`, `sb`, `clc`. -/
@[simp] theorem State.closeForPower_frame (r : PowerReason) :
    (s.closeForPower r).powered = s.powered ∧ (s.closeForPower r).wu = s.wu ∧ (s.closeForPower r).sp = s.sp ∧
    (s.closeForPower r).lp = s.lp ∧ (s.closeForPower r).xm = s.xm ∧ (s.closeForPower r).cp = s.cp ∧
    (s.closeForPower r).chg = s.chg ∧ (s.closeForPower r).smn = s.smn ∧
    (s.closeForPower r).pending = s.pending := by
  simp only [State.closeForPower]; (repeat' split) <;> (try simp)

/-- `State.startPowerClose` changes no block but `me`, `sb`, `clc`. -/
@[simp] theorem State.startPowerClose_frame (r : PowerReason) :
    (s.startPowerClose r).powered = s.powered ∧ (s.startPowerClose r).wu = s.wu ∧
    (s.startPowerClose r).sp = s.sp ∧ (s.startPowerClose r).lp = s.lp ∧ (s.startPowerClose r).xm = s.xm ∧
    (s.startPowerClose r).cp = s.cp ∧ (s.startPowerClose r).chg = s.chg ∧ (s.startPowerClose r).smn = s.smn ∧
    (s.startPowerClose r).pending = s.pending := by
  simp only [State.startPowerClose]; (repeat' split) <;> (try simp)

/-- `State.forceSplitTest` changes no block but `clc`. -/
@[simp] theorem State.forceSplitTest_frame (r : ClipRecord) (f : Nat) :
    (s.forceSplitTest r f).powered = s.powered ∧ (s.forceSplitTest r f).me = s.me ∧
    (s.forceSplitTest r f).wu = s.wu ∧ (s.forceSplitTest r f).sp = s.sp ∧ (s.forceSplitTest r f).lp = s.lp ∧
    (s.forceSplitTest r f).sb = s.sb ∧ (s.forceSplitTest r f).xm = s.xm ∧ (s.forceSplitTest r f).cp = s.cp ∧
    (s.forceSplitTest r f).chg = s.chg ∧ (s.forceSplitTest r f).smn = s.smn ∧
    (s.forceSplitTest r f).pending = s.pending := by
  simp only [State.forceSplitTest]; (repeat' split) <;> (try simp)

/-- `State.lockWritten` changes no block but `xm`, `clc`, `lp`. -/
@[simp] theorem State.lockWritten_frame (r : ClipRecord) (f : Nat) :
    (s.lockWritten r f).powered = s.powered ∧ (s.lockWritten r f).me = s.me ∧ (s.lockWritten r f).wu = s.wu ∧
    (s.lockWritten r f).sp = s.sp ∧ (s.lockWritten r f).sb = s.sb ∧ (s.lockWritten r f).cp = s.cp ∧
    (s.lockWritten r f).chg = s.chg ∧ (s.lockWritten r f).smn = s.smn ∧
    (s.lockWritten r f).pending = s.pending := by
  simp only [State.lockWritten]; (repeat' split) <;> (try simp)

/-- `State.completionTest` changes no block but `me`, `sb`, `clc`, `lp`. -/
@[simp] theorem State.completionTest_frame (n : Nat) :
    (s.completionTest n).powered = s.powered ∧ (s.completionTest n).wu = s.wu ∧
    (s.completionTest n).sp = s.sp ∧ (s.completionTest n).xm = s.xm ∧ (s.completionTest n).cp = s.cp ∧
    (s.completionTest n).chg = s.chg ∧ (s.completionTest n).smn = s.smn ∧
    (s.completionTest n).pending = s.pending := by
  simp only [State.completionTest]; (repeat' split) <;> (try simp)

/-- `State.completeData` changes no block but `me`, `sb`, `clc`, `lp`, `xm`. -/
@[simp] theorem State.completeData_frame (r : ClipRecord) (n f : Nat) :
    (s.completeData r n f).powered = s.powered ∧ (s.completeData r n f).wu = s.wu ∧
    (s.completeData r n f).sp = s.sp ∧ (s.completeData r n f).cp = s.cp ∧ (s.completeData r n f).chg = s.chg ∧
    (s.completeData r n f).smn = s.smn ∧ (s.completeData r n f).pending = s.pending := by
  simp [State.completeData]

/-- `State.completeTrailer` changes no block but `me`, `sb`, `clc`, `lp`, `xm`. -/
@[simp] theorem State.completeTrailer_frame (r : ClipRecord) (n f : Nat) :
    (s.completeTrailer r n f).powered = s.powered ∧ (s.completeTrailer r n f).wu = s.wu ∧
    (s.completeTrailer r n f).sp = s.sp ∧ (s.completeTrailer r n f).cp = s.cp ∧
    (s.completeTrailer r n f).chg = s.chg ∧ (s.completeTrailer r n f).smn = s.smn ∧
    (s.completeTrailer r n f).pending = s.pending := by
  simp [State.completeTrailer]

/-- `State.completeWrite` changes no block but `me`, `sb`, `clc`, `lp`, `xm`. -/
@[simp] theorem State.completeWrite_frame (n f : Nat) :
    (s.completeWrite n f).powered = s.powered ∧ (s.completeWrite n f).wu = s.wu ∧
    (s.completeWrite n f).sp = s.sp ∧ (s.completeWrite n f).cp = s.cp ∧ (s.completeWrite n f).chg = s.chg ∧
    (s.completeWrite n f).smn = s.smn ∧ (s.completeWrite n f).pending = s.pending := by
  simp only [State.completeWrite]; (repeat' split) <;> (try simp)

/-- `State.abandonDrain` changes no block but `sb`, `clc`. -/
@[simp] theorem State.abandonDrain_frame (c : Nat) :
    (s.abandonDrain c).powered = s.powered ∧ (s.abandonDrain c).me = s.me ∧ (s.abandonDrain c).wu = s.wu ∧
    (s.abandonDrain c).sp = s.sp ∧ (s.abandonDrain c).lp = s.lp ∧ (s.abandonDrain c).xm = s.xm ∧
    (s.abandonDrain c).cp = s.cp ∧ (s.abandonDrain c).chg = s.chg ∧ (s.abandonDrain c).smn = s.smn ∧
    (s.abandonDrain c).pending = s.pending := by
  simp only [State.abandonDrain]; (repeat' split) <;> (try simp)

/-- `State.abortNow` changes no block but `me`, `sb`, `clc`, `lp`. -/
@[simp] theorem State.abortNow_frame (c : Nat) :
    (s.abortNow c).powered = s.powered ∧ (s.abortNow c).wu = s.wu ∧ (s.abortNow c).sp = s.sp ∧
    (s.abortNow c).xm = s.xm ∧ (s.abortNow c).cp = s.cp ∧ (s.abortNow c).chg = s.chg ∧
    (s.abortNow c).smn = s.smn ∧ (s.abortNow c).pending = s.pending := by
  simp only [State.abortNow]; (repeat' split) <;> (try simp)

/-- `State.settleSplit` changes no block but `clc`. -/
@[simp] theorem State.settleSplit_frame (b : Bool) :
    (s.settleSplit b).powered = s.powered ∧ (s.settleSplit b).me = s.me ∧ (s.settleSplit b).wu = s.wu ∧
    (s.settleSplit b).sp = s.sp ∧ (s.settleSplit b).lp = s.lp ∧ (s.settleSplit b).sb = s.sb ∧
    (s.settleSplit b).xm = s.xm ∧ (s.settleSplit b).cp = s.cp ∧ (s.settleSplit b).chg = s.chg ∧
    (s.settleSplit b).smn = s.smn ∧ (s.settleSplit b).pending = s.pending := by
  simp only [State.settleSplit]; (repeat' split) <;> (try simp)

/-- `State.splitAtCell` changes no block but `sb`, `clc`, `lp`. -/
@[simp] theorem State.splitAtCell_frame (o g : Nat) (f l : Bool) (p : List Byte) :
    (s.splitAtCell o g f l p).powered = s.powered ∧ (s.splitAtCell o g f l p).me = s.me ∧
    (s.splitAtCell o g f l p).wu = s.wu ∧ (s.splitAtCell o g f l p).sp = s.sp ∧
    (s.splitAtCell o g f l p).xm = s.xm ∧ (s.splitAtCell o g f l p).cp = s.cp ∧
    (s.splitAtCell o g f l p).chg = s.chg ∧ (s.splitAtCell o g f l p).smn = s.smn ∧
    (s.splitAtCell o g f l p).pending = s.pending := by
  simp [State.splitAtCell]

/-- `State.recordCell` changes no block but `sb`, `clc`, `lp`. -/
@[simp] theorem State.recordCell_frame (g : Nat) (y f l : Bool) (p : List Byte) :
    (s.recordCell g y f l p).powered = s.powered ∧ (s.recordCell g y f l p).me = s.me ∧
    (s.recordCell g y f l p).wu = s.wu ∧ (s.recordCell g y f l p).sp = s.sp ∧
    (s.recordCell g y f l p).xm = s.xm ∧ (s.recordCell g y f l p).cp = s.cp ∧
    (s.recordCell g y f l p).chg = s.chg ∧ (s.recordCell g y f l p).smn = s.smn ∧
    (s.recordCell g y f l p).pending = s.pending := by
  simp only [State.recordCell]; (repeat' split) <;> (try simp)

/-- `State.placeCell` changes no block but `sb`, `clc`, `lp`. -/
@[simp] theorem State.placeCell_frame (g : Nat) (y f l : Bool) (p : List Byte) :
    (s.placeCell g y f l p).powered = s.powered ∧ (s.placeCell g y f l p).me = s.me ∧
    (s.placeCell g y f l p).wu = s.wu ∧ (s.placeCell g y f l p).sp = s.sp ∧ (s.placeCell g y f l p).xm = s.xm ∧
    (s.placeCell g y f l p).cp = s.cp ∧ (s.placeCell g y f l p).chg = s.chg ∧
    (s.placeCell g y f l p).smn = s.smn ∧ (s.placeCell g y f l p).pending = s.pending := by
  simp only [State.placeCell]; (repeat' split) <;> (try simp)

/-- `State.lockClip` changes no block but `xm`, `clc`, `lp`. -/
@[simp] theorem State.lockClip_frame (r : ClipRecord) :
    (s.lockClip r).powered = s.powered ∧ (s.lockClip r).me = s.me ∧ (s.lockClip r).wu = s.wu ∧
    (s.lockClip r).sp = s.sp ∧ (s.lockClip r).sb = s.sb ∧ (s.lockClip r).cp = s.cp ∧
    (s.lockClip r).chg = s.chg ∧ (s.lockClip r).smn = s.smn ∧ (s.lockClip r).pending = s.pending := by
  simp [State.lockClip]

/-- `State.shockAction` changes no block but `me`, `sb`, `clc`, `lp`, `xm`. -/
@[simp] theorem State.shockAction_frame :
    s.shockAction.1.powered = s.powered ∧ s.shockAction.1.wu = s.wu ∧ s.shockAction.1.sp = s.sp ∧
    s.shockAction.1.cp = s.cp ∧ s.shockAction.1.chg = s.chg ∧ s.shockAction.1.smn = s.smn ∧
    s.shockAction.1.pending = s.pending := by
  simp only [State.shockAction]; (repeat' split) <;> (try simp)

/-- `State.newMark` changes no block but `lp`. -/
@[simp] theorem State.newMark_frame (n : Nat) :
    (s.newMark n).powered = s.powered ∧ (s.newMark n).me = s.me ∧ (s.newMark n).wu = s.wu ∧
    (s.newMark n).sp = s.sp ∧ (s.newMark n).sb = s.sb ∧ (s.newMark n).xm = s.xm ∧ (s.newMark n).cp = s.cp ∧
    (s.newMark n).clc = s.clc ∧ (s.newMark n).chg = s.chg ∧ (s.newMark n).smn = s.smn ∧
    (s.newMark n).pending = s.pending := by
  simp only [State.newMark]; (repeat' split) <;> (try simp)

/-- `State.loadRecorder` changes no block but `clc`, `lp`. -/
@[simp] theorem State.loadRecorder_frame (b : List Byte) :
    (s.loadRecorder b).1.powered = s.powered ∧ (s.loadRecorder b).1.me = s.me ∧
    (s.loadRecorder b).1.wu = s.wu ∧ (s.loadRecorder b).1.sp = s.sp ∧ (s.loadRecorder b).1.sb = s.sb ∧
    (s.loadRecorder b).1.xm = s.xm ∧ (s.loadRecorder b).1.cp = s.cp ∧ (s.loadRecorder b).1.chg = s.chg ∧
    (s.loadRecorder b).1.smn = s.smn ∧ (s.loadRecorder b).1.pending = s.pending := by
  simp only [State.loadRecorder, State.answered]; (repeat' split) <;> (try simp)

end Sys2Proof.Machine
end

