-- ==== Sys2Proof/Laws/FramesMore.lean ====
section
/-!
SUPPORT. Which blocks the operations of the card, the motion and picture streams, the supply and the control channel
leave as they were: one lemma per operation.
-/
namespace Sys2Proof.Machine

variable (s : State)

/-- `State.startAttach` changes no block but `cp`. -/
@[simp] theorem State.startAttach_frame :
    s.startAttach.powered = s.powered ∧ s.startAttach.me = s.me ∧ s.startAttach.wu = s.wu ∧
    s.startAttach.sp = s.sp ∧ s.startAttach.lp = s.lp ∧ s.startAttach.sb = s.sb ∧ s.startAttach.xm = s.xm ∧
    s.startAttach.clc = s.clc ∧ s.startAttach.chg = s.chg ∧ s.startAttach.smn = s.smn ∧
    s.startAttach.pending = s.pending := by
  simp [State.startAttach]

/-- `State.failAttach` changes no block but `cp`, `lp`. -/
@[simp] theorem State.failAttach_frame :
    s.failAttach.powered = s.powered ∧ s.failAttach.me = s.me ∧ s.failAttach.wu = s.wu ∧
    s.failAttach.sp = s.sp ∧ s.failAttach.sb = s.sb ∧ s.failAttach.xm = s.xm ∧ s.failAttach.clc = s.clc ∧
    s.failAttach.chg = s.chg ∧ s.failAttach.smn = s.smn ∧ s.failAttach.pending = s.pending := by
  simp [State.failAttach]

/-- `State.identified` changes no block but `cp`. -/
@[simp] theorem State.identified_frame (a : IdentifyAnswer) :
    (s.identified a).powered = s.powered ∧ (s.identified a).me = s.me ∧ (s.identified a).wu = s.wu ∧
    (s.identified a).sp = s.sp ∧ (s.identified a).lp = s.lp ∧ (s.identified a).sb = s.sb ∧
    (s.identified a).xm = s.xm ∧ (s.identified a).clc = s.clc ∧ (s.identified a).chg = s.chg ∧
    (s.identified a).smn = s.smn ∧ (s.identified a).pending = s.pending := by
  simp [State.identified]

/-- `State.attached` changes no block but `cp`, `lp`. -/
@[simp] theorem State.attached_frame (g : Grade) :
    (s.attached g).powered = s.powered ∧ (s.attached g).me = s.me ∧ (s.attached g).wu = s.wu ∧
    (s.attached g).sp = s.sp ∧ (s.attached g).sb = s.sb ∧ (s.attached g).xm = s.xm ∧
    (s.attached g).clc = s.clc ∧ (s.attached g).chg = s.chg ∧ (s.attached g).smn = s.smn ∧
    (s.attached g).pending = s.pending := by
  simp [State.attached]

/-- `State.markDamaged` changes no block but `sb`, `lp`, `clc`. -/
@[simp] theorem State.markDamaged_frame (n : Nat) :
    (s.markDamaged n).powered = s.powered ∧ (s.markDamaged n).me = s.me ∧ (s.markDamaged n).wu = s.wu ∧
    (s.markDamaged n).sp = s.sp ∧ (s.markDamaged n).xm = s.xm ∧ (s.markDamaged n).cp = s.cp ∧
    (s.markDamaged n).chg = s.chg ∧ (s.markDamaged n).smn = s.smn ∧ (s.markDamaged n).pending = s.pending := by
  simp only [State.markDamaged]; (repeat' split) <;> (try simp)

/-- `State.readBlock` changes no block but `sb`, `lp`, `clc`. -/
@[simp] theorem State.readBlock_frame (n : Nat) (e : EccRead) :
    (s.readBlock n e).powered = s.powered ∧ (s.readBlock n e).me = s.me ∧ (s.readBlock n e).wu = s.wu ∧
    (s.readBlock n e).sp = s.sp ∧ (s.readBlock n e).xm = s.xm ∧ (s.readBlock n e).cp = s.cp ∧
    (s.readBlock n e).chg = s.chg ∧ (s.readBlock n e).smn = s.smn ∧ (s.readBlock n e).pending = s.pending := by
  simp only [State.readBlock]; (repeat' split) <;> (try simp)

/-- `State.beginAttempt` changes no block but `cp`, `sb`, `lp`, `clc`. -/
@[simp] theorem State.beginAttempt_frame (w : SlotWrite) (e : EccRead) :
    (s.beginAttempt w e).powered = s.powered ∧ (s.beginAttempt w e).me = s.me ∧
    (s.beginAttempt w e).wu = s.wu ∧ (s.beginAttempt w e).sp = s.sp ∧ (s.beginAttempt w e).xm = s.xm ∧
    (s.beginAttempt w e).chg = s.chg ∧ (s.beginAttempt w e).smn = s.smn ∧
    (s.beginAttempt w e).pending = s.pending := by
  simp [State.beginAttempt]

/-- `State.takeSlot` changes no block but `cp`, `sb`, `lp`, `clc`. -/
@[simp] theorem State.takeSlot_frame (w : SlotWrite) (e : EccRead) :
    (s.takeSlot w e).powered = s.powered ∧ (s.takeSlot w e).me = s.me ∧ (s.takeSlot w e).wu = s.wu ∧
    (s.takeSlot w e).sp = s.sp ∧ (s.takeSlot w e).xm = s.xm ∧ (s.takeSlot w e).chg = s.chg ∧
    (s.takeSlot w e).smn = s.smn ∧ (s.takeSlot w e).pending = s.pending := by
  simp only [State.takeSlot]; (repeat' split) <;> (try simp)

/-- `State.noExtent` changes no block but `lp`, `cp`. -/
@[simp] theorem State.noExtent_frame (c : Nat) :
    (s.noExtent c).powered = s.powered ∧ (s.noExtent c).me = s.me ∧ (s.noExtent c).wu = s.wu ∧
    (s.noExtent c).sp = s.sp ∧ (s.noExtent c).sb = s.sb ∧ (s.noExtent c).xm = s.xm ∧
    (s.noExtent c).clc = s.clc ∧ (s.noExtent c).chg = s.chg ∧ (s.noExtent c).smn = s.smn ∧
    (s.noExtent c).pending = s.pending := by
  simp [State.noExtent]

/-- `State.startWrite` changes no block but `cp`, `sb`, `lp`, `clc`. -/
@[simp] theorem State.startWrite_frame (e : EccRead) :
    (s.startWrite e).powered = s.powered ∧ (s.startWrite e).me = s.me ∧ (s.startWrite e).wu = s.wu ∧
    (s.startWrite e).sp = s.sp ∧ (s.startWrite e).xm = s.xm ∧ (s.startWrite e).chg = s.chg ∧
    (s.startWrite e).smn = s.smn ∧ (s.startWrite e).pending = s.pending := by
  simp only [State.startWrite]; (repeat' split) <;> (try simp)

/-- `State.failAttempt` changes no block but `lp`, `cp`. -/
@[simp] theorem State.failAttempt_frame :
    s.failAttempt.powered = s.powered ∧ s.failAttempt.me = s.me ∧ s.failAttempt.wu = s.wu ∧
    s.failAttempt.sp = s.sp ∧ s.failAttempt.sb = s.sb ∧ s.failAttempt.xm = s.xm ∧ s.failAttempt.clc = s.clc ∧
    s.failAttempt.chg = s.chg ∧ s.failAttempt.smn = s.smn ∧ s.failAttempt.pending = s.pending := by
  simp [State.failAttempt]

/-- `State.declareFailed` changes no block but `cp`, `sb`, `xm`, `lp`. -/
@[simp] theorem State.declareFailed_frame :
    s.declareFailed.powered = s.powered ∧ s.declareFailed.me = s.me ∧ s.declareFailed.wu = s.wu ∧
    s.declareFailed.sp = s.sp ∧ s.declareFailed.clc = s.clc ∧ s.declareFailed.chg = s.chg ∧
    s.declareFailed.smn = s.smn ∧ s.declareFailed.pending = s.pending := by
  simp only [State.declareFailed]; (repeat' split) <;> (try simp)

/-- `State.skipPosition` changes no block but `cp`, `sb`, `xm`, `lp`, `clc`. -/
@[simp] theorem State.skipPosition_frame (w : SlotWrite) (e : EccRead) :
    (s.skipPosition w e).powered = s.powered ∧ (s.skipPosition w e).me = s.me ∧
    (s.skipPosition w e).wu = s.wu ∧ (s.skipPosition w e).sp = s.sp ∧ (s.skipPosition w e).chg = s.chg ∧
    (s.skipPosition w e).smn = s.smn ∧ (s.skipPosition w e).pending = s.pending := by
  simp only [State.skipPosition]; (repeat' split) <;> (try simp)

/-- `State.afterStop` changes no block but `cp`, `sb`, `xm`, `lp`, `clc`. -/
@[simp] theorem State.afterStop_frame (w : SlotWrite) (e : EccRead) :
    (s.afterStop w e).powered = s.powered ∧ (s.afterStop w e).me = s.me ∧ (s.afterStop w e).wu = s.wu ∧
    (s.afterStop w e).sp = s.sp ∧ (s.afterStop w e).chg = s.chg ∧ (s.afterStop w e).smn = s.smn ∧
    (s.afterStop w e).pending = s.pending := by
  simp only [State.afterStop]; (repeat' split) <;> (try simp)

/-- `State.writeSucceeds` changes no block but `me`, `sb`, `clc`, `lp`, `xm`, `cp`. -/
@[simp] theorem State.writeSucceeds_frame (w : SlotWrite) :
    (s.writeSucceeds w).powered = s.powered ∧ (s.writeSucceeds w).wu = s.wu ∧ (s.writeSucceeds w).sp = s.sp ∧
    (s.writeSucceeds w).chg = s.chg ∧ (s.writeSucceeds w).smn = s.smn ∧
    (s.writeSucceeds w).pending = s.pending := by
  simp [State.writeSucceeds]

/-- `State.blockAccepted` changes no block but `cp`, `sb`, `lp`, `clc`. -/
@[simp] theorem State.blockAccepted_frame (w : SlotWrite) (e : EccRead) :
    (s.blockAccepted w e).powered = s.powered ∧ (s.blockAccepted w e).me = s.me ∧
    (s.blockAccepted w e).wu = s.wu ∧ (s.blockAccepted w e).sp = s.sp ∧ (s.blockAccepted w e).xm = s.xm ∧
    (s.blockAccepted w e).chg = s.chg ∧ (s.blockAccepted w e).smn = s.smn ∧
    (s.blockAccepted w e).pending = s.pending := by
  simp only [State.blockAccepted]; (repeat' split) <;> (try simp)

/-- `State.giveBackWrite` changes no block but `sb`. -/
@[simp] theorem State.giveBackWrite_frame :
    s.giveBackWrite.powered = s.powered ∧ s.giveBackWrite.me = s.me ∧ s.giveBackWrite.wu = s.wu ∧
    s.giveBackWrite.sp = s.sp ∧ s.giveBackWrite.lp = s.lp ∧ s.giveBackWrite.xm = s.xm ∧
    s.giveBackWrite.cp = s.cp ∧ s.giveBackWrite.clc = s.clc ∧ s.giveBackWrite.chg = s.chg ∧
    s.giveBackWrite.smn = s.smn ∧ s.giveBackWrite.pending = s.pending := by
  simp only [State.giveBackWrite]; (repeat' split) <;> (try simp)

/-- `State.removeCard` changes no block but `cp`, `sb`, `xm`, `lp`. -/
@[simp] theorem State.removeCard_frame :
    s.removeCard.powered = s.powered ∧ s.removeCard.me = s.me ∧ s.removeCard.wu = s.wu ∧
    s.removeCard.sp = s.sp ∧ s.removeCard.clc = s.clc ∧ s.removeCard.chg = s.chg ∧ s.removeCard.smn = s.smn ∧
    s.removeCard.pending = s.pending := by
  simp only [State.removeCard]; (repeat' split) <;> (try simp)

/-- `State.restartCard` changes no block but `cp`. -/
@[simp] theorem State.restartCard_frame :
    s.restartCard.powered = s.powered ∧ s.restartCard.me = s.me ∧ s.restartCard.wu = s.wu ∧
    s.restartCard.sp = s.sp ∧ s.restartCard.lp = s.lp ∧ s.restartCard.sb = s.sb ∧ s.restartCard.xm = s.xm ∧
    s.restartCard.clc = s.clc ∧ s.restartCard.chg = s.chg ∧ s.restartCard.smn = s.smn ∧
    s.restartCard.pending = s.pending := by
  simp only [State.restartCard]; (repeat' split) <;> (try simp)

/-- `State.wakeCard` changes no block but `cp`. -/
@[simp] theorem State.wakeCard_frame :
    s.wakeCard.powered = s.powered ∧ s.wakeCard.me = s.me ∧ s.wakeCard.wu = s.wu ∧ s.wakeCard.sp = s.sp ∧
    s.wakeCard.lp = s.lp ∧ s.wakeCard.sb = s.sb ∧ s.wakeCard.xm = s.xm ∧ s.wakeCard.clc = s.clc ∧
    s.wakeCard.chg = s.chg ∧ s.wakeCard.smn = s.smn ∧ s.wakeCard.pending = s.pending := by
  simp only [State.wakeCard]; (repeat' split) <;> (try simp)

/-- `State.parkBlocks` changes no block but `wu`, `sp`, `lp`, `me`, `cp`, `sb`. -/
@[simp] theorem State.parkBlocks_frame :
    s.parkBlocks.powered = s.powered ∧ s.parkBlocks.xm = s.xm ∧ s.parkBlocks.clc = s.clc ∧
    s.parkBlocks.chg = s.chg ∧ s.parkBlocks.smn = s.smn ∧ s.parkBlocks.pending = s.pending := by
  simp [State.parkBlocks]

/-- `State.enterStandby` changes no block but `me`, `wu`, `sp`, `lp`, `sb`, `cp`, `clc`, `smn`. -/
@[simp] theorem State.enterStandby_frame (r : StandbyReason) :
    (s.enterStandby r).powered = s.powered ∧ (s.enterStandby r).xm = s.xm ∧ (s.enterStandby r).chg = s.chg ∧
    (s.enterStandby r).pending = s.pending := by
  simp [State.enterStandby]

/-- `State.endPowerClose` changes no block but `me`, `wu`, `sp`, `lp`, `sb`, `cp`, `clc`, `smn`. -/
@[simp] theorem State.endPowerClose_frame :
    s.endPowerClose.powered = s.powered ∧ s.endPowerClose.xm = s.xm ∧ s.endPowerClose.chg = s.chg ∧
    s.endPowerClose.pending = s.pending := by
  simp only [State.endPowerClose]; (repeat' split) <;> (try simp)

/-- `State.checkPowerClose` changes no block but `me`, `wu`, `sp`, `lp`, `sb`, `cp`, `clc`, `smn`. -/
@[simp] theorem State.checkPowerClose_frame (o : State) :
    (s.checkPowerClose o).powered = s.powered ∧ (s.checkPowerClose o).xm = s.xm ∧
    (s.checkPowerClose o).chg = s.chg ∧ (s.checkPowerClose o).pending = s.pending := by
  simp only [State.checkPowerClose]; (repeat' split) <;> (try simp)

/-- `State.powerCloseTest` changes no block but `me`, `sb`, `clc`. -/
@[simp] theorem State.powerCloseTest_frame :
    s.powerCloseTest.powered = s.powered ∧ s.powerCloseTest.wu = s.wu ∧ s.powerCloseTest.sp = s.sp ∧
    s.powerCloseTest.lp = s.lp ∧ s.powerCloseTest.xm = s.xm ∧ s.powerCloseTest.cp = s.cp ∧
    s.powerCloseTest.chg = s.chg ∧ s.powerCloseTest.smn = s.smn ∧ s.powerCloseTest.pending = s.pending := by
  simp only [State.powerCloseTest]; (repeat' split) <;> (try simp)

/-- `State.endWake` changes no block but `smn`, `cp`, `sp`, `me`, `sb`, `clc`. -/
@[simp] theorem State.endWake_frame :
    s.endWake.powered = s.powered ∧ s.endWake.wu = s.wu ∧ s.endWake.lp = s.lp ∧ s.endWake.xm = s.xm ∧
    s.endWake.chg = s.chg ∧ s.endWake.pending = s.pending := by
  simp [State.endWake]

/-- `State.restartBlocks` changes no block but `me`, `wu`, `sp`, `sb`, `xm`, `clc`, `cp`. -/
@[simp] theorem State.restartBlocks_frame :
    s.restartBlocks.powered = s.powered ∧ s.restartBlocks.lp = s.lp ∧ s.restartBlocks.chg = s.chg ∧
    s.restartBlocks.smn = s.smn ∧ s.restartBlocks.pending = s.pending := by
  simp [State.restartBlocks]

/-- `State.restartNow` changes no block but `me`, `wu`, `sp`, `sb`, `xm`, `clc`, `cp`, `lp`. -/
@[simp] theorem State.restartNow_frame :
    s.restartNow.powered = s.powered ∧ s.restartNow.chg = s.chg ∧ s.restartNow.smn = s.smn ∧
    s.restartNow.pending = s.pending := by
  simp [State.restartNow]

/-- `State.postAborted` changes no block but `lp`. -/
@[simp] theorem State.postAborted_frame (l : List Nat) :
    (s.postAborted l).powered = s.powered ∧ (s.postAborted l).me = s.me ∧ (s.postAborted l).wu = s.wu ∧
    (s.postAborted l).sp = s.sp ∧ (s.postAborted l).sb = s.sb ∧ (s.postAborted l).xm = s.xm ∧
    (s.postAborted l).cp = s.cp ∧ (s.postAborted l).clc = s.clc ∧ (s.postAborted l).chg = s.chg ∧
    (s.postAborted l).smn = s.smn ∧ (s.postAborted l).pending = s.pending := by
  induction l generalizing s with
  | nil => simp [State.postAborted]
  | cons a l ih => simp [State.postAborted, ih]

/-- `State.abortClip` changes no block but `me`, `wu`, `sp`, `lp`, `sb`, `cp`, `clc`, `smn`. -/
@[simp] theorem State.abortClip_frame (c : Nat) :
    (s.abortClip c).1.powered = s.powered ∧ (s.abortClip c).1.xm = s.xm ∧ (s.abortClip c).1.chg = s.chg ∧
    (s.abortClip c).1.pending = s.pending := by
  simp only [State.abortClip, State.answered]; (repeat' split) <;> (try simp)

/-- `State.takeClipCell` changes no block but `sb`, `clc`, `lp`. -/
@[simp] theorem State.takeClipCell_frame (g : Byte) (q : BitVec 16) (p : List Byte) :
    (s.takeClipCell g q p).powered = s.powered ∧ (s.takeClipCell g q p).me = s.me ∧
    (s.takeClipCell g q p).wu = s.wu ∧ (s.takeClipCell g q p).sp = s.sp ∧ (s.takeClipCell g q p).xm = s.xm ∧
    (s.takeClipCell g q p).cp = s.cp ∧ (s.takeClipCell g q p).chg = s.chg ∧
    (s.takeClipCell g q p).smn = s.smn ∧ (s.takeClipCell g q p).pending = s.pending := by
  simp only [State.takeClipCell]; (repeat' split) <;> (try simp)

/-- `State.drainExpires` changes no block but `me`, `wu`, `sp`, `lp`, `sb`, `cp`, `clc`, `smn`. -/
@[simp] theorem State.drainExpires_frame :
    s.drainExpires.powered = s.powered ∧ s.drainExpires.xm = s.xm ∧ s.drainExpires.chg = s.chg ∧
    s.drainExpires.pending = s.pending := by
  simp only [State.drainExpires]; (repeat' split) <;> (try simp)

/-- `State.lineChange` changes no block but `cp`. -/
@[simp] theorem State.lineChange_frame :
    s.lineChange.powered = s.powered ∧ s.lineChange.me = s.me ∧ s.lineChange.wu = s.wu ∧
    s.lineChange.sp = s.sp ∧ s.lineChange.lp = s.lp ∧ s.lineChange.sb = s.sb ∧ s.lineChange.xm = s.xm ∧
    s.lineChange.clc = s.clc ∧ s.lineChange.chg = s.chg ∧ s.lineChange.smn = s.smn ∧
    s.lineChange.pending = s.pending := by
  simp [State.lineChange]

/-- `State.assertDetect` changes no block but `cp`. -/
@[simp] theorem State.assertDetect_frame :
    s.assertDetect.powered = s.powered ∧ s.assertDetect.me = s.me ∧ s.assertDetect.wu = s.wu ∧
    s.assertDetect.sp = s.sp ∧ s.assertDetect.lp = s.lp ∧ s.assertDetect.sb = s.sb ∧ s.assertDetect.xm = s.xm ∧
    s.assertDetect.clc = s.clc ∧ s.assertDetect.chg = s.chg ∧ s.assertDetect.smn = s.smn ∧
    s.assertDetect.pending = s.pending := by
  simp only [State.assertDetect]; (repeat' split) <;> (try simp)

/-- `State.detectAsserts` changes no block but `cp`, `smn`. -/
@[simp] theorem State.detectAsserts_frame :
    s.detectAsserts.powered = s.powered ∧ s.detectAsserts.me = s.me ∧ s.detectAsserts.wu = s.wu ∧
    s.detectAsserts.sp = s.sp ∧ s.detectAsserts.lp = s.lp ∧ s.detectAsserts.sb = s.sb ∧
    s.detectAsserts.xm = s.xm ∧ s.detectAsserts.clc = s.clc ∧ s.detectAsserts.chg = s.chg ∧
    s.detectAsserts.pending = s.pending := by
  simp only [State.detectAsserts]; (repeat' split) <;> (try simp)

/-- `State.releaseDetect` changes no block but `cp`, `sb`, `xm`, `lp`. -/
@[simp] theorem State.releaseDetect_frame :
    s.releaseDetect.powered = s.powered ∧ s.releaseDetect.me = s.me ∧ s.releaseDetect.wu = s.wu ∧
    s.releaseDetect.sp = s.sp ∧ s.releaseDetect.clc = s.clc ∧ s.releaseDetect.chg = s.chg ∧
    s.releaseDetect.smn = s.smn ∧ s.releaseDetect.pending = s.pending := by
  simp only [State.releaseDetect]; (repeat' split) <;> (try simp)

/-- `State.detectReleases` changes no block but `cp`, `sb`, `xm`, `lp`, `smn`. -/
@[simp] theorem State.detectReleases_frame :
    s.detectReleases.powered = s.powered ∧ s.detectReleases.me = s.me ∧ s.detectReleases.wu = s.wu ∧
    s.detectReleases.sp = s.sp ∧ s.detectReleases.clc = s.clc ∧ s.detectReleases.chg = s.chg ∧
    s.detectReleases.pending = s.pending := by
  simp only [State.detectReleases]; (repeat' split) <;> (try simp)

/-- `State.resetWaitEnds` changes no block but `cp`, `smn`. -/
@[simp] theorem State.resetWaitEnds_frame :
    s.resetWaitEnds.powered = s.powered ∧ s.resetWaitEnds.me = s.me ∧ s.resetWaitEnds.wu = s.wu ∧
    s.resetWaitEnds.sp = s.sp ∧ s.resetWaitEnds.lp = s.lp ∧ s.resetWaitEnds.sb = s.sb ∧
    s.resetWaitEnds.xm = s.xm ∧ s.resetWaitEnds.clc = s.clc ∧ s.resetWaitEnds.chg = s.chg ∧
    s.resetWaitEnds.pending = s.pending := by
  simp only [State.resetWaitEnds]; (repeat' split) <;> (try simp)

/-- `State.takeIdentify` changes no block but `cp`, `lp`. -/
@[simp] theorem State.takeIdentify_frame (a : IdentifyAnswer) :
    (s.takeIdentify a).powered = s.powered ∧ (s.takeIdentify a).me = s.me ∧ (s.takeIdentify a).wu = s.wu ∧
    (s.takeIdentify a).sp = s.sp ∧ (s.takeIdentify a).sb = s.sb ∧ (s.takeIdentify a).xm = s.xm ∧
    (s.takeIdentify a).clc = s.clc ∧ (s.takeIdentify a).chg = s.chg ∧ (s.takeIdentify a).smn = s.smn ∧
    (s.takeIdentify a).pending = s.pending := by
  simp only [State.takeIdentify]; (repeat' split) <;> (try simp)

/-- `State.identifyExpires` changes no block but `cp`, `lp`, `smn`. -/
@[simp] theorem State.identifyExpires_frame :
    s.identifyExpires.powered = s.powered ∧ s.identifyExpires.me = s.me ∧ s.identifyExpires.wu = s.wu ∧
    s.identifyExpires.sp = s.sp ∧ s.identifyExpires.sb = s.sb ∧ s.identifyExpires.xm = s.xm ∧
    s.identifyExpires.clc = s.clc ∧ s.identifyExpires.chg = s.chg ∧ s.identifyExpires.pending = s.pending := by
  simp only [State.identifyExpires]; (repeat' split) <;> (try simp)

/-- `State.gradeSet` changes no block but `cp`, `sb`, `lp`, `clc`. -/
@[simp] theorem State.gradeSet_frame (e : EccRead) :
    (s.gradeSet e).powered = s.powered ∧ (s.gradeSet e).me = s.me ∧ (s.gradeSet e).wu = s.wu ∧
    (s.gradeSet e).sp = s.sp ∧ (s.gradeSet e).xm = s.xm ∧ (s.gradeSet e).chg = s.chg ∧
    (s.gradeSet e).smn = s.smn ∧ (s.gradeSet e).pending = s.pending := by
  simp only [State.gradeSet]; (repeat' split) <;> (try simp)

/-- `State.takeGradeAnswer` changes no block but `cp`, `sb`, `lp`, `clc`. -/
@[simp] theorem State.takeGradeAnswer_frame (e : EccRead) :
    (s.takeGradeAnswer e).powered = s.powered ∧ (s.takeGradeAnswer e).me = s.me ∧
    (s.takeGradeAnswer e).wu = s.wu ∧ (s.takeGradeAnswer e).sp = s.sp ∧ (s.takeGradeAnswer e).xm = s.xm ∧
    (s.takeGradeAnswer e).chg = s.chg ∧ (s.takeGradeAnswer e).smn = s.smn ∧
    (s.takeGradeAnswer e).pending = s.pending := by
  simp only [State.takeGradeAnswer]; (repeat' split) <;> (try simp)

/-- `State.gradeExpires` changes no block but `cp`, `sb`, `xm`, `lp`, `smn`. -/
@[simp] theorem State.gradeExpires_frame :
    s.gradeExpires.powered = s.powered ∧ s.gradeExpires.me = s.me ∧ s.gradeExpires.wu = s.wu ∧
    s.gradeExpires.sp = s.sp ∧ s.gradeExpires.clc = s.clc ∧ s.gradeExpires.chg = s.chg ∧
    s.gradeExpires.pending = s.pending := by
  simp only [State.gradeExpires]; (repeat' split) <;> (try simp)

/-- `State.writeStarts` changes no block but `cp`, `sb`, `lp`, `clc`. -/
@[simp] theorem State.writeStarts_frame (e : EccRead) :
    (s.writeStarts e).powered = s.powered ∧ (s.writeStarts e).me = s.me ∧ (s.writeStarts e).wu = s.wu ∧
    (s.writeStarts e).sp = s.sp ∧ (s.writeStarts e).xm = s.xm ∧ (s.writeStarts e).chg = s.chg ∧
    (s.writeStarts e).smn = s.smn ∧ (s.writeStarts e).pending = s.pending := by
  simp only [State.writeStarts]; (repeat' split) <;> (try simp)

/-- `State.takeBlockAnswer` changes no block but `cp`, `sb`, `lp`, `clc`. -/
@[simp] theorem State.takeBlockAnswer_frame (b : BlockResult) (e : EccRead) :
    (s.takeBlockAnswer b e).powered = s.powered ∧ (s.takeBlockAnswer b e).me = s.me ∧
    (s.takeBlockAnswer b e).wu = s.wu ∧ (s.takeBlockAnswer b e).sp = s.sp ∧ (s.takeBlockAnswer b e).xm = s.xm ∧
    (s.takeBlockAnswer b e).chg = s.chg ∧ (s.takeBlockAnswer b e).smn = s.smn ∧
    (s.takeBlockAnswer b e).pending = s.pending := by
  simp only [State.takeBlockAnswer]; (repeat' split) <;> (try simp)

/-- `State.blockExpires` changes no block but `cp`, `lp`, `smn`. -/
@[simp] theorem State.blockExpires_frame :
    s.blockExpires.powered = s.powered ∧ s.blockExpires.me = s.me ∧ s.blockExpires.wu = s.wu ∧
    s.blockExpires.sp = s.sp ∧ s.blockExpires.sb = s.sb ∧ s.blockExpires.xm = s.xm ∧
    s.blockExpires.clc = s.clc ∧ s.blockExpires.chg = s.chg ∧ s.blockExpires.pending = s.pending := by
  simp only [State.blockExpires]; (repeat' split) <;> (try simp)

/-- `State.busyExpires` changes no block but `cp`, `lp`, `smn`. -/
@[simp] theorem State.busyExpires_frame :
    s.busyExpires.powered = s.powered ∧ s.busyExpires.me = s.me ∧ s.busyExpires.wu = s.wu ∧
    s.busyExpires.sp = s.sp ∧ s.busyExpires.sb = s.sb ∧ s.busyExpires.xm = s.xm ∧ s.busyExpires.clc = s.clc ∧
    s.busyExpires.chg = s.chg ∧ s.busyExpires.pending = s.pending := by
  simp only [State.busyExpires]; (repeat' split) <;> (try simp)

/-- `State.finishWrite` changes no block but `me`, `wu`, `sp`, `lp`, `sb`, `cp`, `clc`, `smn`, `xm`. -/
@[simp] theorem State.finishWrite_frame (w : SlotWrite) :
    (s.finishWrite w).powered = s.powered ∧ (s.finishWrite w).chg = s.chg ∧
    (s.finishWrite w).pending = s.pending := by
  simp only [State.finishWrite]; (repeat' split) <;> (try simp)

/-- `State.takeReady` changes no block but `me`, `wu`, `sp`, `lp`, `sb`, `cp`, `clc`, `smn`, `xm`. -/
@[simp] theorem State.takeReady_frame (m : ReportMoment) (e : EccRead) :
    (s.takeReady m e).powered = s.powered ∧ (s.takeReady m e).chg = s.chg ∧
    (s.takeReady m e).pending = s.pending := by
  simp only [State.takeReady]; (repeat' split) <;> (try simp)

/-- `State.stopExpires` changes no block but `cp`, `sb`, `xm`, `lp`, `smn`. -/
@[simp] theorem State.stopExpires_frame :
    s.stopExpires.powered = s.powered ∧ s.stopExpires.me = s.me ∧ s.stopExpires.wu = s.wu ∧
    s.stopExpires.sp = s.sp ∧ s.stopExpires.clc = s.clc ∧ s.stopExpires.chg = s.chg ∧
    s.stopExpires.pending = s.pending := by
  simp only [State.stopExpires]; (repeat' split) <;> (try simp)

/-- `State.setCardGrade` changes no block but `cp`. -/
@[simp] theorem State.setCardGrade_frame (v : Nat) :
    (s.setCardGrade v).1.powered = s.powered ∧ (s.setCardGrade v).1.me = s.me ∧
    (s.setCardGrade v).1.wu = s.wu ∧ (s.setCardGrade v).1.sp = s.sp ∧ (s.setCardGrade v).1.lp = s.lp ∧
    (s.setCardGrade v).1.sb = s.sb ∧ (s.setCardGrade v).1.xm = s.xm ∧ (s.setCardGrade v).1.clc = s.clc ∧
    (s.setCardGrade v).1.chg = s.chg ∧ (s.setCardGrade v).1.smn = s.smn ∧
    (s.setCardGrade v).1.pending = s.pending := by
  simp [State.setCardGrade]

/-- `State.markShock` changes no block but `sb`, `clc`, `lp`. -/
@[simp] theorem State.markShock_frame (p c : Nat) :
    (s.markShock p c).powered = s.powered ∧ (s.markShock p c).me = s.me ∧ (s.markShock p c).wu = s.wu ∧
    (s.markShock p c).sp = s.sp ∧ (s.markShock p c).xm = s.xm ∧ (s.markShock p c).cp = s.cp ∧
    (s.markShock p c).chg = s.chg ∧ (s.markShock p c).smn = s.smn ∧ (s.markShock p c).pending = s.pending := by
  simp only [State.markShock]; (repeat' split) <;> (try simp)

/-- `State.handleShock` changes no block but `me`, `sb`, `xm`, `clc`, `lp`. -/
@[simp] theorem State.handleShock_frame (p c : Nat) :
    (s.handleShock p c).powered = s.powered ∧ (s.handleShock p c).wu = s.wu ∧ (s.handleShock p c).sp = s.sp ∧
    (s.handleShock p c).cp = s.cp ∧ (s.handleShock p c).chg = s.chg ∧ (s.handleShock p c).smn = s.smn ∧
    (s.handleShock p c).pending = s.pending := by
  simp [State.handleShock]

/-- `State.testShock` changes no block but `me`, `sb`, `xm`, `clc`, `lp`. -/
@[simp] theorem State.testShock_frame (x : Sample) :
    (s.testShock x).powered = s.powered ∧ (s.testShock x).wu = s.wu ∧ (s.testShock x).sp = s.sp ∧
    (s.testShock x).cp = s.cp ∧ (s.testShock x).chg = s.chg ∧ (s.testShock x).smn = s.smn ∧
    (s.testShock x).pending = s.pending := by
  simp only [State.testShock]; (repeat' split) <;> (try simp)

/-- `State.takeMotionTable` changes no block but `me`, `lp`. -/
@[simp] theorem State.takeMotionTable_frame :
    s.takeMotionTable.powered = s.powered ∧ s.takeMotionTable.wu = s.wu ∧ s.takeMotionTable.sp = s.sp ∧
    s.takeMotionTable.sb = s.sb ∧ s.takeMotionTable.xm = s.xm ∧ s.takeMotionTable.cp = s.cp ∧
    s.takeMotionTable.clc = s.clc ∧ s.takeMotionTable.chg = s.chg ∧ s.takeMotionTable.smn = s.smn ∧
    s.takeMotionTable.pending = s.pending := by
  simp only [State.takeMotionTable]; (repeat' split) <;> (try simp)

/-- `State.loseMotion` changes no block but `me`, `lp`. -/
@[simp] theorem State.loseMotion_frame :
    s.loseMotion.powered = s.powered ∧ s.loseMotion.wu = s.wu ∧ s.loseMotion.sp = s.sp ∧
    s.loseMotion.sb = s.sb ∧ s.loseMotion.xm = s.xm ∧ s.loseMotion.cp = s.cp ∧ s.loseMotion.clc = s.clc ∧
    s.loseMotion.chg = s.chg ∧ s.loseMotion.smn = s.smn ∧ s.loseMotion.pending = s.pending := by
  simp [State.loseMotion]

/-- `State.returnMotion` changes no block but `me`, `lp`. -/
@[simp] theorem State.returnMotion_frame :
    s.returnMotion.powered = s.powered ∧ s.returnMotion.wu = s.wu ∧ s.returnMotion.sp = s.sp ∧
    s.returnMotion.sb = s.sb ∧ s.returnMotion.xm = s.xm ∧ s.returnMotion.cp = s.cp ∧
    s.returnMotion.clc = s.clc ∧ s.returnMotion.chg = s.chg ∧ s.returnMotion.smn = s.smn ∧
    s.returnMotion.pending = s.pending := by
  simp [State.returnMotion]

/-- `State.goodSample` changes no block but `me`, `lp`. -/
@[simp] theorem State.goodSample_frame (x : Sample) :
    (s.goodSample x).powered = s.powered ∧ (s.goodSample x).wu = s.wu ∧ (s.goodSample x).sp = s.sp ∧
    (s.goodSample x).sb = s.sb ∧ (s.goodSample x).xm = s.xm ∧ (s.goodSample x).cp = s.cp ∧
    (s.goodSample x).clc = s.clc ∧ (s.goodSample x).chg = s.chg ∧ (s.goodSample x).smn = s.smn ∧
    (s.goodSample x).pending = s.pending := by
  simp only [State.goodSample]; (repeat' split) <;> (try simp)

/-- `State.substituteSample` changes no block but `me`, `lp`. -/
@[simp] theorem State.substituteSample_frame (x : Sample) :
    (s.substituteSample x).powered = s.powered ∧ (s.substituteSample x).wu = s.wu ∧
    (s.substituteSample x).sp = s.sp ∧ (s.substituteSample x).sb = s.sb ∧ (s.substituteSample x).xm = s.xm ∧
    (s.substituteSample x).cp = s.cp ∧ (s.substituteSample x).clc = s.clc ∧
    (s.substituteSample x).chg = s.chg ∧ (s.substituteSample x).smn = s.smn ∧
    (s.substituteSample x).pending = s.pending := by
  simp only [State.substituteSample]; (repeat' split) <;> (try simp)

/-- `State.queueSample` changes no block but `me`, `sb`, `clc`, `lp`. -/
@[simp] theorem State.queueSample_frame (x : Sample) (b : Bool) :
    (s.queueSample x b).powered = s.powered ∧ (s.queueSample x b).wu = s.wu ∧ (s.queueSample x b).sp = s.sp ∧
    (s.queueSample x b).xm = s.xm ∧ (s.queueSample x b).cp = s.cp ∧ (s.queueSample x b).chg = s.chg ∧
    (s.queueSample x b).smn = s.smn ∧ (s.queueSample x b).pending = s.pending := by
  simp only [State.queueSample]; (repeat' split) <;> (try simp)

/-- `State.goodEvent` changes no block but `me`, `sb`, `xm`, `clc`, `lp`. -/
@[simp] theorem State.goodEvent_frame (x : Sample) :
    (s.goodEvent x).powered = s.powered ∧ (s.goodEvent x).wu = s.wu ∧ (s.goodEvent x).sp = s.sp ∧
    (s.goodEvent x).cp = s.cp ∧ (s.goodEvent x).chg = s.chg ∧ (s.goodEvent x).smn = s.smn ∧
    (s.goodEvent x).pending = s.pending := by
  simp [State.goodEvent]

/-- `State.substituteEvent` changes no block but `me`, `sb`, `clc`, `lp`. -/
@[simp] theorem State.substituteEvent_frame (x : Sample) :
    (s.substituteEvent x).powered = s.powered ∧ (s.substituteEvent x).wu = s.wu ∧
    (s.substituteEvent x).sp = s.sp ∧ (s.substituteEvent x).xm = s.xm ∧ (s.substituteEvent x).cp = s.cp ∧
    (s.substituteEvent x).chg = s.chg ∧ (s.substituteEvent x).smn = s.smn ∧
    (s.substituteEvent x).pending = s.pending := by
  simp [State.substituteEvent]

/-- `State.takeDataReady` changes no block but `me`, `lp`. -/
@[simp] theorem State.takeDataReady_frame :
    s.takeDataReady.powered = s.powered ∧ s.takeDataReady.wu = s.wu ∧ s.takeDataReady.sp = s.sp ∧
    s.takeDataReady.sb = s.sb ∧ s.takeDataReady.xm = s.xm ∧ s.takeDataReady.cp = s.cp ∧
    s.takeDataReady.clc = s.clc ∧ s.takeDataReady.chg = s.chg ∧ s.takeDataReady.smn = s.smn ∧
    s.takeDataReady.pending = s.pending := by
  simp only [State.takeDataReady]; (repeat' split) <;> (try simp)

/-- `State.takeSample` changes no block but `me`, `sb`, `xm`, `clc`, `lp`. -/
@[simp] theorem State.takeSample_frame (b : Burst) :
    (s.takeSample b).powered = s.powered ∧ (s.takeSample b).wu = s.wu ∧ (s.takeSample b).sp = s.sp ∧
    (s.takeSample b).cp = s.cp ∧ (s.takeSample b).chg = s.chg ∧ (s.takeSample b).smn = s.smn ∧
    (s.takeSample b).pending = s.pending := by
  simp only [State.takeSample]; (repeat' split) <;> (try simp)

/-- `State.takeGap` changes no block but `me`, `sb`, `clc`, `lp`, `smn`. -/
@[simp] theorem State.takeGap_frame :
    s.takeGap.powered = s.powered ∧ s.takeGap.wu = s.wu ∧ s.takeGap.sp = s.sp ∧ s.takeGap.xm = s.xm ∧
    s.takeGap.cp = s.cp ∧ s.takeGap.chg = s.chg ∧ s.takeGap.pending = s.pending := by
  simp only [State.takeGap]; (repeat' split) <;> (try simp)

/-- `State.loadMotion` changes no block but `me`. -/
@[simp] theorem State.loadMotion_frame (b : List Byte) :
    (s.loadMotion b).1.powered = s.powered ∧ (s.loadMotion b).1.wu = s.wu ∧ (s.loadMotion b).1.sp = s.sp ∧
    (s.loadMotion b).1.lp = s.lp ∧ (s.loadMotion b).1.sb = s.sb ∧ (s.loadMotion b).1.xm = s.xm ∧
    (s.loadMotion b).1.cp = s.cp ∧ (s.loadMotion b).1.clc = s.clc ∧ (s.loadMotion b).1.chg = s.chg ∧
    (s.loadMotion b).1.smn = s.smn ∧ (s.loadMotion b).1.pending = s.pending := by
  simp only [State.loadMotion, State.answered]; (repeat' split) <;> (try simp)

/-- `State.countClamped` changes no block but `lp`. -/
@[simp] theorem State.countClamped_frame (b : Bool) :
    (s.countClamped b).powered = s.powered ∧ (s.countClamped b).me = s.me ∧ (s.countClamped b).wu = s.wu ∧
    (s.countClamped b).sp = s.sp ∧ (s.countClamped b).sb = s.sb ∧ (s.countClamped b).xm = s.xm ∧
    (s.countClamped b).cp = s.cp ∧ (s.countClamped b).clc = s.clc ∧ (s.countClamped b).chg = s.chg ∧
    (s.countClamped b).smn = s.smn ∧ (s.countClamped b).pending = s.pending := by
  simp only [State.countClamped]; (repeat' split) <;> (try simp)

/-- `State.openFrame` changes no block but `me`, `wu`, `lp`. -/
@[simp] theorem State.openFrame_frame (w : WindowTable) :
    (s.openFrame w).powered = s.powered ∧ (s.openFrame w).sp = s.sp ∧ (s.openFrame w).sb = s.sb ∧
    (s.openFrame w).xm = s.xm ∧ (s.openFrame w).cp = s.cp ∧ (s.openFrame w).clc = s.clc ∧
    (s.openFrame w).chg = s.chg ∧ (s.openFrame w).smn = s.smn ∧ (s.openFrame w).pending = s.pending := by
  simp only [State.openFrame]; (repeat' split) <;> (try simp)

/-- `State.formBand` changes no block but `me`, `wu`, `lp`. -/
@[simp] theorem State.formBand_frame (w : WindowTable) (b : Nat) :
    (s.formBand w b).powered = s.powered ∧ (s.formBand w b).sp = s.sp ∧ (s.formBand w b).sb = s.sb ∧
    (s.formBand w b).xm = s.xm ∧ (s.formBand w b).cp = s.cp ∧ (s.formBand w b).clc = s.clc ∧
    (s.formBand w b).chg = s.chg ∧ (s.formBand w b).smn = s.smn ∧ (s.formBand w b).pending = s.pending := by
  simp only [State.formBand]; (repeat' split) <;> (try simp)

/-- `State.placeLine` changes no block but `lp`, `wu`. -/
@[simp] theorem State.placeLine_frame (c : PictureCell) :
    (s.placeLine c).powered = s.powered ∧ (s.placeLine c).me = s.me ∧ (s.placeLine c).sp = s.sp ∧
    (s.placeLine c).sb = s.sb ∧ (s.placeLine c).xm = s.xm ∧ (s.placeLine c).cp = s.cp ∧
    (s.placeLine c).clc = s.clc ∧ (s.placeLine c).chg = s.chg ∧ (s.placeLine c).smn = s.smn ∧
    (s.placeLine c).pending = s.pending := by
  simp only [State.placeLine]; (repeat' split) <;> (try simp)

/-- `State.placeFrameEnd` changes no block but `lp`. -/
@[simp] theorem State.placeFrameEnd_frame (c : PictureCell) :
    (s.placeFrameEnd c).powered = s.powered ∧ (s.placeFrameEnd c).me = s.me ∧ (s.placeFrameEnd c).wu = s.wu ∧
    (s.placeFrameEnd c).sp = s.sp ∧ (s.placeFrameEnd c).sb = s.sb ∧ (s.placeFrameEnd c).xm = s.xm ∧
    (s.placeFrameEnd c).cp = s.cp ∧ (s.placeFrameEnd c).clc = s.clc ∧ (s.placeFrameEnd c).chg = s.chg ∧
    (s.placeFrameEnd c).smn = s.smn ∧ (s.placeFrameEnd c).pending = s.pending := by
  simp only [State.placeFrameEnd]; (repeat' split) <;> (try simp)

/-- `State.countShort` changes no block but `lp`. -/
@[simp] theorem State.countShort_frame (b : Bool) :
    (s.countShort b).powered = s.powered ∧ (s.countShort b).me = s.me ∧ (s.countShort b).wu = s.wu ∧
    (s.countShort b).sp = s.sp ∧ (s.countShort b).sb = s.sb ∧ (s.countShort b).xm = s.xm ∧
    (s.countShort b).cp = s.cp ∧ (s.countShort b).clc = s.clc ∧ (s.countShort b).chg = s.chg ∧
    (s.countShort b).smn = s.smn ∧ (s.countShort b).pending = s.pending := by
  simp only [State.countShort]; (repeat' split) <;> (try simp)

/-- `State.handFrame` changes no block but `sb`, `clc`, `lp`. -/
@[simp] theorem State.handFrame_frame (f : FrameRecord) :
    (s.handFrame f).powered = s.powered ∧ (s.handFrame f).me = s.me ∧ (s.handFrame f).wu = s.wu ∧
    (s.handFrame f).sp = s.sp ∧ (s.handFrame f).xm = s.xm ∧ (s.handFrame f).cp = s.cp ∧
    (s.handFrame f).chg = s.chg ∧ (s.handFrame f).smn = s.smn ∧ (s.handFrame f).pending = s.pending := by
  simp only [State.handFrame]; (repeat' split) <;> (try simp)

/-- `State.closeFrame` changes no block but `lp`, `wu`, `sb`, `clc`. -/
@[simp] theorem State.closeFrame_frame (b : Bool) :
    (s.closeFrame b).powered = s.powered ∧ (s.closeFrame b).me = s.me ∧ (s.closeFrame b).sp = s.sp ∧
    (s.closeFrame b).xm = s.xm ∧ (s.closeFrame b).cp = s.cp ∧ (s.closeFrame b).chg = s.chg ∧
    (s.closeFrame b).smn = s.smn ∧ (s.closeFrame b).pending = s.pending := by
  simp only [State.closeFrame]; (repeat' split) <;> (try simp)

/-- `State.takeLens` changes no block but `wu`, `lp`. -/
@[simp] theorem State.takeLens_frame :
    s.takeLens.powered = s.powered ∧ s.takeLens.me = s.me ∧ s.takeLens.sp = s.sp ∧ s.takeLens.sb = s.sb ∧
    s.takeLens.xm = s.xm ∧ s.takeLens.cp = s.cp ∧ s.takeLens.clc = s.clc ∧ s.takeLens.chg = s.chg ∧
    s.takeLens.smn = s.smn ∧ s.takeLens.pending = s.pending := by
  simp only [State.takeLens]; (repeat' split) <;> (try simp)

/-- `State.takeWindow` changes no block but `wu`, `lp`. -/
@[simp] theorem State.takeWindow_frame :
    s.takeWindow.powered = s.powered ∧ s.takeWindow.me = s.me ∧ s.takeWindow.sp = s.sp ∧
    s.takeWindow.sb = s.sb ∧ s.takeWindow.xm = s.xm ∧ s.takeWindow.cp = s.cp ∧ s.takeWindow.clc = s.clc ∧
    s.takeWindow.chg = s.chg ∧ s.takeWindow.smn = s.smn ∧ s.takeWindow.pending = s.pending := by
  simp only [State.takeWindow]; (repeat' split) <;> (try simp)

/-- `State.startRecordFrame` changes no block but `me`, `wu`, `lp`, `sp`. -/
@[simp] theorem State.startRecordFrame_frame :
    s.startRecordFrame.powered = s.powered ∧ s.startRecordFrame.sb = s.sb ∧ s.startRecordFrame.xm = s.xm ∧
    s.startRecordFrame.cp = s.cp ∧ s.startRecordFrame.clc = s.clc ∧ s.startRecordFrame.chg = s.chg ∧
    s.startRecordFrame.smn = s.smn ∧ s.startRecordFrame.pending = s.pending := by
  simp only [State.startRecordFrame]; (repeat' split) <;> (try simp)

/-- `State.endFrame` changes no block but `sp`, `lp`, `wu`, `sb`, `clc`. -/
@[simp] theorem State.endFrame_frame (b : Bool) :
    (s.endFrame b).powered = s.powered ∧ (s.endFrame b).me = s.me ∧ (s.endFrame b).xm = s.xm ∧
    (s.endFrame b).cp = s.cp ∧ (s.endFrame b).chg = s.chg ∧ (s.endFrame b).smn = s.smn ∧
    (s.endFrame b).pending = s.pending := by
  simp [State.endFrame]

/-- `State.takeFrameStart` changes no block but `me`, `wu`, `sp`, `lp`, `sb`, `clc`. -/
@[simp] theorem State.takeFrameStart_frame :
    s.takeFrameStart.powered = s.powered ∧ s.takeFrameStart.xm = s.xm ∧ s.takeFrameStart.cp = s.cp ∧
    s.takeFrameStart.chg = s.chg ∧ s.takeFrameStart.smn = s.smn ∧ s.takeFrameStart.pending = s.pending := by
  simp only [State.takeFrameStart]; (repeat' split) <;> (try simp)

/-- `State.takeFrameEnd` changes no block but `sp`, `lp`, `wu`, `sb`, `clc`. -/
@[simp] theorem State.takeFrameEnd_frame :
    s.takeFrameEnd.powered = s.powered ∧ s.takeFrameEnd.me = s.me ∧ s.takeFrameEnd.xm = s.xm ∧
    s.takeFrameEnd.cp = s.cp ∧ s.takeFrameEnd.chg = s.chg ∧ s.takeFrameEnd.smn = s.smn ∧
    s.takeFrameEnd.pending = s.pending := by
  simp only [State.takeFrameEnd]; (repeat' split) <;> (try simp)

/-- `State.outputLine` changes no block but `lp`, `wu`. -/
@[simp] theorem State.outputLine_frame (w : WindowTable) (l b : Nat) (p : List Pixel) (a : Bool) :
    (s.outputLine w l b p a).powered = s.powered ∧ (s.outputLine w l b p a).me = s.me ∧
    (s.outputLine w l b p a).sp = s.sp ∧ (s.outputLine w l b p a).sb = s.sb ∧
    (s.outputLine w l b p a).xm = s.xm ∧ (s.outputLine w l b p a).cp = s.cp ∧
    (s.outputLine w l b p a).clc = s.clc ∧ (s.outputLine w l b p a).chg = s.chg ∧
    (s.outputLine w l b p a).smn = s.smn ∧ (s.outputLine w l b p a).pending = s.pending := by
  simp only [State.outputLine]; (repeat' split) <;> (try simp)

/-- `State.countAdjusted` changes no block but `lp`. -/
@[simp] theorem State.countAdjusted_frame (b : Bool) :
    (s.countAdjusted b).powered = s.powered ∧ (s.countAdjusted b).me = s.me ∧ (s.countAdjusted b).wu = s.wu ∧
    (s.countAdjusted b).sp = s.sp ∧ (s.countAdjusted b).sb = s.sb ∧ (s.countAdjusted b).xm = s.xm ∧
    (s.countAdjusted b).cp = s.cp ∧ (s.countAdjusted b).clc = s.clc ∧ (s.countAdjusted b).chg = s.chg ∧
    (s.countAdjusted b).smn = s.smn ∧ (s.countAdjusted b).pending = s.pending := by
  simp only [State.countAdjusted]; (repeat' split) <;> (try simp)

/-- `State.startBand` changes no block but `me`, `wu`, `lp`. -/
@[simp] theorem State.startBand_frame (w : WindowTable) (b : Nat) :
    (s.startBand w b).powered = s.powered ∧ (s.startBand w b).sp = s.sp ∧ (s.startBand w b).sb = s.sb ∧
    (s.startBand w b).xm = s.xm ∧ (s.startBand w b).cp = s.cp ∧ (s.startBand w b).clc = s.clc ∧
    (s.startBand w b).chg = s.chg ∧ (s.startBand w b).smn = s.smn ∧ (s.startBand w b).pending = s.pending := by
  simp only [State.startBand]; (repeat' split) <;> (try simp)

/-- `State.takenLine` changes no block but `me`, `wu`, `lp`. -/
@[simp] theorem State.takenLine_frame (w : WindowTable) (l : Nat) (p : List Pixel) :
    (s.takenLine w l p).powered = s.powered ∧ (s.takenLine w l p).sp = s.sp ∧ (s.takenLine w l p).sb = s.sb ∧
    (s.takenLine w l p).xm = s.xm ∧ (s.takenLine w l p).cp = s.cp ∧ (s.takenLine w l p).clc = s.clc ∧
    (s.takenLine w l p).chg = s.chg ∧ (s.takenLine w l p).smn = s.smn ∧
    (s.takenLine w l p).pending = s.pending := by
  simp [State.takenLine]

/-- `State.sortLine` changes no block but `me`, `wu`, `lp`, `sp`. -/
@[simp] theorem State.sortLine_frame (l : Nat) (p : List Pixel) :
    (s.sortLine l p).powered = s.powered ∧ (s.sortLine l p).sb = s.sb ∧ (s.sortLine l p).xm = s.xm ∧
    (s.sortLine l p).cp = s.cp ∧ (s.sortLine l p).clc = s.clc ∧ (s.sortLine l p).chg = s.chg ∧
    (s.sortLine l p).smn = s.smn ∧ (s.sortLine l p).pending = s.pending := by
  simp only [State.sortLine]; (repeat' split) <;> (try simp)

/-- `State.takeLine` changes no block but `me`, `wu`, `lp`, `sp`. -/
@[simp] theorem State.takeLine_frame (i : BitVec 12) (p : List Pixel) :
    (s.takeLine i p).powered = s.powered ∧ (s.takeLine i p).sb = s.sb ∧ (s.takeLine i p).xm = s.xm ∧
    (s.takeLine i p).cp = s.cp ∧ (s.takeLine i p).clc = s.clc ∧ (s.takeLine i p).chg = s.chg ∧
    (s.takeLine i p).smn = s.smn ∧ (s.takeLine i p).pending = s.pending := by
  simp only [State.takeLine]; (repeat' split) <;> (try simp)

/-- `State.loadLens` changes no block but `wu`. -/
@[simp] theorem State.loadLens_frame (b : List Byte) :
    (s.loadLens b).1.powered = s.powered ∧ (s.loadLens b).1.me = s.me ∧ (s.loadLens b).1.sp = s.sp ∧
    (s.loadLens b).1.lp = s.lp ∧ (s.loadLens b).1.sb = s.sb ∧ (s.loadLens b).1.xm = s.xm ∧
    (s.loadLens b).1.cp = s.cp ∧ (s.loadLens b).1.clc = s.clc ∧ (s.loadLens b).1.chg = s.chg ∧
    (s.loadLens b).1.smn = s.smn ∧ (s.loadLens b).1.pending = s.pending := by
  simp only [State.loadLens, State.answered]; (repeat' split) <;> (try simp)

/-- `State.loadWindow` changes no block but `wu`. -/
@[simp] theorem State.loadWindow_frame (b : List Byte) :
    (s.loadWindow b).1.powered = s.powered ∧ (s.loadWindow b).1.me = s.me ∧ (s.loadWindow b).1.sp = s.sp ∧
    (s.loadWindow b).1.lp = s.lp ∧ (s.loadWindow b).1.sb = s.sb ∧ (s.loadWindow b).1.xm = s.xm ∧
    (s.loadWindow b).1.cp = s.cp ∧ (s.loadWindow b).1.clc = s.clc ∧ (s.loadWindow b).1.chg = s.chg ∧
    (s.loadWindow b).1.smn = s.smn ∧ (s.loadWindow b).1.pending = s.pending := by
  simp only [State.loadWindow, State.answered]; (repeat' split) <;> (try simp)

/-- `State.beginSweep` changes no block but `smn`. -/
@[simp] theorem State.beginSweep_frame (r : Readings) :
    (s.beginSweep r).powered = s.powered ∧ (s.beginSweep r).me = s.me ∧ (s.beginSweep r).wu = s.wu ∧
    (s.beginSweep r).sp = s.sp ∧ (s.beginSweep r).lp = s.lp ∧ (s.beginSweep r).sb = s.sb ∧
    (s.beginSweep r).xm = s.xm ∧ (s.beginSweep r).cp = s.cp ∧ (s.beginSweep r).clc = s.clc ∧
    (s.beginSweep r).chg = s.chg ∧ (s.beginSweep r).pending = s.pending := by
  simp only [State.beginSweep]; (repeat' split) <;> (try simp)

/-- `State.takeProfile` changes no block but `chg`, `lp`. -/
@[simp] theorem State.takeProfile_frame :
    s.takeProfile.powered = s.powered ∧ s.takeProfile.me = s.me ∧ s.takeProfile.wu = s.wu ∧
    s.takeProfile.sp = s.sp ∧ s.takeProfile.sb = s.sb ∧ s.takeProfile.xm = s.xm ∧ s.takeProfile.cp = s.cp ∧
    s.takeProfile.clc = s.clc ∧ s.takeProfile.smn = s.smn ∧ s.takeProfile.pending = s.pending := by
  simp only [State.takeProfile]; (repeat' split) <;> (try simp)

/-- `State.moveCharger` changes no block but `chg`, `lp`. -/
@[simp] theorem State.moveCharger_frame (c : ChargerState) (r : Option ChargeReason) :
    (s.moveCharger c r).powered = s.powered ∧ (s.moveCharger c r).me = s.me ∧ (s.moveCharger c r).wu = s.wu ∧
    (s.moveCharger c r).sp = s.sp ∧ (s.moveCharger c r).sb = s.sb ∧ (s.moveCharger c r).xm = s.xm ∧
    (s.moveCharger c r).cp = s.cp ∧ (s.moveCharger c r).clc = s.clc ∧ (s.moveCharger c r).smn = s.smn ∧
    (s.moveCharger c r).pending = s.pending := by
  simp only [State.moveCharger]; (repeat' split) <;> (try simp)

/-- `State.chargeStart` changes no block but `chg`, `lp`. -/
@[simp] theorem State.chargeStart_frame (r : Readings) :
    (s.chargeStart r).powered = s.powered ∧ (s.chargeStart r).me = s.me ∧ (s.chargeStart r).wu = s.wu ∧
    (s.chargeStart r).sp = s.sp ∧ (s.chargeStart r).sb = s.sb ∧ (s.chargeStart r).xm = s.xm ∧
    (s.chargeStart r).cp = s.cp ∧ (s.chargeStart r).clc = s.clc ∧ (s.chargeStart r).smn = s.smn ∧
    (s.chargeStart r).pending = s.pending := by
  simp [State.chargeStart]

/-- `State.openSwitch` changes no block but `chg`, `lp`. -/
@[simp] theorem State.openSwitch_frame (r : ChargeReason) :
    (s.openSwitch r).powered = s.powered ∧ (s.openSwitch r).me = s.me ∧ (s.openSwitch r).wu = s.wu ∧
    (s.openSwitch r).sp = s.sp ∧ (s.openSwitch r).sb = s.sb ∧ (s.openSwitch r).xm = s.xm ∧
    (s.openSwitch r).cp = s.cp ∧ (s.openSwitch r).clc = s.clc ∧ (s.openSwitch r).smn = s.smn ∧
    (s.openSwitch r).pending = s.pending := by
  simp [State.openSwitch]

/-- `State.inputArrives` changes no block but `smn`, `sb`. -/
@[simp] theorem State.inputArrives_frame :
    s.inputArrives.powered = s.powered ∧ s.inputArrives.me = s.me ∧ s.inputArrives.wu = s.wu ∧
    s.inputArrives.sp = s.sp ∧ s.inputArrives.lp = s.lp ∧ s.inputArrives.xm = s.xm ∧ s.inputArrives.cp = s.cp ∧
    s.inputArrives.clc = s.clc ∧ s.inputArrives.chg = s.chg ∧ s.inputArrives.pending = s.pending := by
  simp only [State.inputArrives]; (repeat' split) <;> (try simp)

/-- `State.admitInput` changes no block but `chg`, `lp`, `smn`, `sb`. -/
@[simp] theorem State.admitInput_frame (r : Readings) :
    (s.admitInput r).powered = s.powered ∧ (s.admitInput r).me = s.me ∧ (s.admitInput r).wu = s.wu ∧
    (s.admitInput r).sp = s.sp ∧ (s.admitInput r).xm = s.xm ∧ (s.admitInput r).cp = s.cp ∧
    (s.admitInput r).clc = s.clc ∧ (s.admitInput r).pending = s.pending := by
  simp [State.admitInput]

/-- `State.qualifySweep` changes no block but `chg`, `lp`, `smn`, `sb`. -/
@[simp] theorem State.qualifySweep_frame (r : Readings) :
    (s.qualifySweep r).powered = s.powered ∧ (s.qualifySweep r).me = s.me ∧ (s.qualifySweep r).wu = s.wu ∧
    (s.qualifySweep r).sp = s.sp ∧ (s.qualifySweep r).xm = s.xm ∧ (s.qualifySweep r).cp = s.cp ∧
    (s.qualifySweep r).clc = s.clc ∧ (s.qualifySweep r).pending = s.pending := by
  simp only [State.qualifySweep]; (repeat' split) <;> (try simp)

/-- `State.openInput` changes no block but `chg`, `lp`, `smn`, `sb`. -/
@[simp] theorem State.openInput_frame (r : Readings) :
    (s.openInput r).powered = s.powered ∧ (s.openInput r).me = s.me ∧ (s.openInput r).wu = s.wu ∧
    (s.openInput r).sp = s.sp ∧ (s.openInput r).xm = s.xm ∧ (s.openInput r).cp = s.cp ∧
    (s.openInput r).clc = s.clc ∧ (s.openInput r).pending = s.pending := by
  simp only [State.openInput]; (repeat' split) <;> (try simp)

/-- `State.testInput` changes no block but `chg`, `lp`, `smn`, `sb`. -/
@[simp] theorem State.testInput_frame (r : Readings) :
    (s.testInput r).powered = s.powered ∧ (s.testInput r).me = s.me ∧ (s.testInput r).wu = s.wu ∧
    (s.testInput r).sp = s.sp ∧ (s.testInput r).xm = s.xm ∧ (s.testInput r).cp = s.cp ∧
    (s.testInput r).clc = s.clc ∧ (s.testInput r).pending = s.pending := by
  simp only [State.testInput]; (repeat' split) <;> (try simp)

/-- `State.closeIfActive` changes no block but `me`, `sb`, `clc`. -/
@[simp] theorem State.closeIfActive_frame (r : PowerReason) :
    (s.closeIfActive r).powered = s.powered ∧ (s.closeIfActive r).wu = s.wu ∧ (s.closeIfActive r).sp = s.sp ∧
    (s.closeIfActive r).lp = s.lp ∧ (s.closeIfActive r).xm = s.xm ∧ (s.closeIfActive r).cp = s.cp ∧
    (s.closeIfActive r).chg = s.chg ∧ (s.closeIfActive r).smn = s.smn ∧
    (s.closeIfActive r).pending = s.pending := by
  simp only [State.closeIfActive]; (repeat' split) <;> (try simp)

/-- `State.batteryMoved` changes no block but `lp`, `me`, `sb`, `clc`. -/
@[simp] theorem State.batteryMoved_frame (o : BatteryLevel) (v : Int) :
    (s.batteryMoved o v).powered = s.powered ∧ (s.batteryMoved o v).wu = s.wu ∧
    (s.batteryMoved o v).sp = s.sp ∧ (s.batteryMoved o v).xm = s.xm ∧ (s.batteryMoved o v).cp = s.cp ∧
    (s.batteryMoved o v).chg = s.chg ∧ (s.batteryMoved o v).smn = s.smn ∧
    (s.batteryMoved o v).pending = s.pending := by
  simp only [State.batteryMoved]; (repeat' split) <;> (try simp)

/-- `State.classifyBattery` changes no block but `lp`, `me`, `sb`, `clc`, `smn`. -/
@[simp] theorem State.classifyBattery_frame (r : Readings) :
    (s.classifyBattery r).powered = s.powered ∧ (s.classifyBattery r).wu = s.wu ∧
    (s.classifyBattery r).sp = s.sp ∧ (s.classifyBattery r).xm = s.xm ∧ (s.classifyBattery r).cp = s.cp ∧
    (s.classifyBattery r).chg = s.chg ∧ (s.classifyBattery r).pending = s.pending := by
  simp only [State.classifyBattery]; (repeat' split) <;> (try simp)

/-- `State.dieMoved` changes no block but `lp`, `me`, `sb`, `clc`. -/
@[simp] theorem State.dieMoved_frame (o : DieLevel) :
    (s.dieMoved o).powered = s.powered ∧ (s.dieMoved o).wu = s.wu ∧ (s.dieMoved o).sp = s.sp ∧
    (s.dieMoved o).xm = s.xm ∧ (s.dieMoved o).cp = s.cp ∧ (s.dieMoved o).chg = s.chg ∧
    (s.dieMoved o).smn = s.smn ∧ (s.dieMoved o).pending = s.pending := by
  simp only [State.dieMoved]; (repeat' split) <;> (try simp)

/-- `State.classifyDie` changes no block but `lp`, `me`, `sb`, `clc`, `smn`. -/
@[simp] theorem State.classifyDie_frame (r : Readings) :
    (s.classifyDie r).powered = s.powered ∧ (s.classifyDie r).wu = s.wu ∧ (s.classifyDie r).sp = s.sp ∧
    (s.classifyDie r).xm = s.xm ∧ (s.classifyDie r).cp = s.cp ∧ (s.classifyDie r).chg = s.chg ∧
    (s.classifyDie r).pending = s.pending := by
  simp [State.classifyDie]

/-- `State.taperSweep` changes no block but `chg`, `lp`. -/
@[simp] theorem State.taperSweep_frame (r : Readings) :
    (s.taperSweep r).powered = s.powered ∧ (s.taperSweep r).me = s.me ∧ (s.taperSweep r).wu = s.wu ∧
    (s.taperSweep r).sp = s.sp ∧ (s.taperSweep r).sb = s.sb ∧ (s.taperSweep r).xm = s.xm ∧
    (s.taperSweep r).cp = s.cp ∧ (s.taperSweep r).clc = s.clc ∧ (s.taperSweep r).smn = s.smn ∧
    (s.taperSweep r).pending = s.pending := by
  simp only [State.taperSweep]; (repeat' split) <;> (try simp)

/-- `State.rowStep` changes no block but `chg`, `lp`. -/
@[simp] theorem State.rowStep_frame (r : Readings) (w : ProfileRow) :
    (s.rowStep r w).powered = s.powered ∧ (s.rowStep r w).me = s.me ∧ (s.rowStep r w).wu = s.wu ∧
    (s.rowStep r w).sp = s.sp ∧ (s.rowStep r w).sb = s.sb ∧ (s.rowStep r w).xm = s.xm ∧
    (s.rowStep r w).cp = s.cp ∧ (s.rowStep r w).clc = s.clc ∧ (s.rowStep r w).smn = s.smn ∧
    (s.rowStep r w).pending = s.pending := by
  simp only [State.rowStep]; (repeat' split) <;> (try simp)

/-- `State.pauseStep` changes no block but `chg`, `lp`. -/
@[simp] theorem State.pauseStep_frame (x : Int) :
    (s.pauseStep x).powered = s.powered ∧ (s.pauseStep x).me = s.me ∧ (s.pauseStep x).wu = s.wu ∧
    (s.pauseStep x).sp = s.sp ∧ (s.pauseStep x).sb = s.sb ∧ (s.pauseStep x).xm = s.xm ∧
    (s.pauseStep x).cp = s.cp ∧ (s.pauseStep x).clc = s.clc ∧ (s.pauseStep x).smn = s.smn ∧
    (s.pauseStep x).pending = s.pending := by
  simp only [State.pauseStep]; (repeat' split) <;> (try simp)

/-- `State.absentStep` changes no block but `chg`, `lp`. -/
@[simp] theorem State.absentStep_frame :
    s.absentStep.powered = s.powered ∧ s.absentStep.me = s.me ∧ s.absentStep.wu = s.wu ∧
    s.absentStep.sp = s.sp ∧ s.absentStep.sb = s.sb ∧ s.absentStep.xm = s.xm ∧ s.absentStep.cp = s.cp ∧
    s.absentStep.clc = s.clc ∧ s.absentStep.smn = s.smn ∧ s.absentStep.pending = s.pending := by
  simp only [State.absentStep]; (repeat' split) <;> (try simp)

/-- `State.faultStep` changes no block but `chg`, `lp`. -/
@[simp] theorem State.faultStep_frame (r : Readings) :
    (s.faultStep r).powered = s.powered ∧ (s.faultStep r).me = s.me ∧ (s.faultStep r).wu = s.wu ∧
    (s.faultStep r).sp = s.sp ∧ (s.faultStep r).sb = s.sb ∧ (s.faultStep r).xm = s.xm ∧
    (s.faultStep r).cp = s.cp ∧ (s.faultStep r).clc = s.clc ∧ (s.faultStep r).smn = s.smn ∧
    (s.faultStep r).pending = s.pending := by
  simp only [State.faultStep]; (repeat' split) <;> (try simp)

/-- `State.chargeStep` changes no block but `chg`, `lp`. -/
@[simp] theorem State.chargeStep_frame (r : Readings) :
    (s.chargeStep r).powered = s.powered ∧ (s.chargeStep r).me = s.me ∧ (s.chargeStep r).wu = s.wu ∧
    (s.chargeStep r).sp = s.sp ∧ (s.chargeStep r).sb = s.sb ∧ (s.chargeStep r).xm = s.xm ∧
    (s.chargeStep r).cp = s.cp ∧ (s.chargeStep r).clc = s.clc ∧ (s.chargeStep r).smn = s.smn ∧
    (s.chargeStep r).pending = s.pending := by
  simp only [State.chargeStep]; (repeat' split) <;> (try simp)

/-- `State.timerFault` changes no block but `chg`, `lp`. -/
@[simp] theorem State.timerFault_frame (r : ChargeReason) :
    (s.timerFault r).powered = s.powered ∧ (s.timerFault r).me = s.me ∧ (s.timerFault r).wu = s.wu ∧
    (s.timerFault r).sp = s.sp ∧ (s.timerFault r).sb = s.sb ∧ (s.timerFault r).xm = s.xm ∧
    (s.timerFault r).cp = s.cp ∧ (s.timerFault r).clc = s.clc ∧ (s.timerFault r).smn = s.smn ∧
    (s.timerFault r).pending = s.pending := by
  simp [State.timerFault]

/-- `State.prechargeTick` changes no block but `chg`, `lp`. -/
@[simp] theorem State.prechargeTick_frame :
    s.prechargeTick.powered = s.powered ∧ s.prechargeTick.me = s.me ∧ s.prechargeTick.wu = s.wu ∧
    s.prechargeTick.sp = s.sp ∧ s.prechargeTick.sb = s.sb ∧ s.prechargeTick.xm = s.xm ∧
    s.prechargeTick.cp = s.cp ∧ s.prechargeTick.clc = s.clc ∧ s.prechargeTick.smn = s.smn ∧
    s.prechargeTick.pending = s.pending := by
  simp only [State.prechargeTick]; (repeat' split) <;> (try simp)

/-- `State.fastTick` changes no block but `chg`, `lp`. -/
@[simp] theorem State.fastTick_frame :
    s.fastTick.powered = s.powered ∧ s.fastTick.me = s.me ∧ s.fastTick.wu = s.wu ∧ s.fastTick.sp = s.sp ∧
    s.fastTick.sb = s.sb ∧ s.fastTick.xm = s.xm ∧ s.fastTick.cp = s.cp ∧ s.fastTick.clc = s.clc ∧
    s.fastTick.smn = s.smn ∧ s.fastTick.pending = s.pending := by
  simp only [State.fastTick]; (repeat' split) <;> (try simp)

/-- `State.tickTimers` changes no block but `chg`, `lp`. -/
@[simp] theorem State.tickTimers_frame :
    s.tickTimers.powered = s.powered ∧ s.tickTimers.me = s.me ∧ s.tickTimers.wu = s.wu ∧
    s.tickTimers.sp = s.sp ∧ s.tickTimers.sb = s.sb ∧ s.tickTimers.xm = s.xm ∧ s.tickTimers.cp = s.cp ∧
    s.tickTimers.clc = s.clc ∧ s.tickTimers.smn = s.smn ∧ s.tickTimers.pending = s.pending := by
  simp only [State.tickTimers]; (repeat' split) <;> (try simp)

/-- `State.sweepHead` changes no block but `smn`, `chg`, `lp`, `sb`, `me`, `clc`. -/
@[simp] theorem State.sweepHead_frame (r : Readings) :
    (s.sweepHead r).powered = s.powered ∧ (s.sweepHead r).wu = s.wu ∧ (s.sweepHead r).sp = s.sp ∧
    (s.sweepHead r).xm = s.xm ∧ (s.sweepHead r).cp = s.cp ∧ (s.sweepHead r).pending = s.pending := by
  simp [State.sweepHead]

/-- `State.setInputLimit` changes no block but `chg`. -/
@[simp] theorem State.setInputLimit_frame (v : Nat) :
    (s.setInputLimit v).1.powered = s.powered ∧ (s.setInputLimit v).1.me = s.me ∧
    (s.setInputLimit v).1.wu = s.wu ∧ (s.setInputLimit v).1.sp = s.sp ∧ (s.setInputLimit v).1.lp = s.lp ∧
    (s.setInputLimit v).1.sb = s.sb ∧ (s.setInputLimit v).1.xm = s.xm ∧ (s.setInputLimit v).1.cp = s.cp ∧
    (s.setInputLimit v).1.clc = s.clc ∧ (s.setInputLimit v).1.smn = s.smn ∧
    (s.setInputLimit v).1.pending = s.pending := by
  simp [State.setInputLimit]

/-- `State.restartCharge` changes no block but `chg`, `lp`. -/
@[simp] theorem State.restartCharge_frame :
    s.restartCharge.powered = s.powered ∧ s.restartCharge.me = s.me ∧ s.restartCharge.wu = s.wu ∧
    s.restartCharge.sp = s.sp ∧ s.restartCharge.sb = s.sb ∧ s.restartCharge.xm = s.xm ∧
    s.restartCharge.cp = s.cp ∧ s.restartCharge.clc = s.clc ∧ s.restartCharge.smn = s.smn ∧
    s.restartCharge.pending = s.pending := by
  simp only [State.restartCharge]; (repeat' split) <;> (try simp)

/-- `State.chargeReset` changes no block but `chg`, `lp`. -/
@[simp] theorem State.chargeReset_frame :
    s.chargeReset.1.powered = s.powered ∧ s.chargeReset.1.me = s.me ∧ s.chargeReset.1.wu = s.wu ∧
    s.chargeReset.1.sp = s.sp ∧ s.chargeReset.1.sb = s.sb ∧ s.chargeReset.1.xm = s.xm ∧
    s.chargeReset.1.cp = s.cp ∧ s.chargeReset.1.clc = s.clc ∧ s.chargeReset.1.smn = s.smn ∧
    s.chargeReset.1.pending = s.pending := by
  simp only [State.chargeReset]; (repeat' split) <;> (try simp)

/-- `State.loadProfile` changes no block but `chg`. -/
@[simp] theorem State.loadProfile_frame (b : List Byte) :
    (s.loadProfile b).1.powered = s.powered ∧ (s.loadProfile b).1.me = s.me ∧ (s.loadProfile b).1.wu = s.wu ∧
    (s.loadProfile b).1.sp = s.sp ∧ (s.loadProfile b).1.lp = s.lp ∧ (s.loadProfile b).1.sb = s.sb ∧
    (s.loadProfile b).1.xm = s.xm ∧ (s.loadProfile b).1.cp = s.cp ∧ (s.loadProfile b).1.clc = s.clc ∧
    (s.loadProfile b).1.smn = s.smn ∧ (s.loadProfile b).1.pending = s.pending := by
  simp only [State.loadProfile, State.answered]; (repeat' split) <;> (try simp)

/-- `State.moveTime` changes no block but `me`, `cp`, `clc`, `smn`. -/
@[simp] theorem State.moveTime_frame (t : Time) :
    (s.moveTime t).powered = s.powered ∧ (s.moveTime t).wu = s.wu ∧ (s.moveTime t).sp = s.sp ∧
    (s.moveTime t).lp = s.lp ∧ (s.moveTime t).sb = s.sb ∧ (s.moveTime t).xm = s.xm ∧
    (s.moveTime t).chg = s.chg ∧ (s.moveTime t).pending = s.pending := by
  simp [State.moveTime]

/-- `State.clearCounters` changes no block but `lp`. -/
@[simp] theorem State.clearCounters_frame :
    s.clearCounters.1.powered = s.powered ∧ s.clearCounters.1.me = s.me ∧ s.clearCounters.1.wu = s.wu ∧
    s.clearCounters.1.sp = s.sp ∧ s.clearCounters.1.sb = s.sb ∧ s.clearCounters.1.xm = s.xm ∧
    s.clearCounters.1.cp = s.cp ∧ s.clearCounters.1.clc = s.clc ∧ s.clearCounters.1.chg = s.chg ∧
    s.clearCounters.1.smn = s.smn ∧ s.clearCounters.1.pending = s.pending := by
  simp [State.clearCounters]

/-- `State.standbyCommand` changes no block but `me`, `wu`, `sp`, `lp`, `sb`, `cp`, `clc`, `smn`. -/
@[simp] theorem State.standbyCommand_frame :
    s.standbyCommand.1.powered = s.powered ∧ s.standbyCommand.1.xm = s.xm ∧ s.standbyCommand.1.chg = s.chg ∧
    s.standbyCommand.1.pending = s.pending := by
  simp only [State.standbyCommand, State.answered]; (repeat' split) <;> (try simp)

/-- `State.wakeCommand` changes no block but `smn`, `sb`. -/
@[simp] theorem State.wakeCommand_frame :
    s.wakeCommand.1.powered = s.powered ∧ s.wakeCommand.1.me = s.me ∧ s.wakeCommand.1.wu = s.wu ∧
    s.wakeCommand.1.sp = s.sp ∧ s.wakeCommand.1.lp = s.lp ∧ s.wakeCommand.1.xm = s.xm ∧
    s.wakeCommand.1.cp = s.cp ∧ s.wakeCommand.1.clc = s.clc ∧ s.wakeCommand.1.chg = s.chg ∧
    s.wakeCommand.1.pending = s.pending := by
  simp only [State.wakeCommand, State.answered]; (repeat' split) <;> (try simp)

/-- `State.append` changes no block but `xm`, `lp`, `cp`. -/
@[simp] theorem State.append_frame (f n : Nat) :
    (s.append f n).1.powered = s.powered ∧ (s.append f n).1.me = s.me ∧ (s.append f n).1.wu = s.wu ∧
    (s.append f n).1.sp = s.sp ∧ (s.append f n).1.sb = s.sb ∧ (s.append f n).1.clc = s.clc ∧
    (s.append f n).1.chg = s.chg ∧ (s.append f n).1.smn = s.smn ∧ (s.append f n).1.pending = s.pending := by
  simp only [State.append, State.endNoExtent, State.answered]; (repeat' split) <;> (try simp)

/-- `State.clearExtents` changes no block but `xm`, `lp`. -/
@[simp] theorem State.clearExtents_frame :
    s.clearExtents.1.powered = s.powered ∧ s.clearExtents.1.me = s.me ∧ s.clearExtents.1.wu = s.wu ∧
    s.clearExtents.1.sp = s.sp ∧ s.clearExtents.1.sb = s.sb ∧ s.clearExtents.1.cp = s.cp ∧
    s.clearExtents.1.clc = s.clc ∧ s.clearExtents.1.chg = s.chg ∧ s.clearExtents.1.smn = s.smn ∧
    s.clearExtents.1.pending = s.pending := by
  simp only [State.clearExtents, State.answered]; (repeat' split) <;> (try simp)

/-- `State.addProtect` changes no block but `xm`. -/
@[simp] theorem State.addProtect_frame (f n : Nat) :
    (s.addProtect f n).1.powered = s.powered ∧ (s.addProtect f n).1.me = s.me ∧
    (s.addProtect f n).1.wu = s.wu ∧ (s.addProtect f n).1.sp = s.sp ∧ (s.addProtect f n).1.lp = s.lp ∧
    (s.addProtect f n).1.sb = s.sb ∧ (s.addProtect f n).1.cp = s.cp ∧ (s.addProtect f n).1.clc = s.clc ∧
    (s.addProtect f n).1.chg = s.chg ∧ (s.addProtect f n).1.smn = s.smn ∧
    (s.addProtect f n).1.pending = s.pending := by
  simp only [State.addProtect, State.answered]; (repeat' split) <;> (try simp)

/-- `State.removeProtect` changes no block but `xm`, `clc`. -/
@[simp] theorem State.removeProtect_frame (i : Nat) :
    (s.removeProtect i).1.powered = s.powered ∧ (s.removeProtect i).1.me = s.me ∧
    (s.removeProtect i).1.wu = s.wu ∧ (s.removeProtect i).1.sp = s.sp ∧ (s.removeProtect i).1.lp = s.lp ∧
    (s.removeProtect i).1.sb = s.sb ∧ (s.removeProtect i).1.cp = s.cp ∧ (s.removeProtect i).1.chg = s.chg ∧
    (s.removeProtect i).1.smn = s.smn ∧ (s.removeProtect i).1.pending = s.pending := by
  simp only [State.removeProtect, State.removeLock, State.answered]; (repeat' split) <;> (try simp)

end Sys2Proof.Machine
end

