-- ==== Sys2Proof/Laws/Memory.lean ====
section
/-!
SUPPORT. The stacked DRAM: every memory operation keeps the canonical form, and a read after a write gives the byte
written or the byte that stood there.
-/
namespace Sys2Proof.Machine

/-- The canonical form as a proposition. -/
theorem Memory.wf_iff (m : List Host.Cell) :
    Memory.wf m = true ↔ m.Pairwise (fun x y => x.1 < y.1) ∧ ∀ c ∈ m, c.1 < dramSize := by
  simp [Memory.wf]

/-- The addresses of cells laid out from an address. -/
theorem Memory.mem_cellsAt {bs : List Byte} : ∀ {a : Nat} {c : Host.Cell}, c ∈ Memory.cellsAt a bs →
    a ≤ c.1 ∧ c.1 < a + bs.length := by
  induction bs with
  | nil => intro a c h; simp [Memory.cellsAt] at h
  | cons b bs ih =>
    intro a c h
    simp only [Memory.cellsAt, List.mem_cons] at h
    rcases h with rfl | h
    · simp
    · have := ih h
      simp only [List.length_cons]
      omega

/-- Cells laid out from an address stand in rising order. -/
theorem Memory.cellsAt_pairwise (bs : List Byte) : ∀ a : Nat,
    (Memory.cellsAt a bs).Pairwise (fun x y => x.1 < y.1) := by
  induction bs with
  | nil => intro a; simp [Memory.cellsAt]
  | cons b bs ih =>
    intro a
    refine List.pairwise_cons.2 ⟨fun c hc => ?_, ih (a + 1)⟩
    exact Nat.lt_of_lt_of_le (Nat.lt_succ_self a) (Memory.mem_cellsAt hc).1

/-- A write inside the DRAM keeps the canonical form. -/
theorem Memory.write_wf {m : List Host.Cell} {a : Nat} {bs : List Byte} (h : Memory.wf m = true)
    (hin : a + bs.length ≤ dramSize) : Memory.wf (Memory.write m a bs) = true := by
  obtain ⟨hp, hm⟩ := (Memory.wf_iff m).1 h
  refine (Memory.wf_iff _).2 ⟨?_, ?_⟩
  · refine List.pairwise_append.2 ⟨hp.filter _, List.pairwise_append.2
      ⟨Memory.cellsAt_pairwise bs a, hp.filter _, ?_⟩, ?_⟩
    · intro x hx y hy
      have h1 := Memory.mem_cellsAt hx
      have h2 := (List.mem_filter.1 hy).2
      simp only [decide_eq_true_eq] at h2
      omega
    · intro x hx y hy
      have h1 := (List.mem_filter.1 hx).2
      simp only [decide_eq_true_eq] at h1
      rcases List.mem_append.1 hy with h2 | h2
      · have := Memory.mem_cellsAt h2
        omega
      · have := (List.mem_filter.1 h2).2
        simp only [decide_eq_true_eq] at this
        omega
  · intro c hc
    rcases List.mem_append.1 hc with h1 | h1
    · exact hm c (List.mem_filter.1 h1).1
    rcases List.mem_append.1 h1 with h2 | h2
    · have := Memory.mem_cellsAt h2
      omega
    · exact hm c (List.mem_filter.1 h2).1

/-- Forgetting bytes keeps the canonical form. -/
theorem Memory.erase_wf {m : List Host.Cell} (a n : Nat) (h : Memory.wf m = true) :
    Memory.wf (Memory.erase m a n) = true := by
  obtain ⟨hp, hm⟩ := (Memory.wf_iff m).1 h
  exact (Memory.wf_iff _).2 ⟨hp.filter _, fun c hc => hm c (List.mem_filter.1 hc).1⟩

/-- Powering quarters off keeps the canonical form. -/
theorem eraseQuarters_wf {m : List Host.Cell} (lost : List Nat) (h : Memory.wf m = true) :
    Memory.wf (eraseQuarters m lost) = true := by
  obtain ⟨hp, hm⟩ := (Memory.wf_iff m).1 h
  exact (Memory.wf_iff _).2 ⟨hp.filter _, fun c hc => hm c (List.mem_filter.1 hc).1⟩

/-- A slot write keeps the canonical form. -/
theorem State.writeSlot_wf {s : State} (n offset : Nat) (bs : List Byte) (h : Memory.wf s.sb.mem = true) :
    Memory.wf (s.writeSlot n offset bs).sb.mem = true := by
  unfold State.writeSlot
  split
  · rename_i hin
    refine Memory.write_wf h ?_
    have hs : n + 1 ≤ Config.slotCount := hin.1
    have : slotAddress n offset + bs.length ≤ (n + 1) * Config.slotBytes := by
      simp only [slotAddress, Nat.succ_mul]
      omega
    exact this.trans (Nat.mul_le_mul_right _ hs)
  · exact h

/-- The DRAM after reset has the canonical form. -/
theorem reset_mem_wf : Memory.wf State.reset.sb.mem = true := by decide

/-- What `read` finds in two lists joined. -/
theorem Memory.read_append (m m' : List Host.Cell) (a : Nat) :
    Memory.read (m ++ m') a = (Memory.read m a).or (Memory.read m' a) := by
  simp only [Memory.read, List.lookup_append]

/-- An address that no cell has reads as absent. -/
theorem Memory.read_none {m : List Host.Cell} {a : Nat} (h : ∀ c ∈ m, c.1 ≠ a) : Memory.read m a = none := by
  simp only [Memory.read, List.lookup_eq_none_iff]
  intro c hc
  simpa using fun e => h c hc e.symm

/-- The bytes laid out from an address, read back. -/
theorem Memory.read_cellsAt (bs : List Byte) : ∀ a i : Nat, Memory.read (Memory.cellsAt a bs) (a + i) = bs[i]? := by
  induction bs with
  | nil => intro a i; simp [Memory.cellsAt, Memory.read]
  | cons b bs ih =>
    intro a i
    cases i with
    | zero => simp [Memory.cellsAt, Memory.read]
    | succ i =>
      have h : (a + (i + 1) == a) = false := by simp
      have := ih (a + 1) i
      simp only [Memory.read, Memory.cellsAt, List.lookup, h, List.getElem?_cons_succ] at this ⊢
      rw [← this]
      congr 1
      omega

/-- Reading a filtered list at an address whose cells the filter keeps. -/
theorem Memory.read_filter {m : List Host.Cell} {p : Nat → Bool} {a : Nat} (h : p a = true) :
    Memory.read (m.filter (fun c => p c.1)) a = Memory.read m a := by
  induction m with
  | nil => rfl
  | cons c m ih =>
    obtain ⟨k, b⟩ := c
    simp only [Memory.read] at ih
    by_cases hk : k = a
    · subst hk
      simp [Memory.read, List.filter, h, List.lookup]
    · have hb : (a == k) = false := by simpa using fun e => hk e.symm
      cases hp : p k <;> simp [Memory.read, List.filter, hp, List.lookup, hb, ih]

/-- A read after a write to the same place gives the byte written. -/
theorem Memory.read_write_inside (m : List Host.Cell) (a : Nat) (bs : List Byte) (i : Nat) (h : i < bs.length) :
    Memory.read (Memory.write m a bs) (a + i) = bs[i]? := by
  unfold Memory.write
  rw [Memory.read_append, Memory.read_append, Memory.read_cellsAt]
  rw [Memory.read_none (m := m.filter _)]
  · simp [h]
  · intro c hc e
    have := (List.mem_filter.1 hc).2
    simp only [decide_eq_true_eq] at this
    omega

/-- A write leaves every other place alone. -/
theorem Memory.read_write_outside (m : List Host.Cell) (a : Nat) (bs : List Byte) (x : Nat)
    (h : x < a ∨ a + bs.length ≤ x) : Memory.read (Memory.write m a bs) x = Memory.read m x := by
  have hc : Memory.read (Memory.cellsAt a bs) x = none := Memory.read_none (fun c hc e => by
    have := Memory.mem_cellsAt hc
    omega)
  unfold Memory.write
  rw [Memory.read_append, Memory.read_append, hc]
  rcases h with h | h
  · have h2 : Memory.read (m.filter (fun c => decide (a + bs.length ≤ c.1))) x = none :=
      Memory.read_none (fun c hc e => by
        have := (List.mem_filter.1 hc).2
        simp only [decide_eq_true_eq] at this
        omega)
    rw [h2, Memory.read_filter (p := fun k => decide (k < a)) (by simpa using h)]
    simp
  · have h2 : Memory.read (m.filter (fun c => decide (c.1 < a))) x = none :=
      Memory.read_none (fun c hc e => by
        have := (List.mem_filter.1 hc).2
        simp only [decide_eq_true_eq] at this
        omega)
    rw [h2, Memory.read_filter (p := fun k => decide (a + bs.length ≤ k)) (by simpa using h)]
    simp

end Sys2Proof.Machine
end

