-- ==== Sys2Proof/Laws/Ops.lean ====
section
/-!
SUPPORT. What the shared operations do, said once: the frame of a command, the arbiter, postings, the slot table, and the
arithmetic of the rules. Proofs cite these lemmas and do not unfold the operations.
-/
namespace Sys2Proof.Machine

/-! ### Arithmetic -/

theorem saturate_bounds {lo hi : Int} (h : lo ≤ hi) (x : Int) : lo ≤ saturate lo hi x ∧ saturate lo hi x ≤ hi := by
  unfold saturate; split
  · exact ⟨le_refl _, h⟩
  · split <;> omega

theorem saturate_eq_max_min {lo hi : Int} (h : lo ≤ hi) (x : Int) : saturate lo hi x = max lo (min hi x) := by
  unfold saturate; split
  · omega
  · split <;> omega

theorem saturate_of_mem {lo hi x : Int} (h1 : lo ≤ x) (h2 : x ≤ hi) : saturate lo hi x = x := by
  unfold saturate; split
  · omega
  · split <;> omega

theorem clampNat_eq_max_min {lo hi : Nat} (h : lo ≤ hi) (n : Nat) : clampNat lo hi n = max lo (min hi n) := by
  unfold clampNat; split
  · omega
  · split <;> omega

theorem raise_le (limit n k : Nat) : raise limit n k ≤ limit := Nat.min_le_left _ _

theorem floor25_mod (n : Nat) : floor25 n % 25 = 0 := by unfold floor25; omega

theorem floor25_le (n : Nat) : floor25 n ≤ n := by unfold floor25; omega

/-- A rounded quotient is nearest, an exact half goes up. -/
theorem roundNat_nearest (n : Nat) {d : Nat} (hd : 0 < d) :
    2 * n < (2 * roundNat n d + 1) * d ∧ 2 * roundNat n d * d ≤ 2 * n + d := by
  unfold roundNat
  have h := Nat.div_add_mod (2 * n + d) (2 * d)
  have hm := Nat.mod_lt (2 * n + d) (show 0 < 2 * d by omega)
  generalize (2 * n + d) / (2 * d) = q at h
  have e : 2 * d * q = 2 * q * d := by ring
  constructor
  · have : (2 * q + 1) * d = 2 * q * d + d := by ring
    omega
  · omega

@[simp] theorem length_beBytes (w n : Nat) : (beBytes w n).length = w := by
  induction w with
  | zero => rfl
  | succ w ih => simp [beBytes, ih]

@[simp] theorem length_beSigned (w : Nat) (n : Int) : (beSigned w n).length = w := length_beBytes _ _

/-! ### The frame of a command -/

/-- A part with supply takes a command's effect and the arbiter follows; a dark part stays as it is. -/
theorem State.take_cases (s : State) (f : State → State) :
    (s.powered = true ∧ s.take f = .next (f s).arbitrate) ∨ (s.powered = false ∧ s.take f = .next s) := by
  unfold State.take
  cases h : s.powered
  · exact .inr ⟨rfl, rfl⟩
  · exact .inl ⟨rfl, rfl⟩

/-- The four things a CONTROL cell can do (R170, R172). -/
theorem State.control_cases (s : State) (tag code : Byte) (lengthOk query : Bool) (body : State → State × CommandResult) :
    (8 ≤ s.lp.replies.length ∧ s.control tag code lengthOk query body = s.count .controlCellsLost) ∨
    (s.lp.replies.length < 8 ∧ lengthOk = false ∧
      s.control tag code lengthOk query body = s.reply tag code (.refused .badLength)) ∨
    (s.lp.replies.length < 8 ∧ lengthOk = true ∧ s.smn.standby = .waking ∧ query = false ∧
      s.control tag code lengthOk query body = s.reply tag code .busy) ∨
    (s.lp.replies.length < 8 ∧ lengthOk = true ∧ (s.smn.standby ≠ .waking ∨ query = true) ∧
      s.control tag code lengthOk query body = (body s).1.reply tag code (body s).2) := by
  unfold State.control
  by_cases h : 8 ≤ s.lp.replies.length
  · exact .inl ⟨h, if_pos h⟩
  · rw [if_neg h]
    have h' : s.lp.replies.length < 8 := by omega
    cases lengthOk
    · exact .inr (.inl ⟨h', rfl, rfl⟩)
    · by_cases w : s.smn.standby = .waking
      · cases query
        · exact .inr (.inr (.inl ⟨h', rfl, w, rfl, by simp [w]⟩))
        · exact .inr (.inr (.inr ⟨h', rfl, .inr rfl, by simp⟩))
      · exact .inr (.inr (.inr ⟨h', rfl, .inl w, by simp [w]⟩))

/-- The arbiter's choice (R174). -/
theorem LinkPort.arbitrate_cases (l : LinkPort) :
    (l.sending ≠ none ∧ l.arbitrate = l) ∨
    (∃ c rest, l.sending = none ∧ l.lines = c :: rest ∧
      l.arbitrate = { l with lines := rest, sending := some (.picture c) }) ∨
    (∃ r rest, l.sending = none ∧ l.lines = [] ∧ l.replies = r :: rest ∧
      l.arbitrate = { l with replies := rest, sending := some (.reply r) }) ∨
    (∃ n rest, l.sending = none ∧ l.lines = [] ∧ l.replies = [] ∧ l.notices = n :: rest ∧
      l.arbitrate = { l with notices := rest, sending := some (.notice n) }) ∨
    (l.sending = none ∧ l.lines = [] ∧ l.replies = [] ∧ l.notices = [] ∧ l.arbitrate = l) := by
  unfold LinkPort.arbitrate
  cases hs : l.sending with
  | some c => exact .inl ⟨by simp, rfl⟩
  | none =>
    cases hl : l.lines with
    | cons c rest => exact .inr (.inl ⟨c, rest, rfl, rfl, rfl⟩)
    | nil =>
      cases hr : l.replies with
      | cons r rest => exact .inr (.inr (.inl ⟨r, rest, rfl, rfl, rfl, rfl⟩))
      | nil =>
        cases hn : l.notices with
        | cons n rest => exact .inr (.inr (.inr (.inl ⟨n, rest, rfl, rfl, rfl, rfl, rfl⟩)))
        | nil => exact .inr (.inr (.inr (.inr ⟨rfl, rfl, rfl, rfl, rfl⟩)))

/-! ### Postings (R173) -/

/-- A posting leaves the kinds that wait in their order, and adds its own at the tail where it did not wait. -/
theorem postNotice_kinds (kind : NoticeKind) (value : NoticeValue) (now : Time) (q : List Notice) :
    (postNotice kind value now q).map (·.kind) =
      if kind ∈ q.map (·.kind) then q.map (·.kind) else q.map (·.kind) ++ [kind] := by
  induction q with
  | nil => rfl
  | cons n rest ih =>
    unfold postNotice
    by_cases h : n.kind = kind
    · simp [h]
    · rw [if_neg h, List.map_cons, ih, List.map_cons]
      by_cases m : kind ∈ rest.map (·.kind)
      · rw [if_pos m, if_pos (List.mem_cons_of_mem _ m)]
      · rw [if_neg m, if_neg (by
          intro hm
          rcases List.mem_cons.mp hm with e | e
          · exact h e.symm
          · exact m e)]
        rfl

/-- The entry a posting leaves: its kind, its value and its time. -/
theorem postNotice_posts (kind : NoticeKind) (value : NoticeValue) (now : Time) (q : List Notice) :
    ∃ n, (⟨kind, n, value, now⟩ : Notice) ∈ postNotice kind value now q := by
  induction q with
  | nil => exact ⟨1, List.mem_singleton.mpr rfl⟩
  | cons m rest ih =>
    unfold postNotice
    by_cases h : m.kind = kind
    · rw [if_pos h]
      exact ⟨_, List.mem_cons_self⟩
    · rw [if_neg h]
      obtain ⟨n, hn⟩ := ih
      exact ⟨n, List.mem_cons_of_mem _ hn⟩

/-! ### The slot table (R70) -/

/-- Reading the head of a slot table, or past it. -/
theorem lookup_cons_eq (a b : Nat) (x : SlotRecord) (l : List (Nat × SlotRecord)) :
    ((b, x) :: l).lookup a = if a = b then some x else l.lookup a := by
  rw [List.lookup_cons]
  by_cases e : a = b
  · simp [e]
  · simp [beq_eq_false_iff_ne.mpr e, e]

/-- Reading the slot table after one record is set. -/
theorem lookup_setEntry (n m : Nat) (r : SlotRecord) (slots : List (Nat × SlotRecord)) :
    (setEntry n r slots).lookup m = if m = n then some r else slots.lookup m := by
  induction slots with
  | nil => exact lookup_cons_eq m n r []
  | cons p rest ih =>
    obtain ⟨k, q⟩ := p
    unfold setEntry
    by_cases h1 : n < k
    · rw [if_pos h1, lookup_cons_eq]
    · rw [if_neg h1]
      by_cases h2 : n = k
      · subst h2
        rw [if_pos rfl, lookup_cons_eq, lookup_cons_eq]
        split <;> rfl
      · rw [if_neg h2, lookup_cons_eq, lookup_cons_eq, ih]
        by_cases e : m = k
        · have e' : ¬m = n := fun e' => h2 (e'.symm.trans e)
          simp only [e, if_true, if_neg (e ▸ e' : ¬k = n)]
        · simp only [if_neg e]

end Sys2Proof.Machine
end

