-- ==== Sys2Proof/Laws/Slots.lean ====
section
/-!
SUPPORT. What the shared operations of the Slot Buffer do: reading the slot table after an update, the lowest FREE slot,
opening, finishing, stamping and closing a slot, and the append of one record where a slot takes it, where it does not fit
and where it meets an overrun (R70 to R83).
-/
namespace Sys2Proof.Machine

/-! ### The slot table (R70) -/

@[simp] theorem State.lookup_setSlot (s : State) (n m : Nat) (r : SlotRecord) :
    (s.setSlot n r).sb.slots.lookup m = if m = n then some r else s.sb.slots.lookup m := lookup_setEntry n m r _

@[simp] theorem State.setSlot_ring (s : State) (n : Nat) (r : SlotRecord) : (s.setSlot n r).sb.ring = s.sb.ring := rfl
@[simp] theorem State.setSlot_queue (s : State) (n : Nat) (r : SlotRecord) : (s.setSlot n r).sb.queue = s.sb.queue := rfl
@[simp] theorem State.setSlot_filling (s : State) (n : Nat) (r : SlotRecord) :
    (s.setSlot n r).sb.filling = s.sb.filling := rfl

/-- Reading a slot's record after one record is set. -/
@[simp] theorem State.slot_setSlot (s : State) (n m : Nat) (r : SlotRecord) :
    (s.setSlot n r).sb.slot m = if m = n then r else s.sb.slot m := by
  unfold SlotBuffer.slot
  rw [State.lookup_setSlot]
  split <;> rfl

/-- Reading the slot table after slots became FREE. -/
@[simp] theorem State.lookup_freeSlots (s : State) (ns : List Nat) (m : Nat) :
    (s.freeSlots ns).sb.slots.lookup m = if m ∈ ns then none else s.sb.slots.lookup m := by
  show (s.sb.slots.filter (fun p => !ns.contains p.1)).lookup m = _
  induction s.sb.slots with
  | nil => simp
  | cons p rest ih =>
    obtain ⟨k, q⟩ := p
    rw [List.filter_cons, lookup_cons_eq]
    by_cases hk : k ∈ ns
    · rw [if_neg (by simpa using hk), ih]
      by_cases e : m = k
      · subst e; simp [hk]
      · simp [e]
    · rw [if_pos (by simpa using hk), lookup_cons_eq, ih]
      by_cases e : m = k
      · subst e; simp [hk]
      · simp [e]

/-- What `firstFrom` finds is the first of its numbers with the property. -/
theorem firstFrom_some {p : Nat → Bool} : ∀ {k n m : Nat}, firstFrom p k n = some m →
    n ≤ m ∧ m < n + k ∧ p m = true ∧ ∀ j, n ≤ j → j < m → p j = false
  | 0, _, _, h => by cases h
  | k + 1, n, m, h => by
    unfold firstFrom at h
    split at h
    · cases h
      exact ⟨Nat.le_refl _, by omega, by assumption, fun j _ _ => by omega⟩
    · obtain ⟨h1, h2, h3, h4⟩ := firstFrom_some h
      refine ⟨by omega, by omega, h3, fun j hj hm => ?_⟩
      rcases Nat.eq_or_lt_of_le hj with rfl | hj
      · simpa using ‹¬p n = true›
      · exact h4 j hj hm

/-- Where `firstFrom` finds nothing, no number of its range has the property. -/
theorem firstFrom_none {p : Nat → Bool} : ∀ {k n : Nat}, firstFrom p k n = none →
    ∀ j, n ≤ j → j < n + k → p j = false
  | 0, _, _, _, _, _ => by omega
  | k + 1, n, h, j, h1, h2 => by
    unfold firstFrom at h
    split at h
    · cases h
    · rcases Nat.eq_or_lt_of_le h1 with rfl | h1
      · simpa using ‹¬p n = true›
      · exact firstFrom_none h j h1 (by omega)

/-- The lowest FREE slot in the words of the statements (R73). -/
theorem State.lowestFree_eq_some {s : State} {m : Nat} : s.sb.lowestFree = some m ↔ s.lowestFreeIs m := by
  constructor
  · intro h
    obtain ⟨-, h2, h3, h4⟩ := firstFrom_some h
    refine ⟨by simpa [Config.slotCount] using h2, by simpa using h3, fun j hj => ?_⟩
    have := h4 j (Nat.zero_le _) hj
    simpa [Option.isNone_iff_eq_none] using this
  · intro ⟨h1, h2, h3⟩
    cases h : s.sb.lowestFree with
    | none =>
      have := firstFrom_none h m (Nat.zero_le _) (by simpa [Config.slotCount] using h1)
      simp [h2] at this
    | some n =>
      obtain ⟨-, g2, g3, g4⟩ := firstFrom_some h
      rcases Nat.lt_trichotomy n m with e | rfl | e
      · have := h3 n e
        simp only [Option.isNone_iff_eq_none] at g3
        exact absurd g3 this
      · rfl
      · have := g4 m (Nat.zero_le _) e
        simp [h2] at this

/-- No slot is FREE (R73). -/
theorem State.lowestFree_eq_none {s : State} :
    s.sb.lowestFree = none ↔ ∀ m, m < 1024 → s.sb.slots.lookup m ≠ none := by
  constructor
  · intro h m hm e
    have := firstFrom_none h m (Nat.zero_le _) (by simpa [Config.slotCount] using hm)
    simp [e] at this
  · intro h
    cases e : s.sb.lowestFree with
    | none => rfl
    | some n =>
      obtain ⟨h1, h2, -⟩ := State.lowestFree_eq_some.mp e
      exact absurd h2 (h n h1)

/-! ### Writing into a slot (R70, R71) -/

@[simp] theorem length_recordBytes (kind : RecordKind) (flags : Byte) (time : Time) (payload : List Byte) :
    (recordBytes kind flags time payload).length = payload.length + 8 := by
  simp [recordBytes]
  omega

/-- A write inside a slot of the buffer. -/
theorem State.writeSlot_eq {s : State} {n o : Nat} {bs : List Byte} (hn : n < 1024) (ho : o + bs.length ≤ 65536) :
    s.writeSlot n o bs = s.setBuffer (fun b => { b with mem := Memory.write b.mem (65536 * n + o) bs }) := by
  unfold State.writeSlot
  rw [if_pos ⟨hn, ho⟩]
  simp only [slotAddress, Config.slotBytes, Nat.mul_comm]

/-- A record placed in a slot that has room: its bytes, and the slot's record (R73). -/
theorem State.placeRecord_eq {s : State} {n : Nat} {kind : RecordKind} {flags : Byte} {sync : Bool} {payload : List Byte}
    (hn : n < 1024) (ho : (s.sb.slot n).fill + (payload.length + 8) ≤ 65536) :
    s.placeRecord n kind flags sync payload = (s.setBuffer (fun b => { b with
      mem := Memory.write b.mem (65536 * n + (s.sb.slot n).fill) (recordBytes kind flags s.smn.partTime payload) })).setSlot n
        ((s.sb.slot n).appended (payload.length + 8) sync (decide (s.clc.mode = .armed)) s.smn.partTime) := by
  unfold State.placeRecord
  rw [State.writeSlot_eq hn (by simpa using ho)]

/-! ### Opening a FILLING slot (R73, R79) -/

/-- A slot opens from the lowest FREE one. -/
theorem State.openFilling_free {s : State} {n : Nat} (h : s.lowestFreeIs n) : s.openFilling = s.fillSlot n := by
  have h := State.lowestFree_eq_some.mpr h
  have none_needed : s.needsMember = false := by simp [State.needsMember, h]
  have stay : ∀ k, State.makeRoom k s = s := by
    intro k
    cases k <;> simp [State.makeRoom, none_needed]
  simp only [State.openFilling, stay, State.fillLowest, h]

/-- A slot opens from the oldest member of the ring, where no slot is FREE and no trailer is due. -/
theorem State.openFilling_member {s : State} {n : Nat} {ring : List Nat} (hn : n < 1024)
    (h : ∀ m, m < 1024 → s.sb.slots.lookup m ≠ none) (hr : s.sb.ring = n :: ring) (ht : s.clc.trailerDue = none) :
    s.openFilling = ((s.setBuffer (fun b => { b with ring := ring })).freeSlots [n]).fillSlot n := by
  have d : s.dropMember = (s.setBuffer (fun b => { b with ring := ring })).freeSlots [n] := by
    simp only [State.dropMember, hr, State.release, State.trailerTest]
    rw [show ((s.setBuffer (fun b => { b with ring := ring })).freeSlots [n]).clc.trailerDue = none from ht]
  have low : s.dropMember.sb.lowestFree = some n := by
    rw [State.lowestFree_eq_some, d]
    refine ⟨hn, by simp, fun j hj => ?_⟩
    rw [State.lookup_freeSlots, if_neg (by simp; omega)]
    exact h j (by omega)
  have needs : s.needsMember = true := by simp [State.needsMember, State.lowestFree_eq_none.mpr h, hr]
  have rest : ∀ k, State.makeRoom k s.dropMember = s.dropMember := by
    intro k
    cases k <;> simp [State.makeRoom, State.needsMember, low]
  simp only [State.openFilling, hr, List.length_cons, State.makeRoom, needs, if_true, rest, State.fillLowest, low]
  rw [d]

/-- No slot can be opened (R83). -/
theorem State.openFilling_none {s : State} (h : s.noSlot) : s.openFilling = s := by
  obtain ⟨-, hr, hl⟩ := h
  simp [State.openFilling, hr, State.makeRoom, State.fillLowest, State.lowestFree_eq_none.mpr hl]

/-! ### Appending a record (R73, R79, R83) -/

/-- A record that a slot receives with 9 bytes or more left is appended to it, and nothing else changes. -/
theorem State.appendRecord_receives {s : State} {n : Nat} {r : SlotRecord} {ring : List Nat} (kind : RecordKind)
    (flags : Byte) (sync : Bool) (payload : List Byte) (h : s.receives (payload.length + 8) n r ring) :
    ∃ u, s.appendRecord kind flags sync payload = (u, true) ∧
      s.appends u n r ring (recordBytes kind flags s.smn.partTime payload) sync ∧
      u.sb.overrun = s.sb.overrun ∧ u.clc = s.clc ∧ u.lp = s.lp ∧ s.sameOutside u := by
  obtain ⟨hn, hroom, h⟩ := h
  -- the state in which the slot is FILLING
  obtain ⟨t, ht, hopen, hslot, hlook, hring, hq, hquarters, hmem, hover, hclc, hlp, hout⟩ : ∃ t : State,
      t.sb.filling = some n ∧ s.appendRecord kind flags sync payload =
        ((t.placeRecord n kind flags sync payload).closeIfFull n, true) ∧ t.sb.slot n = r ∧
      (∀ m, m ≠ n → t.sb.slots.lookup m = s.sb.slots.lookup m) ∧ t.sb.ring = ring ∧ t.sb.queue = s.sb.queue ∧
      t.sb.quarters = s.sb.quarters ∧ t.sb.mem = s.sb.mem ∧ t.sb.overrun = s.sb.overrun ∧ t.clc = s.clc ∧
      t.lp = s.lp ∧ s.sameOutside t := by
    rcases h with ⟨hf, hr, hring⟩ | ⟨hf, hr, h⟩
    · refine ⟨s, hf, ?_, hr.symm, fun _ _ => rfl, hring.symm, rfl, rfl, rfl, rfl, rfl, rfl, ?_⟩
      · have full : s.needsRoom (payload.length + 8) = false := by
          simp [State.needsRoom, hf, Config.slotBytes, ← hr]; omega
        simp [State.appendRecord, full, State.appendOpen, hf]
      · simp [State.sameOutside]
    · have full : s.needsRoom (payload.length + 8) = false := by simp [State.needsRoom, hf]
      rcases h with ⟨h1, h2, hring⟩ | ⟨h1, h2, h3⟩
      · refine ⟨s.fillSlot n, rfl, ?_, ?_, fun m hm => ?_, hring.symm, rfl, rfl, rfl, rfl, rfl, rfl, ?_⟩
        · simp only [State.appendRecord, full, Bool.false_eq_true, if_false, State.appendOpen, hf, Option.isNone_none,
            if_true, State.openFilling_free ⟨hn, h1, h2⟩]
          rfl
        · rw [hr]; exact (State.slot_setSlot s n n _).trans (if_pos rfl)
        · exact (State.lookup_setSlot s n m _).trans (if_neg hm)
        · simp [State.sameOutside]
      · refine ⟨((s.setBuffer (fun b => { b with ring := ring })).freeSlots [n]).fillSlot n, rfl, ?_, ?_, fun m hm => ?_,
          rfl, rfl, rfl, rfl, rfl, rfl, rfl, ?_⟩
        · simp only [State.appendRecord, full, Bool.false_eq_true, if_false, State.appendOpen, hf, Option.isNone_none,
            if_true, State.openFilling_member hn h1 h2 h3]
          rfl
        · rw [hr]; exact (State.slot_setSlot _ n n _).trans (if_pos rfl)
        · refine (State.lookup_setSlot _ n m _).trans ?_
          rw [if_neg hm, State.lookup_freeSlots, if_neg (by simpa using hm)]
          rfl
        · simp [State.sameOutside]
  have fits : (t.sb.slot n).fill + (payload.length + 8) ≤ 65536 := by rw [hslot]; omega
  have time : t.smn.partTime = s.smn.partTime := by rw [hout.2.2.2.2.2.2.1]
  refine ⟨_, hopen, ?_⟩
  rw [State.placeRecord_eq hn fits]
  have room : ¬ Config.slotBytes < ((t.sb.slot n).appended (payload.length + 8) sync (decide (t.clc.mode = .armed))
      t.smn.partTime).fill + 9 := by
    simp only [SlotRecord.appended, hslot, Config.slotBytes]; omega
  rw [State.closeIfFull, State.slot_setSlot, if_pos rfl, if_neg room]
  refine ⟨⟨?_, fun m hm => ?_, ht, hring, hq, hquarters, fun i b hi => ?_, fun a ha => ?_⟩, hover, hclc, hlp, ?_⟩
  · rw [State.slot_setSlot, if_pos rfl]
    simp only [SlotRecord.appended, hslot, hclc, time, length_recordBytes]
    cases r.firstTime <;> cases sync <;> cases r.firstSync <;> rfl
  · rw [State.lookup_setSlot, if_neg hm]
    exact hlook m hm
  · have hi' := List.getElem?_eq_some_iff.mp hi
    show Memory.read (Memory.write t.sb.mem _ _) _ = _
    rw [hslot, time, Memory.read_write_inside _ _ _ _ hi'.1, hi]
  · show Memory.read (Memory.write t.sb.mem _ _) _ = _
    rw [hslot, time, Memory.read_write_outside _ _ _ _ ha, hmem]
  · exact hout

/-- A record that meets an overrun is not appended (R83). -/
theorem State.appendRecord_noSlot {s : State} (kind : RecordKind) (flags : Byte) (sync : Bool) (payload : List Byte)
    (h : s.noSlot) : s.appendRecord kind flags sync payload = (s.overrunStart, false) := by
  simp [State.appendRecord, State.needsRoom, h.1, State.appendOpen, State.openFilling_none h]

/-! ### Closing a slot (R74 to R78) -/

/-- What finishes a closing slot, in the words of the statements (R74, R180). -/
theorem State.padBytes_eq (s : State) (fill : Nat) : padBytes fill s.smn.partTime = s.finish fill := by
  by_cases h : fill + 8 ≤ 65536
  · rw [padBytes, State.finish, if_pos (show fill + 8 ≤ Config.slotBytes from h), if_pos h]
    simp [recordBytes, beBytes, codeByte, RecordKind.code, Config.slotBytes]
  · rw [padBytes, State.finish, if_neg (show ¬fill + 8 ≤ Config.slotBytes from h), if_neg h]
    rfl

/-- The finish fills the slot. -/
theorem State.length_finish (s : State) {fill : Nat} (h : fill ≤ 65536) : (s.finish fill).length = 65536 - fill := by
  unfold State.finish
  split
  · simp; omega
  · simp

@[simp] theorem length_slotHeader (r : SlotRecord) : (slotHeader r).length = 64 := by
  simp [slotHeader, withCheck]

/-- A slot that closes is finished with PAD (R74). -/
theorem State.padSlot_eq {s : State} {n : Nat} (hn : n < 1024) (hfill : (s.sb.slot n).fill ≤ 65536) :
    s.padSlot n = s.setBuffer (fun b => { b with
      mem := Memory.write b.mem (65536 * n + (s.sb.slot n).fill) (s.finish (s.sb.slot n).fill) }) := by
  have h : (s.sb.slot n).fill + (padBytes (s.sb.slot n).fill s.smn.partTime).length ≤ 65536 := by
    rw [State.padBytes_eq, State.length_finish s hfill]; omega
  rw [State.padSlot, State.writeSlot_eq hn h, State.padBytes_eq]

/-- A slot is stamped for a clip: its record, its header and its place in the write queue (R75 to R77, R82). -/
theorem State.stampSlot_eq {s : State} {n k : Nat} {final : Bool} {stamped : SlotRecord} (hn : n < 1024)
    (hs : stamped = { s.sb.slot n with
      state := .queued, clip := some k, sequence := some ((s.clc.clip k).elim 0 (·.slotCount)), final := final }) :
    s.stampSlot n k final = { s with
      sb := { s.sb with
        slots := setEntry n stamped s.sb.slots, queue := s.sb.queue ++ [n]
        mem := Memory.write s.sb.mem (65536 * n) (slotHeader stamped) }
      clc := { s.clc with
        clips := s.clc.clips.map (fun r => if r.number = k then r.stamped (s.sb.slot n).firstSync else r) } } := by
  subst hs
  unfold State.stampSlot
  dsimp only
  rw [State.writeSlot_eq hn (by rw [length_slotHeader]; omega)]
  rfl

/-- A FILLING slot that closes outside ARMED is finished and stamped for the clip given (R74 to R76, R82, R130). -/
theorem State.closeSlot_clip {s : State} {n k : Nat} {final : Bool} {stamped : SlotRecord} (hf : s.sb.filling = some n)
    (hm : s.clc.mode ≠ .armed) (hn : n < 1024) (hfill : (s.sb.slot n).fill ≤ 65536)
    (hs : stamped = { s.sb.slot n with
      state := .queued, clip := some k, sequence := some ((s.clc.clip k).elim 0 (·.slotCount)), final := final }) :
    s.closeSlot (some k) final = State.sizeTest { s with
      sb := { s.sb with
        slots := setEntry n stamped s.sb.slots, filling := none, queue := s.sb.queue ++ [n]
        mem := Memory.write (Memory.write s.sb.mem (65536 * n + (s.sb.slot n).fill) (s.finish (s.sb.slot n).fill))
          (65536 * n) (slotHeader stamped) }
      clc := { s.clc with
        clips := s.clc.clips.map (fun r => if r.number = k then r.stamped (s.sb.slot n).firstSync else r) } } k := by
  simp only [State.closeSlot, hf, State.padSlot_eq hn hfill]
  rw [if_neg (by exact hm)]
  congr 1
  rw [State.stampSlot_eq hn rfl]
  subst hs
  rfl

/-- A FILLING slot that closes while ARMED is finished and joins the ring (R78). -/
theorem State.closeSlot_ring {s : State} {n : Nat} {clip : Option Nat} {final : Bool} (hf : s.sb.filling = some n)
    (hm : s.clc.mode = .armed) (hn : n < 1024) (hfill : (s.sb.slot n).fill ≤ 65536) :
    s.closeSlot clip final = State.joinRing { s with
      sb := { s.sb with
        filling := none
        mem := Memory.write s.sb.mem (65536 * n + (s.sb.slot n).fill) (s.finish (s.sb.slot n).fill) } } n := by
  simp only [State.closeSlot, hf, State.padSlot_eq hn hfill]
  rw [if_pos (by exact hm)]
  rfl

/-- The test of the CLIP SIZE LIMIT sets split due and changes nothing else (R130). -/
theorem State.sizeTest_eq {s : State} {k : Nat} {c : ClipRecord} (h : s.clc.clip k = some c) :
    s.sizeTest k = { s with clc := { s.clc with
      splitDue := s.clc.splitDue || decide (c.state = .opened ∧ s.clc.table.clipSizeLimit ≤ c.slotCount) } } := by
  unfold State.sizeTest
  rw [h]
  dsimp only
  split
  · simp [State.setRecorder, *]
  · simp [*]

/-- A record that does not fit closes the FILLING slot as full, and the append then starts again (R73, R74, R131). -/
theorem State.appendRecord_full {s : State} (kind : RecordKind) (flags : Byte) (sync : Bool) (payload : List Byte)
    (h : s.needsRoom (payload.length + 8) = true) (hn : s.closeFull.sb.filling = none) :
    s.appendRecord kind flags sync payload =
      ((s.closeFull.appendRecord kind flags sync payload).1.splitTest s.forcesSplit,
        (s.closeFull.appendRecord kind flags sync payload).2) := by
  have g : s.closeFull.needsRoom (payload.length + 8) = false := by simp [State.needsRoom, hn]
  simp [State.appendRecord, h, g]

end Sys2Proof.Machine
end

