-- ==== Sys2Proof/Tests/Slice0.lean ====
section
/-!
SUPPORT. Small tests of single steps, with their expected results taken from the worked cases and tables of spec/, and for
every statement with hypotheses a witness: a concrete state that meets them together, clause by clause.
-/
set_option Elab.async false

namespace Sys2Proof.Tests
open Sys2Proof Sys2Proof.Machine

/-! ### Well-formedness: an ill-formed term for each check -/

theorem test_line_too_long_is_ill_formed :
    (Instr.line 0 (List.replicate 4097 0)).wellFormed = false := by decide +kernel

theorem test_empty_clip_cell_is_ill_formed : (Instr.clipCell 0 0 []).wellFormed = false := by decide +kernel

theorem test_long_clip_cell_is_ill_formed :
    (Instr.clipCell 0 0 (List.replicate 4097 0)).wellFormed = false := by decide +kernel

theorem test_payload_beyond_length_field_is_ill_formed : lengthFits 65536 = false := by decide +kernel

theorem test_load_beyond_length_field_is_ill_formed (fields : List Byte) (h : fields.length = 65535) :
    (Instr.loadTableMotion 0 fields).wellFormed = false := by
  show decide (1 + fields.length < 65536) = false
  rw [h]
  decide

theorem test_known_code_is_no_unknown_command : (Instr.unknownCommand 0 6 []).wellFormed = false := by decide +kernel

theorem test_known_table_is_no_unknown_command : (Instr.unknownCommand 0 1 [5]).wellFormed = false := by decide +kernel

theorem test_known_subject_is_no_unknown_command : (Instr.unknownCommand 0 17 [0]).wellFormed = false := by
  decide +kernel

theorem test_too_many_ecc_findings_are_ill_formed :
    (Instr.setGradeAnswer ⟨9, 8⟩).wellFormed = false ∧ (Instr.slotWriteStart ⟨17, 0⟩).wellFormed = false ∧
      (Instr.blockAnswer .accepted ⟨0, 17⟩).wellFormed = false ∧ (Instr.readyReport ⟨.afterStop, ⟨8, 9⟩⟩).wellFormed = false := by
  decide +kernel

/-! ### Words and cells -/

theorem test_no_word_spells_a_command : decodeTableWord 8 3 = none ∧ decodeTableWord 0 0 = none := by decide +kernel

/-- R178: the nine bytes 0x31 to 0x39. -/
theorem test_check_of_nine_digits : linkCheck [0x31, 0x32, 0x33, 0x34, 0x35, 0x36, 0x37, 0x38, 0x39] = 0x29B1#16 := by
  decide +kernel

/-- R178: no payload at all in a START RECORD cell, with TAG 7 in byte 4 and the code in byte 5. -/
theorem test_start_record_cell :
    decodeCell [0x02, 0x00, 0x00, 0x00, 0x07, 0x08, 0x9D, 0xCF] = some (.startRecord 0x07 []) := by decide +kernel

theorem test_cell_with_wrong_check :
    decodeCell [0x02, 0x00, 0x00, 0x00, 0x07, 0x08, 0x9D, 0xCE] = some .cellBadCheck := by decide +kernel

theorem test_short_cell_is_no_cell : decodeCell [0x02, 0x00, 0x00, 0x01, 0x07, 0x08, 0x9D, 0xCF] = none := by
  decide +kernel

/-- R168, test 2: a good check with KIND 3. -/
theorem test_cell_of_no_kind : decodeCell (cellBytes 0x03 0 0 0 [1]) = some .cellBadCheck := by decide +kernel

/-! ### Small states -/

/-- The part after power-on with a cell on the link, so that what joins a queue stays there. -/
def live : State :=
  { State.reset with lp := { LinkPort.powerOn with sending := some (.reply ⟨0, 0, .busy⟩) } }

/-- Look at the next state of an outcome. -/
def shows (o : Host.Outcome State Fault Refusal) (p : State → Bool) : Bool :=
  match o with
  | .next t => p t
  | .fault _ => false
  | .refused _ => false

/-- A burst whose only words are the rate about z and the three accelerations. -/
def burstOf (gz ax ay az : Int) : Burst :=
  let pair (n : Int) : BytePair :=
    ⟨BitVec.ofNat 8 ((n % 65536).toNat / 256), BitVec.ofNat 8 ((n % 65536).toNat % 256)⟩
  ⟨⟨0, 0⟩, ⟨0, 0⟩, pair gz, pair ax, pair ay, pair az⟩

/-- Chapter 1's worked case: S 16,384, k 6, L 3, H 2, a burst in flight, TRACKING, with a yaw axis. -/
def filtering (yaw : Axis) : State :=
  { live with me := { MotionEngine.powerOn with
      motion := .tracking, burst := some ⟨0, .highFirst⟩, gapDeadline := some 1500, yaw := yaw
      lastGood := ⟨1180, 0, 0, 0, 0⟩
      table := { MotionTable.powerOn with leakShift := 6, lead := 3, hold := 2 } } }

/-! ### Motion (chapter 1) -/

/-- Chapter 1's worked case, event 1. -/
theorem test_filter_event_1 : shows (exec (.sampleArrival (burstOf 1200 0 0 0)) (filtering ⟨100000, 0, false, 0⟩))
    (fun t => decide (t.me.yaw = ⟨103238, 4800, false, 0⟩)) = true := by decide +kernel

/-- Event 3: a substitute of the last good sample, at the gap timer's deadline. -/
theorem test_filter_event_3 : shows (exec .gapExpiry (filtering ⟨106345, 4720, false, 0⟩))
    (fun t => decide (t.me.yaw = ⟨109404, 4720, false, 0⟩ ∧ t.me.gapCount = 1 ∧ t.lp.counters.sampleGaps = 1 ∧
      t.smn.partTime = 1500 ∧ t.me.gapDeadline = some 3000)) = true := by decide +kernel

/-- Event 4: the guard is on. -/
theorem test_filter_event_4 : shows (exec (.sampleArrival (burstOf (-400) 0 0 0)) (filtering ⟨109404, 4720, true, 0⟩))
    (fun t => decide (t.me.yaw = ⟨100967, -1600, true, 0⟩)) = true := by decide +kernel

/-- Event 5: a held axis. -/
theorem test_filter_event_5 : shows (exec (.sampleArrival (burstOf 77 0 0 0)) (filtering ⟨100967, -1600, true, 2⟩))
    (fun t => decide (t.me.yaw = ⟨100967, 0, true, 1⟩)) = true := by decide +kernel

/-- R13's two leaks and its dead zone, and R12's two roundings. -/
theorem test_roundings :
    (Axis.leak ⟨100000, 0, false, 0⟩ { MotionTable.powerOn with leakShift := 6 }) = 1562 ∧
      (Axis.leak ⟨-100000, 0, false, 0⟩ { MotionTable.powerOn with leakShift := 6 }) = -1562 ∧
      (Axis.leak ⟨63, 0, false, 0⟩ { MotionTable.powerOn with leakShift := 6 }) = 0 ∧
      increment { MotionTable.powerOn with rateScale := 2048 } 1 = 1 ∧
      increment { MotionTable.powerOn with rateScale := 2048 } (-1) = -1 ∧
      increment { MotionTable.powerOn with rateScale := 10000 } 1201 = 2932 := by decide +kernel

/-- R14's saturating sum. -/
theorem test_sum_saturates :
    shows (exec (.sampleArrival (burstOf 32767 0 0 0)) { live with me := { MotionEngine.powerOn with
        motion := .tracking, burst := some ⟨0, .highFirst⟩, yaw := ⟨16700000, 0, false, 0⟩
        table := { MotionTable.powerOn with rateScale := 65535 } } })
      (fun t => decide (t.me.yaw.c = 16777215 ∧ t.me.yaw.last = 524264)) = true := by decide +kernel

/-- R7: the eighth gap makes the state LOST. -/
theorem test_eighth_gap_loses_motion :
    shows (exec .gapExpiry { filtering ⟨5, 5, true, 0⟩ with me := { (filtering ⟨5, 5, true, 0⟩).me with gapCount := 7 } })
      (fun t => decide (t.me.motion = .lost ∧ t.me.yaw = Axis.zero ∧
        t.lp.notices = [⟨.motionLost, 1, .number 1, 1500⟩])) = true := by decide +kernel

/-! ### Shock (chapter 4) -/

/-- The detector of chapter 4's worked case: T 8,000, N 3. -/
def shockTable : MotionTable := { MotionTable.powerOn with shockThreshold := 8000, shockCount := 3, hold := 200 }

/-- Chapter 4's worked case, events 3, 5, 8 and 11. -/
theorem test_detector_events :
    (Detector.test ⟨false, 1, 65000000⟩ shockTable 91000000) = (⟨false, 2, 91000000⟩, none) ∧
      (Detector.test ⟨false, 2, 91000000⟩ shockTable 69000000).1.raised = true ∧
      (Detector.test ⟨false, 2, 91000000⟩ shockTable 69000000).2 = some (91000000, 3) ∧
      (Detector.test ⟨true, 1, 0⟩ shockTable 81000000).1.run = 0 ∧
      (Detector.test ⟨true, 2, 0⟩ shockTable 18000000) = (Detector.quiet, none) := by decide +kernel

/-- A clip 7 that records, with the ranges of chapter 4's worked case. -/
def clip7 : ClipRecord :=
  { ClipRecord.fresh 7 0 false with ranges := [(40960, 1024), (90112, 256), (90496, 128)], slotCount := 11, written := 11 }

/-- Chapter 4's worked case before event 5: 13 LOADED ranges, the detector at two over samples. -/
def impact : State :=
  { filtering Axis.zero with
    me := { (filtering Axis.zero).me with table := shockTable, detector := ⟨false, 2, 91000000⟩ }
    clc := { ClipController.powerOn with mode := .recording, clips := [clip7], nextClip := some 8 }
    xm := ⟨[], (List.range 13).map (fun i => some ⟨i, 1, .loaded, none⟩) ++ [none, none, none]⟩ }

/-- Event 5: the lock takes indexes 13 to 15, and the notice carries LOCKED and clip 7. -/
theorem test_shock_locks_the_clip : shows (exec (.sampleArrival (burstOf 0 7000 4000 2000)) impact)
    (fun t => decide (t.lp.counters.shocks = 1 ∧ t.me.yaw.hold = 200 ∧ t.me.pitch.hold = 200 ∧
      t.xm.protect.drop 13 = [some ⟨40960, 1024, .lock, some 7⟩, some ⟨90112, 256, .lock, some 7⟩,
        some ⟨90496, 128, .lock, some 7⟩] ∧
      t.lp.notices = [⟨.shock, 1, .shock .locked 7, 0⟩])) = true := by decide +kernel

/-- The protect table after the lock of chapter 4's worked case. -/
def locked : State :=
  { impact with
    clc := { impact.clc with clips := [{ clip7 with locked := true }] }
    xm := ⟨[], impact.xm.protect.take 13 ++ [some ⟨40960, 1024, .lock, some 7⟩, some ⟨90112, 256, .lock, some 7⟩,
      some ⟨90496, 128, .lock, some 7⟩]⟩ }

/-- Writes 1 and 2 of that case: range C is lengthened; a range that finds the table full leaves LOCK PARTIAL. -/
theorem test_lock_follows_writes :
    (locked.updateLock 7 90624).xm.protect.drop 15 = [some ⟨90496, 256, .lock, some 7⟩] ∧
      (locked.updateLock 7 200000).xm = locked.xm ∧
      (locked.updateLock 7 200000).lp.notices = [⟨.lockPartial, 1, .number 7, 0⟩] := by decide +kernel

/-- Commands 4 and 5 of that case. -/
theorem test_remove_protect_of_an_open_clip_is_busy :
    shows (exec (.removeProtect 9 [13]) locked) (fun t => decide (t.lp.replies = [⟨9, 5, .busy⟩] ∧ t.xm = locked.xm)) =
        true ∧
      shows (exec (.removeProtect 9 [3]) locked) (fun t => decide (t.lp.replies = [⟨9, 5, .done .plain⟩] ∧
        t.xm.protect[3]? = some none)) = true := by decide +kernel

/-! ### Picture (chapters 2 and 3) -/

/-- The curve of chapter 2's worked case. -/
def curve : List Nat :=
  [0, 80, 160, 239, 318, 397, 477, 556, 634, 712, 790, 867, 944, 1021, 1097, 1173, 1248]

/-- Band 0, band 1 and the lift of chapter 2's worked case. -/
theorem test_lens_conversions :
    lensOffset 14 curve 117638 = (36, false) ∧ lensOffset 14 curve (-300000) = (-78, true) ∧
      lensOffset 14 curve (-200000) = (-60, false) ∧ clampOffset 56 (-60) = -56 ∧
      guardDecision 56 12 (-60) = true ∧ guardDecision 384 12 36 = false := by decide +kernel

/-- Chapter 2's worked case at the frame start: c_pred −200,000 through the pitch axis. -/
theorem test_frame_start_clamps_the_lift :
    shows (exec .frameStart { live with
        me := { MotionEngine.powerOn with motion := .tracking, pitch := ⟨-200000, 0, false, 0⟩ }
        wu := { WindowUnit.powerOn with lens := ⟨14, curve, 14, curve⟩, window := some ⟨3840, 2160, 3072, 2048, 8⟩ } })
      (fun t => decide (t.wu.frame.map (·.lift) = some ⟨-56, -60, true, false, true, false⟩ ∧
        t.lp.counters.clampedBands = 1 ∧ t.me.pitch.guardOn = true ∧ t.sp.lineLimit = some 2160 ∧
        t.sp.frameNumber = 1)) = true := by decide +kernel

/-- Chapter 3's worked case: frame 41, dy −1, band 0 entered with dx 5. -/
def frame41 (expected : Nat) : State :=
  { live with
    sp := ⟨41, true, expected, some 64, true⟩
    wu := { WindowUnit.powerOn with
      window := some ⟨128, 64, 96, 60, 4⟩
      frame := some ⟨41, ⟨-1, -1, false, false, false, false⟩, 4,
        [some ⟨5, 5, false, false, false, false⟩, none, none, none], expected, 0, 0⟩ } }


/-- Line 2 with 120 pixels: padded, and sent as output line 1, ADJUSTED, columns 21 to 116. -/
theorem test_padded_line_cell :
    shows (exec (.line 2 ((List.range 120).map (BitVec.ofNat 16))) (frame41 2)) (fun t =>
      match t.lp.lines with
      | [.line 41 1 0 true pixels] => decide (pixels.length = 96 ∧ pixels[0]? = some 21 ∧ pixels[95]? = some 116 ∧
          t.sp.expectedLine = 3 ∧ t.lp.counters.linesMalformed = 1)
      | _ => false) = true := by decide +kernel

/-- Line 2 a second time is PASSED; line 70 is OUT OF RANGE; line 0 lies above the crop. -/
theorem test_lines_that_give_no_cell :
    shows (exec (.line 2 []) (frame41 3)) (fun t => decide (t.lp.counters.linesMalformed = 1 ∧ t.sp.expectedLine = 3)) =
        true ∧
      shows (exec (.line 70 []) (frame41 21)) (fun t => decide (t.lp.counters.linesMalformed = 1 ∧
        t.sp.expectedLine = 21)) = true ∧
      shows (exec (.line 0 (List.replicate 128 9)) (frame41 0)) (fun t => decide (t.lp.lines = [] ∧
        t.lp.counters.linesMalformed = 0 ∧ t.sp.expectedLine = 1)) = true := by decide +kernel

/-- The same frame when its last line is seen. -/
def frame41Seen : State :=
  let f : FrameRecord := ⟨41, ⟨-1, -1, false, false, false, false⟩, 4, List.replicate 4 (some BandEntry.centred), 61, 55, 2⟩
  { frame41 64 with wu := { (frame41 64).wu with frame := some f } }

/-- The frame's end: SHORT at 61 of 64 lines. -/
theorem test_short_frame_ends :
    shows (exec .frameEnd frame41Seen)
      (fun t => decide (t.lp.lines = [.frameEnd 41 55 2 true] ∧ t.lp.counters.framesShort = 1 ∧ t.wu.frame = none ∧
        t.sp.frameOpen = false)) = true := by decide +kernel

/-! ### Extents and the card (chapters 6 and 7) -/

/-- A card of chapter 6's worked case, READY at G3, with a low mark of 4 and one LOADED range. -/
def carded : State :=
  { live with
    cp := { CardPort.powerOn true with
      card := .ready, detect := true, settle := none, capacity := some 62333952, maxGrade := some .g3
      gradeInUse := some .g3, writer := .idle }
    clc := { ClipController.powerOn with
      mode := .recording, nextClip := some 4, clips := [ClipRecord.fresh 3 0 false]
      table := { RecorderTable.powerOn with lowMark := 4 } }
    xm := ⟨[], some ⟨0, 32768, .loaded, none⟩ :: List.replicate 15 none⟩ }

/-- The table of chapter 6's worked case after step 1. -/
def oneExtent : State := { carded with xm := ⟨[⟨32768, 512, 0⟩], carded.xm.protect⟩ }

/-- Steps 1 and 2 of chapter 6's worked case. -/
theorem test_append_steps_1_and_2 :
    shows (exec (.appendExtent 1 [0, 0, 128, 0, 0, 0, 2, 0]) carded) (fun t =>
        decide (t.xm = oneExtent.xm ∧ t.lp.replies = [⟨1, 2, .done (.remaining 4)⟩] ∧ t.lp.notices = [])) = true ∧
      shows (exec (.appendExtent 2 (beBytes 4 33000 ++ beBytes 4 256)) oneExtent) (fun t =>
        decide (t.xm = oneExtent.xm ∧ t.lp.replies = [⟨2, 2, .refused .overlap⟩])) = true := by decide +kernel

/-- Steps 3 and 4. -/
theorem test_append_steps_3_and_4 :
    shows (exec (.appendExtent 3 (beBytes 4 65536 ++ beBytes 4 380)) oneExtent) (fun t =>
        decide (t.lp.replies = [⟨3, 2, .refused .badRange⟩])) = true ∧
      shows (exec (.appendExtent 4 (beBytes 4 65536 ++ beBytes 4 384)) oneExtent) (fun t =>
        decide (t.xm.extents = [⟨32768, 512, 0⟩, ⟨65536, 384, 0⟩] ∧
          t.lp.replies = [⟨4, 2, .done (.remaining 7)⟩])) = true := by decide +kernel

/-- Step 6: the last position of extent A is consumed, and EXTENT LOW is posted with 3. -/
theorem test_consumed_head_is_removed :
    ({ carded with xm := ⟨[⟨32768, 512, 384⟩, ⟨65536, 384, 0⟩], carded.xm.protect⟩ } : State).consume.xm.extents =
        [⟨65536, 384, 0⟩] ∧
      ({ carded with xm := ⟨[⟨32768, 512, 384⟩, ⟨65536, 384, 0⟩], carded.xm.protect⟩ } : State).consume.lp.notices =
        [⟨.extentLow, 1, .number 3, 0⟩] := by decide +kernel

/-- Step 9 takes index 1; its variant after step 10 overlaps an unused part. -/
theorem test_add_protect :
    shows (exec (.addProtect 5 (beBytes 4 33024 ++ beBytes 8 128)) carded) (fun t =>
        decide (t.xm.protect[1]? = some (some ⟨33024, 128, .loaded, none⟩) ∧
          t.lp.replies = [⟨5, 4, .done (.index 1)⟩])) = true ∧
      shows (exec (.addProtect 6 (beBytes 4 99000 ++ beBytes 8 64)) { carded with
          xm := ⟨[⟨98304, 1024, 0⟩], carded.xm.protect⟩ }) (fun t =>
        decide (t.lp.replies = [⟨6, 4, .refused .overlap⟩])) = true := by decide +kernel

/-- A queued data slot of a clip. -/
def queuedSlot (clip sequence : Nat) : SlotRecord :=
  { SlotRecord.free with
    state := .queued, clip := some clip, sequence := some sequence, fill := 65500, firstTime := some 1, lastTime := some 2 }

/-- Chapter 7's worked case at its start: WARM, G3 in use, slot 77 of clip 12 at the head. -/
def wearing : State :=
  { carded with
    smn := { SupplyMonitor.powerOn with die := .warm }
    xm := ⟨[⟨40960, 512, 256⟩], List.replicate 16 none⟩
    sb := { SlotBuffer.powerOn with slots := [(77, queuedSlot 12 30)], queue := [77] }
    clc := { carded.clc with clips := [{ ClipRecord.fresh 12 0 false with slotCount := 31, written := 30 }]
                             nextClip := some 13 } }

/-- The part of chapter 7's worked case inside an attempt. -/
def attempt (what : CardWait) (w : SlotWrite) : State :=
  { wearing with
    sb := { wearing.sb with slots := [(77, { queuedSlot 12 30 with state := .writing })], queue := [] }
    cp := { wearing.cp with
      card := .writing, writer := .sending, gradeInUse := some .g2, write := some w, wait := some ⟨what, 250000⟩ } }

/-- Start: SET GRADE with G2, the position 41,216; the answer takes slot 77. -/
theorem test_write_starts_with_its_grade :
    shows (exec (.slotWriteStart ⟨0, 0⟩) wearing) (fun t => decide (t.cp.sent = some (.setGrade .g2) ∧
        t.cp.writer = .mapping ∧ t.cp.write = some ⟨none, 41216, 1, 0, 0, .g2⟩ ∧ t.sb.queue = [77])) = true ∧
      shows (exec (.setGradeAnswer ⟨1, 0⟩) { wearing with cp := { wearing.cp with
          writer := .mapping, write := some ⟨none, 41216, 1, 0, 0, .g2⟩, wait := some ⟨.writeGrade, 100000⟩ } })
        (fun t => decide (t.cp.gradeInUse = some .g2 ∧ t.cp.write = some ⟨some 77, 41216, 1, 0, 0, .g2⟩ ∧
          t.cp.sent = some (.writeBlocks 41216 128) ∧ t.cp.card = .writing ∧ t.lp.counters.eccCorrected = 1)) =
        true := by decide +kernel

/-- Attempt 1 ends at block 89, and attempt 2 is made at the same position. -/
theorem test_first_failure_repeats :
    shows (exec (.blockAnswer .writeError ⟨0, 0⟩) (attempt .block ⟨some 77, 41216, 1, 0, 89, .g2⟩)) (fun t =>
        decide (t.lp.counters.cardRetries = 1 ∧ t.cp.sent = some .stop)) = true ∧
      shows (exec (.readyReport ⟨.afterStop, ⟨0, 0⟩⟩) (attempt .stopped ⟨some 77, 41216, 1, 0, 89, .g2⟩)) (fun t =>
        decide (t.cp.write = some ⟨some 77, 41216, 1, 1, 0, .g2⟩)) = true := by decide +kernel

/-- After attempt 2 the position is skipped; after attempt 4 the card is FAILED and the table is empty. -/
theorem test_second_failures_skip_and_fail :
    shows (exec (.readyReport ⟨.afterStop, ⟨0, 0⟩⟩) (attempt .stopped ⟨some 77, 41216, 1, 1, 128, .g2⟩)) (fun t =>
        decide (t.cp.write = some ⟨some 77, 41344, 2, 0, 0, .g2⟩ ∧ t.lp.counters.cardSkips = 1 ∧
          t.xm.extents = [⟨40960, 512, 384⟩] ∧ (t.clc.clip 12).map (·.skippedRanges) = some 1)) = true ∧
      shows (exec (.readyReport ⟨.afterStop, ⟨0, 0⟩⟩) { attempt .stopped ⟨some 77, 41344, 2, 1, 0, .g2⟩ with
          xm := ⟨[⟨40960, 512, 384⟩], List.replicate 16 none⟩ }) (fun t =>
        decide (t.cp.card = .failed ∧ t.cp.writer = .suspended .cardFailed ∧ t.xm.extents = [] ∧ t.sb.queue = [77] ∧
          t.lp.notices = [⟨.cardFailed, 1, .number 12, 0⟩, ⟨.cardChange, 1, .card .failed, 0⟩])) = true := by decide +kernel

/-- R113: a ready report raised before STOP reached the card, behind the busy timer's expiry, does nothing. -/
theorem test_ready_report_raised_before_stop_is_ignored :
    shows (exec (.readyReport ⟨.beforeStop, ⟨0, 0⟩⟩) (attempt .stopped ⟨some 77, 41216, 1, 0, 128, .g2⟩)) (fun t =>
      decide (t.cp = (attempt .stopped ⟨some 77, 41216, 1, 0, 128, .g2⟩).cp)) = true := by decide +kernel

/-- The 128th block settles, and the ready report completes the slot. -/
theorem test_write_completes :
    shows (exec (.blockAnswer .accepted ⟨0, 0⟩) (attempt .block ⟨some 77, 41216, 1, 0, 127, .g2⟩)) (fun t =>
        decide (t.cp.card = .settling ∧ t.cp.wait = some ⟨.settled, 250000⟩)) = true ∧
      shows (exec (.readyReport ⟨.afterStop, ⟨0, 0⟩⟩) (attempt .settled ⟨some 77, 41216, 1, 0, 128, .g2⟩)) (fun t =>
        decide (t.cp.card = .ready ∧ t.cp.writer = .idle ∧ t.sb.slots = [] ∧ t.xm.extents = [⟨40960, 512, 384⟩] ∧
          (t.clc.clip 12).map (fun c => (c.written, c.ranges)) = some (31, [(41216, 128)]))) = true := by
  decide +kernel

/-- R106: a new card gives its grade; SET GRADE is sent with the lowest of G1, G3 and the WARM cap. -/
theorem test_attach_of_a_new_card :
    shows (exec (.identifyAnswer ⟨true, 1000000#32, 1⟩) { wearing with cp := { wearing.cp with
        card := .attaching, writer := .suspended .noCard, wait := some ⟨.identify, 100000⟩ } }) (fun t =>
      decide (t.cp.sent = some (.setGrade .g1) ∧ t.cp.capacity = some 1000000 ∧ t.cp.maxGrade = some .g1)) = true ∧
      shows (exec (.setGradeAnswer ⟨0, 0⟩) { wearing with cp := { wearing.cp with
        card := .attaching, writer := .suspended .noCard, wait := some ⟨.attachGrade .g1, 100000⟩ } }) (fun t =>
      decide (t.cp.card = .ready ∧ t.cp.writer = .idle ∧ t.cp.gradeInUse = some .g1 ∧
        t.lp.notices = [⟨.cardChange, 1, .card .ready, 0⟩])) = true := by decide +kernel

/-- R105: a change of the line starts 20 ms. -/
theorem test_detect_line_settles :
    shows (exec .detectLineChange live) (fun t => decide (t.cp.rawDetect = true ∧ t.cp.settle = some 20000)) = true := by
  decide +kernel

/-! ### The buffer and the recorder (chapters 5 and 8) -/

/-- A FILLING slot 5 while ARMED, standing at a FILL LENGTH, with a ring of three. -/
def armed (fill : Nat) : State :=
  let member (sync : Option Nat) : SlotRecord :=
    { SlotRecord.free with state := .preroll, fill := 65500, firstSync := sync, firstTime := some 1, lastTime := some 2
                           count := 9, prerollOrigin := true }
  { live with
    clc := { ClipController.powerOn with
      mode := .armed, nextClip := some 9, table := { RecorderTable.powerOn with prerollDepth := 3 } }
    sb := { SlotBuffer.powerOn with
      slots := [(0, queuedSlot 8 40), (1, queuedSlot 8 41), (2, member none), (3, member (some 1200)), (4, member none),
        (5, { SlotRecord.free with state := .filling, fill := fill, prerollOrigin := true })]
      filling := some 5, ring := [2, 3, 4], queue := [0, 1] } }

/-- Chapter 5's worked case, step 1, at its own fill: 64,900 and a record of 4,008 bytes close slot 5, slot 2 leaves
the ring and is the new FILLING slot, here with a payload of 700 bytes. -/
theorem test_cell_that_does_not_fit_closes_the_slot :
    shows (exec (.clipCell 1 0 (List.replicate 700 7)) (armed 64900)) (fun t =>
      decide (t.sb.ring = [3, 4, 5] ∧ t.sb.filling = some 2 ∧ (t.sb.slot 2).fill = 772 ∧
        (t.sb.slot 2).firstSync = some 64 ∧ (t.sb.slot 5).state = .preroll ∧ (t.sb.slot 5).fill = 64900 ∧
        Memory.read t.sb.mem (slotAddress 5 64900) = some 0 ∧
        Memory.read t.sb.mem (slotAddress 5 64902) = some 2 ∧ Memory.read t.sb.mem (slotAddress 5 64903) = some 0x74 ∧
        Memory.read t.sb.mem (slotAddress 2 64) = some 1 ∧ Memory.read t.sb.mem (slotAddress 2 66) = some 2)) = true := by
  decide +kernel

/-- R74's example: a PAD record of LENGTH 128 at 65,400; a remainder of 6 bytes is zeros. -/
theorem test_pad_records :
    (padBytes 65400 0).take 4 = [0, 0, 0, 128] ∧ (padBytes 65400 0).length = 136 ∧ padBytes 65530 0 = [0, 0, 0, 0, 0, 0] := by
  decide +kernel

/-- Chapter 5's worked case, step 3: slots 3, 4 and 5 become clip 9's first slots. -/
theorem test_start_record_takes_the_ring :
    shows (exec (.startRecord 1 []) { armed 4072 with sb := { (armed 4072).sb with
        slots := [(2, { SlotRecord.free with state := .filling, fill := 4072, firstSync := some 64 }),
          (3, { queuedSlot 0 0 with state := .preroll, clip := none, firstSync := some 1200 }),
          (4, { queuedSlot 0 0 with state := .preroll, clip := none }),
          (5, { queuedSlot 0 0 with state := .preroll, clip := none })]
        filling := some 2, ring := [3, 4, 5], queue := [] } }) (fun t =>
      decide (t.sb.queue = [3, 4, 5] ∧ t.sb.ring = [] ∧ t.sb.filling = some 2 ∧ (t.sb.slot 5).sequence = some 2 ∧
        (t.clc.clip 9).map (fun c => (c.slotCount, c.startOffset)) = some (3, some 1200) ∧
        t.lp.replies = [⟨1, 8, .done (.clipNumber 9)⟩])) = true := by decide +kernel

/-- The variant without a sync point: all three become FREE. -/
theorem test_start_record_without_sync_point :
    shows (exec (.startRecord 1 []) { armed 4072 with sb := { (armed 4072).sb with
        slots := [(3, { queuedSlot 0 0 with state := .preroll }), (4, { queuedSlot 0 0 with state := .preroll })]
        filling := none, ring := [3, 4], queue := [] } }) (fun t =>
      decide (t.sb.queue = [] ∧ t.sb.slots = [] ∧ (t.clc.clip 9).map (·.slotCount) = some 0)) = true := by
  decide +kernel

/-- Chapter 8's worked case: clip 14 with slots 210 to 212. -/
def stopping : State :=
  { carded with
    clc := { ClipController.powerOn with
      mode := .recording, nextClip := some 15, table := { RecorderTable.powerOn with drainTime := 300 }
      clips := [{ ClipRecord.fresh 14 0 false with slotCount := 40, written := 38, ranges := [(20480, 4864)]
                                                   startOffset := some 64 }] }
    xm := ⟨[⟨20480, 8192, 4864⟩], List.replicate 16 none⟩
    sb := { SlotBuffer.powerOn with
      slots := [(210, { queuedSlot 14 38 with state := .writing }), (211, queuedSlot 14 39),
        (212, { SlotRecord.free with state := .filling, fill := 65000 })]
      filling := some 212, queue := [211] }
    cp := { carded.cp with
      card := .settling, writer := .settling, write := some ⟨some 210, 25344, 1, 0, 128, .g3⟩
      wait := some ⟨.settled, 250000⟩ } }

/-- Step 1: STOP RECORD starts the drain. -/
theorem test_stop_record_starts_the_drain :
    shows (exec (.stopRecord 1 []) stopping) (fun t => decide (t.clc.mode = .idle ∧ t.clc.drain = some ⟨14, 300000⟩ ∧
      (t.clc.clip 14).map (fun c => (c.state, c.endReason)) = some (.closing, some .stop) ∧
      t.lp.replies = [⟨1, 9, .done (.clipNumber 14)⟩])) = true := by decide +kernel

/-- The same part once the drain runs. -/
def draining : State :=
  { stopping with clc := { stopping.clc with
      mode := .idle, drain := some ⟨14, 300000⟩
      clips := [{ ClipRecord.fresh 14 0 false with
        state := .closing, endReason := some .stop, slotCount := 40, written := 38, ranges := [(20480, 4864)]
        startOffset := some 64 }] } }

/-- Step 3: slot 210's write lengthens the range; slot 210 is FREE. -/
theorem test_completed_slot_lengthens_the_range :
    shows (exec (.readyReport ⟨.afterStop, ⟨0, 0⟩⟩) draining) (fun t => decide (
      (t.clc.clip 14).map (fun c => (c.written, c.ranges)) = some (39, [(20480, 4992)]) ∧
      t.sb.slots.lookup 210 = none ∧ t.xm.extents = [⟨20480, 8192, 4992⟩])) = true := by decide +kernel

/-- Step 4 and the variant with the timer first: the slot closes FINAL with sequence 40. -/
theorem test_drain_ends :
    shows (exec .drainTimeout draining) (fun t => decide (t.clc.drain = none ∧ t.sb.filling = none ∧
        t.sb.queue = [211, 212] ∧ (t.sb.slot 212).sequence = some 40 ∧ (t.sb.slot 212).final = true ∧
        t.smn.partTime = 300000 ∧ (t.clc.clip 14).map (fun c => (c.slotCount, c.dataDone)) = some (41, true))) = true ∧
      shows (exec (.clipCell 4 0 (List.replicate 20 1)) draining) (fun t => decide (t.clc.drain = none ∧
        t.sb.queue = [211, 212] ∧ (t.sb.slot 212).fill = 65028)) = true := by decide +kernel

/-- Step 5: a cell after the drain is unexpected. -/
theorem test_cell_after_the_drain_is_unexpected :
    shows (exec (.clipCell 0 8 [1]) live) (fun t => decide (t.lp.counters.clipCellsUnexpected = 1 ∧
      t.lp.expectedSequence = some 9)) = true := by decide +kernel

/-- R169: a cell sent twice shows a gap of 65,535. -/
theorem test_repeated_cell_is_a_gap :
    shows (exec (.clipCell 0 8 [1]) { live with lp := { live.lp with expectedSequence := some 9 } }) (fun t =>
      decide (t.lp.counters.clipCellsMissing = 65535 ∧ t.lp.expectedSequence = some 9)) = true := by decide +kernel

/-! ### Supply (chapters 9 and 10) -/

/-- Readings near those of chapter 9's worked case. -/
def reading (iSys tDie : Int) : Readings := ⟨5000, 900, 3850, 100, iSys, some 310, tDie⟩

/-- Chapter 9's worked case: FAST, 1,000 mA at 4,200 mV, an input limit of 1,500 mA, the fast count at n. -/
def charging (n : Nat) : State :=
  { carded with chg := { ChargeController.powerOn with
      state := .fast, reason := none, switchClosed := true, fastCount := n, inputLimit := 1500
      table := { ProfileTable.powerOn with rows := [⟨0, 450, 1000, 4200⟩] } } }

/-- The same part with the card WRITING at G2. -/
def chargingWriting (card : CardState) (n : Nat) : State :=
  { charging n with cp := { carded.cp with card := card, gradeInUse := some .g2 } }

/-- Sweeps n and n + 1: 825 and 675 mA. -/
theorem test_target_of_two_sweeps :
    shows (exec (.sweep (reading 620 300)) (charging 12000)) (fun t => decide (t.chg.avail = some 830 ∧
        t.chg.target = 825 ∧ t.chg.fastCount = 12001 ∧ t.smn.partTime = 10000)) = true ∧
      shows (exec (.sweep (reading 620 300)) (chargingWriting .writing 12001)) (fun t => decide (
        t.chg.avail = some 690 ∧ t.chg.target = 675 ∧ t.chg.fastCount = 12002)) = true := by decide +kernel

/-- Sweeps n + 2 and n + 3: the HOT die halves the ceiling, and a sweep of target 0 is not counted. -/
theorem test_target_of_hot_and_starved_sweeps :
    shows (exec (.sweep (reading 620 1000)) (chargingWriting .writing 12002)) (fun t => decide (t.smn.die = .hot ∧
        t.chg.target = 500 ∧ t.chg.fastCount = 12003)) = true ∧
      shows (exec (.sweep (reading 1400 1000)) (chargingWriting .settling 12003)) (fun t => decide (
        t.chg.avail = some (-90) ∧ t.chg.target = 0 ∧ t.chg.fastCount = 12003)) = true := by decide +kernel

/-- R156's three values. -/
theorem test_set_input_limit :
    shows (exec (.setInputLimit 1 (beBytes 2 1234)) live) (fun t => decide (t.chg.inputLimit = 1225)) = true ∧
      shows (exec (.setInputLimit 1 (beBytes 2 60)) live) (fun t => decide (t.chg.inputLimit = 100)) = true ∧
      shows (exec (.setInputLimit 1 (beBytes 2 5000)) live) (fun t => decide (t.chg.inputLimit = 3000)) = true := by
  decide +kernel

/-- R160: with the switch open, V CUT is dark. -/
theorem test_cutoff :
    shows (exec (.sweep ⟨0, 0, 3200, 0, 0, some 250, 300⟩) live) (fun t => decide (t.powered = false)) = true ∧
      shows (exec (.sweep ⟨0, 0, 3201, 0, 0, some 250, 300⟩) live) (fun t => decide (t.powered = true ∧
        t.smn.battery = .low ∧ t.lp.notices = [⟨.batteryLow, 1, .number 3201, 10000⟩])) = true := by decide +kernel

/-! ### Links and standby -/

/-- R172: the ninth CONTROL cell is lost. -/
theorem test_ninth_command_is_lost :
    shows (exec (.arm 1 []) { live with lp := { live.lp with replies := List.replicate 8 ⟨0, 0, .busy⟩ } }) (fun t =>
      decide (t.lp.counters.controlCellsLost = 1 ∧ t.lp.replies.length = 8 ∧ t.clc.mode = .idle)) = true := by
  decide +kernel

/-- R166: WAKE takes 2 ms, and every command but QUERY is BUSY in it. -/
theorem test_wake_runs_two_milliseconds :
    shows (exec (.wake 1 []) { live with smn := { live.smn with standby := .standby, reason := some .command } })
        (fun t => decide (t.smn.standby = .waking ∧ t.smn.wakeDeadline = some 2000)) = true ∧
      shows (exec (.arm 1 []) { live with smn := { live.smn with standby := .waking } }) (fun t =>
        decide (t.lp.replies = [⟨1, 6, .busy⟩])) = true := by decide +kernel

/-- R179: the bytes of a refusal, and of a NOTICE cell's payload for SHOCK, LOCKED, clip 7. -/
theorem test_outbound_payloads :
    resultBytes (.refused (.badTable 4)) = [2, 3, 4] ∧
      noticePayload ⟨.shock, 1, .shock .locked 7, 5⟩ = [2, 0, 1, 0, 0, 0, 0, 0, 5, 3, 0, 0, 0, 0, 7] := by decide +kernel

/-! ### Witnesses: steps, power and the invariants -/

/-- The part after power-on with a card in the socket and a command waiting. -/
def waiting : State := State.powerOn true [.dataReady, .frameStart]

theorem witness_StepRunsFrontCommand : waiting.pending = .dataReady :: [.frameStart] := rfl

theorem witness_DarkPartTakesOnlyPowerOn :
    (({ live with powered := false } : State).powered = false ∧ ∀ b, Instr.dataReady ≠ .powerOn b) ∧
      (({ live with powered := false } : State).pending = [] ∧ ({ live with powered := false } : State).powered = false) ∧
      (live.pending = [] ∧ live.powered = true) :=
  ⟨⟨rfl, fun _ h => Instr.noConfusion h⟩, ⟨rfl, rfl⟩, rfl, rfl⟩

theorem witness_PowerOnMeetsEveryLaw : State.reset = State.powerOn false [] := rfl

theorem witness_FreeLinkHasNothingWaiting : waiting.linkOk ∧ ∃ t, step waiting = .next t :=
  ⟨fun _ => ⟨rfl, rfl, rfl⟩, _, rfl⟩

theorem witness_OneNoticeEntryPerKind : waiting.noticesOk ∧ waiting.noticeCountsOk ∧ ∃ t, step waiting = .next t :=
  ⟨by unfold State.noticesOk; decide, by unfold State.noticeCountsOk; decide, _, rfl⟩

theorem witness_CountsAndQueuesStayInRange :
    waiting.repliesOk ∧ waiting.linesOk ∧ waiting.countersOk ∧ waiting.countsOk ∧ ∃ t, step waiting = .next t :=
  ⟨by unfold State.repliesOk; decide, by unfold State.linesOk; decide, by unfold State.countersOk; decide,
    by unfold State.countsOk; decide, _, rfl⟩

theorem witness_CorrectionStaysBounded : waiting.correctionOk ∧ ∃ t, step waiting = .next t :=
  ⟨by unfold State.correctionOk; decide, _, rfl⟩

theorem waiting_numbersOk : waiting.numbersOk := by
  refine ⟨by decide, by decide, ?_⟩
  intro n h
  obtain rfl := Option.some.inj h
  decide

theorem witness_OneOpenClipAtMost : waiting.recorderOk ∧ waiting.numbersOk ∧ ∃ t, step waiting = .next t :=
  ⟨by unfold State.recorderOk; decide, waiting_numbersOk, _, rfl⟩

theorem witness_TargetIsZeroUnlessCharging :
    waiting.targetOk ∧ waiting.switchOk ∧ waiting.inputLimitOk ∧ ∃ t, step waiting = .next t :=
  ⟨by unfold State.targetOk; decide, by unfold State.switchOk; decide, by unfold State.inputLimitOk; decide, _, rfl⟩

theorem witness_StandbyHasNoCardWrite : waiting.parkedOk ∧ waiting.reasonOk ∧ ∃ t, step waiting = .next t :=
  ⟨by unfold State.parkedOk; decide, by unfold State.reasonOk; decide, _, rfl⟩

/-- A part with a frame open under a table, and a clamped lift. -/
def framed : State := { frame41 0 with pending := [.frameEnd] }

theorem witness_CropStaysInsideTheFrame : framed.cropOk ∧ ∃ t, step framed = .next t := by
  refine ⟨?_, _, rfl⟩
  intro f w hf hw
  obtain rfl := Option.some.inj hf
  obtain rfl := Option.some.inj hw
  refine ⟨by decide, ?_⟩
  intro e he
  simp only [List.mem_cons, List.not_mem_nil, or_false, Option.some.injEq, reduceCtorEq] at he
  subst he
  decide

/-- A READY card with one extent and a LOADED range beside it. -/
def mapped : State := { oneExtent with pending := [.slotWriteStart ⟨0, 0⟩] }

theorem witness_extentsOk : mapped.extentsOk := by unfold State.extentsOk; decide

theorem witness_ExtentsNeverOverlap : mapped.extentsOk ∧ mapped.placesOk ∧ ∃ t, step mapped = .next t :=
  ⟨witness_extentsOk, by unfold State.placesOk; decide, _, rfl⟩

theorem witness_UnusedExtentsStayUnprotected : mapped.mapOk ∧ ∃ t, step mapped = .next t := by
  refine ⟨⟨witness_extentsOk, ?_, fun w h => by cases h⟩, _, rfl⟩
  intro e he r hr
  obtain rfl : e = ⟨32768, 512, 0⟩ := List.mem_singleton.mp he
  have h : some r ∈ [some (⟨0, 32768, .loaded, none⟩ : ProtectRange), none] := by
    rcases List.mem_cons.mp hr with h | h
    · simp [h]
    · simp [(List.mem_replicate.mp h).2]
  simp only [List.mem_cons, List.not_mem_nil, or_false, Option.some.injEq, reduceCtorEq] at h
  subst h
  decide

/-- A part whose locked clip 7 has its ranges in LOCK places. -/
def lockedWaiting : State := { locked with pending := [.removeProtect 1 [3]] }

theorem witness_LockedClipsStayProtected :
    lockedWaiting.numbersOk ∧ lockedWaiting.lockedOk ∧ ∃ t, step lockedWaiting = .next t := by
  refine ⟨⟨by decide, by decide, ?_⟩, ?_, _, rfl⟩
  · intro n h
    obtain rfl := Option.some.inj h
    decide
  · intro r hr _ _ g hg x h1 h2
    obtain rfl : r = { clip7 with locked := true } := List.mem_singleton.mp hr
    have hg' : g ∈ [(40960, 1024), (90112, 256), (90496, 128)] := hg
    have place : some (⟨g.1, g.2, .lock, some 7⟩ : ProtectRange) ∈ lockedWaiting.xm.protect := by
      simp only [List.mem_cons, List.not_mem_nil, or_false] at hg'
      rcases hg' with rfl | rfl | rfl <;> decide
    exact ⟨_, place, rfl, rfl, h1, h2⟩

/-- The part of chapter 5's worked case with a command waiting. -/
def armedWaiting : State := { armed 64900 with pending := [.disarm 1 []] }

theorem witness_bufferOk : armedWaiting.bufferOk := by
  refine ⟨by decide, by decide, ?_, ?_, ?_, by decide, by decide, by decide⟩
  · unfold State.placedSlots; decide
  · unfold State.placedSlots; decide
  · intro w h
    cases h

theorem witness_statesOk : armedWaiting.statesOk := by
  refine ⟨?_, by decide, by decide, fun w n h => (by cases h), by decide⟩
  intro n h
  obtain rfl := Option.some.inj h
  decide

/-- The command that waits ends ARMED, so the last clause has its case too. -/
theorem witness_BufferKeepsItsOrder :
    armedWaiting.memoryOk ∧ armedWaiting.bufferOk ∧ armedWaiting.statesOk ∧
      ∃ t, step armedWaiting = .next t ∧ t.clc.mode ≠ .armed :=
  ⟨by unfold State.memoryOk; decide, witness_bufferOk, witness_statesOk, _, rfl, by decide⟩

/-- Clip 5 is CLOSED; the trailer of clip 6 settles in slot 9, and slot 20 of the OPEN clip 7 waits behind it. -/
def closingSix : State :=
  { State.reset with
    pending := [.readyReport ⟨.afterStop, ⟨0, 0⟩⟩]
    cp := { CardPort.powerOn true with
      card := .settling, writer := .settling, gradeInUse := some .g2
      write := some ⟨some 9, 41216, 1, 0, 128, .g2⟩, wait := some ⟨.settled, 250000⟩ }
    xm := ⟨[⟨40960, 512, 256⟩], List.replicate 16 none⟩
    sb := { SlotBuffer.powerOn with
      queue := [20]
      slots := [(9, { SlotRecord.free with state := .writing, clip := some 6, sequence := some 2, trailer := true }),
        (20, { SlotRecord.free with state := .queued, clip := some 7, sequence := some 0 })] }
    clc := { ClipController.powerOn with
      mode := .recording, nextClip := some 8
      clips := [{ ClipRecord.fresh 5 0 false with state := .closed, dataDone := true },
        { ClipRecord.fresh 6 0 false with
          state := .closing, dataDone := true, slotCount := 2, written := 2, trailerFormed := true },
        { ClipRecord.fresh 7 0 false with slotCount := 1 }] } }

theorem closingSix_bufferOk : closingSix.bufferOk := by
  refine ⟨by decide, by decide, by unfold State.placedSlots; decide, by unfold State.placedSlots; decide, ?_, by decide,
    by decide, by decide⟩
  intro w h
  obtain rfl := Option.some.inj h
  decide

theorem closingSix_statesOk : closingSix.statesOk := by
  refine ⟨fun n h => (by cases h), by decide, by decide, ?_, by decide⟩
  intro w n hw hn
  obtain rfl := Option.some.inj hw
  obtain rfl := Option.some.inj hn
  decide

theorem closingSix_writes : closingSix.writingOk ∧ closingSix.flightOk := by
  refine ⟨fun p hp hs => ?_, fun w h => ?_⟩
  · have hp : p = _ ∨ p ∈ [_] := List.mem_cons.mp hp
    rcases hp with rfl | hp
    · exact ⟨_, rfl, rfl⟩
    · obtain rfl := List.mem_singleton.mp hp
      cases hs
  · obtain rfl := Option.some.inj h
    decide

theorem closingSix_queueOk : closingSix.queueOk := by
  unfold State.queueOk State.waitingSlots ClipRecord.live
  refine ⟨by decide, by decide, ?_, by decide⟩
  intro w n hw hn
  obtain rfl := Option.some.inj hw
  obtain rfl := Option.some.inj hn
  decide

theorem closingSix_accountsOk : closingSix.accountsOk := by
  intro r hr hl
  have hr : r ∈ [_, _, _] := hr
  rcases List.mem_cons.mp hr with rfl | hr
  · rcases hl with h | h <;> cases h
  rcases List.mem_cons.mp hr with rfl | hr
  · refine ⟨by decide, by decide, fun _ => ⟨rfl, rfl, rfl, by unfold ClipRecord.live; decide⟩, fun h => (by cases h),
      fun _ => ⟨fun h => (by cases h), fun ⟨d, h, _⟩ => (by cases h)⟩⟩
  · obtain rfl := List.mem_singleton.mp hr
    exact ⟨by decide, by decide, fun h => (by cases h), fun _ => ⟨rfl, by decide⟩, fun h => (by cases h)⟩

theorem closingSix_tenthOk : closingSix.tenthOk := by
  refine ⟨by unfold State.recorderOk; decide, ⟨by decide, by decide, ?_⟩, closingSix_bufferOk, closingSix_statesOk,
    closingSix_writes.1, closingSix_writes.2, by unfold State.parkedOk; decide, by unfold State.reasonOk; decide,
    closingSix_queueOk, closingSix_accountsOk, by unfold ClipRecord.live; decide, fun d h => (by cases h), by decide⟩
  intro n h
  obtain rfl := Option.some.inj h
  decide

/-- In its next step clip 6 becomes CLOSED after clip 5, and no SLOT COUNT is at its end. -/
theorem witness_BufferKeepsItsOrder_tenth :
    closingSix.tenthOk ∧ shows (step closingSix) (fun t => decide (
      (t.clc.clips.map (fun r => (r.number, r.state))) = [(5, .closed), (6, .closed), (7, .opened)] ∧ t.sb.queue = [20] ∧
      ∀ r ∈ t.clc.clips, r.slotCount < 4294967295)) = true :=
  ⟨closingSix_tenthOk, by decide +kernel⟩

/-- Clip 5 is CLOSED and slot 20 of the CLOSING clip 6 waits, with no card in the socket: ACTIVE with STANDBY to come, or
in STANDBY with WAKE to come. -/
def sixWaits (asleep : Bool) : State :=
  { State.reset with
    pending := [if asleep then .wake 1 [] else .standby 1 []]
    smn := { SupplyMonitor.powerOn with
      standby := if asleep then .standby else .active, reason := if asleep then some .command else none }
    cp := { CardPort.powerOn false with supplyOn := !asleep }
    sb := { SlotBuffer.powerOn with
      queue := [20], slots := [(20, { SlotRecord.free with state := .queued, clip := some 6, sequence := some 2 })] }
    clc := { ClipController.powerOn with
      nextClip := some 8
      clips := [{ ClipRecord.fresh 5 0 false with state := .closed, dataDone := true },
        { ClipRecord.fresh 6 0 false with state := .closing, dataDone := true, slotCount := 3, written := 2 }] } }

theorem sixWaits_accountsOk (asleep : Bool) : (sixWaits asleep).accountsOk := by
  intro r hr hl
  have hr : r ∈ [_, _] := hr
  rcases List.mem_cons.mp hr with rfl | hr
  · rcases hl with h | h <;> cases h
  · obtain rfl := List.mem_singleton.mp hr
    exact ⟨rfl, rfl, fun h => (by cases h), fun h => (by cases h),
      fun _ => ⟨fun h => (by cases h), fun ⟨d, h, _⟩ => (by cases h)⟩⟩

theorem sixWaits_tenthOk (asleep : Bool) : (sixWaits asleep).tenthOk := by
  refine ⟨?_, ⟨?_, ?_, ?_⟩, ⟨?_, ?_, ?_, ?_, fun w h => (by cases h), ?_, ?_, ?_⟩,
    ⟨fun n h => (by cases h), ?_, ?_, fun w n h => (by cases h), ?_⟩, ?_, fun w h => (by cases h), ?_, ?_,
    ⟨?_, ?_, fun w n h => (by cases h), ?_⟩, sixWaits_accountsOk asleep, ⟨?_, fun d h => (by cases h), ?_⟩⟩
  case refine_4 => intro n h; obtain rfl := Option.some.inj h; cases asleep <;> decide
  all_goals
    (try unfold State.recorderOk); (try unfold State.placedSlots); (try unfold State.writingOk)
    (try unfold State.parkedOk); (try unfold State.reasonOk); (try unfold State.waitingSlots)
    (try unfold ClipRecord.live)
  case refine_15 =>
    intro p hp hs
    obtain rfl := List.mem_singleton.mp hp
    cases hs
  all_goals cases asleep <;> decide

/-- STANDBY is entered, and left for WAKING, with slot 20 QUEUED throughout. -/
theorem witness_StandbyHasNoCardWrite_quiet :
    (∀ asleep : Bool, (sixWaits asleep).tenthOk ∧ (sixWaits asleep).quietOk ∧ (sixWaits asleep).closeOk) ∧
      shows (step (sixWaits false)) (fun t => decide (t.smn.standby = .standby ∧ t.sb.queue = [20])) = true ∧
      shows (step (sixWaits true)) (fun t => decide (t.smn.standby = .waking ∧ t.sb.queue = [20])) = true :=
  ⟨fun asleep => ⟨sixWaits_tenthOk asleep, by unfold State.quietOk; cases asleep <;> decide,
    by unfold State.closeOk; cases asleep <;> decide⟩, by decide +kernel, by decide +kernel⟩

theorem curve_inRange_powerOn : curveInRange 16 ((List.range 17).map (320 * ·)) := by unfold curveInRange; decide

theorem witness_TablesStayInRange : waiting.tablesOk ∧ ∃ t, step waiting = .next t := by
  refine ⟨⟨⟨?_, fun t h => (by cases h)⟩, ⟨⟨curve_inRange_powerOn, curve_inRange_powerOn⟩, fun t h => (by cases h)⟩,
    ⟨fun t h => (by cases h), fun t h => (by cases h)⟩, ?_, ?_, fun t h => (by cases h)⟩, _, rfl⟩
  · unfold MotionTable.inRange; decide
  · unfold RecorderTable.inRange; decide
  · refine ⟨by decide, ?_, List.pairwise_singleton _ _, by decide, by decide, by decide, by decide, by decide, by decide,
      by decide⟩
    intro r hr
    obtain rfl := List.mem_singleton.mp hr
    unfold ProfileRow.inRange
    decide

theorem witness_InboundCellsDecodeBack :
    (Instr.clipCell 1 0x1234 [0xAA, 0x55]).wellFormed = true ∧
      encodeCell (.clipCell 1 0x1234 [0xAA, 0x55]) = some [0x01, 0x01, 0x00, 0x02, 0x12, 0x34, 0xAA, 0x55, 0x9D, 0x40] := by
  decide +kernel

/-! ### Witnesses: the Link Port -/

/-- A part with one cell of each queue behind the cell on the link. -/
def queued : State :=
  { live with lp := { live.lp with
      lines := [.frameEnd 1 0 0 false], replies := [⟨1, 6, .busy⟩], notices := [⟨.heat, 1, .die .warm, 0⟩] } }

theorem witness_SentCellFreesTheLinkInOrder :
    (queued.powered = true ∧ queued.lp.lines = .frameEnd 1 0 0 false :: []) ∧
      (∃ s : State, s.powered = true ∧ s.lp.lines = [] ∧ s.lp.replies = ⟨1, 6, .busy⟩ :: []) ∧
      (∃ s : State, s.powered = true ∧ s.lp.lines = [] ∧ s.lp.replies = [] ∧ s.lp.notices = ⟨.heat, 1, .die .warm, 0⟩ :: []) ∧
      (live.powered = true ∧ live.lp.lines = [] ∧ live.lp.replies = [] ∧ live.lp.notices = []) :=
  ⟨⟨rfl, rfl⟩, ⟨{ queued with lp := { queued.lp with lines := [] } }, rfl, rfl, rfl⟩,
    ⟨{ queued with lp := { queued.lp with lines := [], replies := [] } }, rfl, rfl, rfl, rfl⟩, rfl, rfl, rfl, rfl⟩

/-- A part with 8 replies waiting. -/
def full : State := { live with lp := { live.lp with replies := List.replicate 8 ⟨0, 0, .busy⟩ } }

theorem witness_BadAndLostCellsAreOnlyCounted :
    (full.powered = true ∧ 8 ≤ full.lp.replies.length ∧ (commandCell (.arm 1 [])).isSome = true) ∧
      namesNothing 0 [] = true := by decide +kernel

/-- A part in STANDBY, and one in WAKING. -/
def inStandby : State := { live with smn := { live.smn with standby := .standby, reason := some .command } }

/-- A part whose wake timer runs. -/
def waking : State :=
  { live with smn := { live.smn with standby := .waking, reason := some .command, wakeDeadline := some 2000 } }

theorem live_takes : live.takes := ⟨rfl, by decide⟩

theorem live_obeys : live.obeys := ⟨live_takes, by decide⟩

theorem waking_takes : waking.takes := ⟨rfl, by decide⟩

theorem inStandby_obeys : inStandby.obeys := ⟨⟨rfl, by decide⟩, by decide⟩

theorem witness_LengthAndWakingTestsComeFirst :
    (commandCell (.arm 1 [0]) = some ⟨1, 6, false, false⟩ ∧ live.takes) ∧
      (commandCell (.arm 1 []) = some ⟨1, 6, true, false⟩ ∧ waking.takes ∧ waking.smn.standby = .waking) :=
  ⟨⟨rfl, live_takes⟩, rfl, waking_takes, rfl⟩

theorem witness_NamelessCommandsAreRefused :
    (live.takes ∧ waking.takes) ∧ ((0 : Byte).toNat = 0 ∧ 19 < (20 : Byte).toNat) ∧
      ((0 : Byte).toNat = 0 ∧ 5 < (6 : Byte).toNat ∧ live.smn.standby ≠ .waking ∧ waking.smn.standby = .waking) ∧
      5 < (255 : Byte).toNat :=
  ⟨⟨live_takes, waking_takes⟩, by decide, by decide, by decide⟩

theorem witness_EveryCommandGetsOneReply : commandCell (.queryClip 3 []) = some ⟨3, 17, false, true⟩ ∧ live.takes :=
  ⟨rfl, live_takes⟩

theorem witness_QueriesAnswerAndChangeNothing :
    (live.takes ∧ [(0 : Byte), 0, 0, 7].length = 4) ∧ impact.clc.clip (beNat [0, 0, 0, 7]) = some clip7 ∧
      live.clc.clip (beNat [0, 0, 0, 7]) = none ∧ TableName.ofCode (beNat [0, 0, 0, 5]) = some .profile ∧
      5 < beNat [0, 0, 0, 6] :=
  ⟨⟨live_takes, rfl⟩, by decide +kernel, by decide +kernel, by decide +kernel, by decide +kernel⟩

theorem witness_SettingsAreClampedAndAnswered : live.obeys ∧ [(9 : Byte)].length = 1 ∧ [(9 : Byte), 9].length = 2 :=
  ⟨live_obeys, rfl, rfl⟩

theorem witness_SetTimeMovesEveryDeadline : live.obeys ∧ [(0 : Byte), 0, 0, 0, 0, 9].length = 6 ∧
    ∃ d : Time, d = BitVec.ofNat 48 (beNat [0, 0, 0, 0, 0, 9]) - live.smn.partTime := ⟨live_obeys, rfl, _, rfl⟩

theorem witness_RestartKeepsTablesAndEmptiesTheRest :
    (inStandby.takes ∧ inStandby.smn.standby = .standby) ∧
      (live.takes ∧ live.smn.standby = .active ∧ (live.smn.battery = .critical → live.chg.switchClosed = true) ∧
        live.smn.die ≠ .critical ∧ live.cp.detect = false) ∧
      (carded.smn.standby = .active ∧ carded.cp.detect = true) ∧
      (∃ s : State, s.smn.standby = .active ∧ s.smn.battery = .critical ∧ s.chg.switchClosed = false) ∧
      ∃ s : State, s.smn.standby = .active ∧ (s.smn.battery = .critical → s.chg.switchClosed = true) ∧
        s.smn.die = .critical :=
  ⟨⟨inStandby_obeys.1, rfl⟩, ⟨live_takes, rfl, by decide, by decide, rfl⟩, ⟨rfl, rfl⟩,
    ⟨{ live with smn := { live.smn with battery := .critical } }, rfl, rfl, rfl⟩,
    ⟨{ live with smn := { live.smn with die := .critical } }, rfl, by decide, rfl⟩⟩

/-! ### Witnesses: the Motion Engine and the picture -/

theorem witness_DataReadyStartsOneBurst :
    (live.powered = true ∧ live.me.reading = true ∧ live.me.burst = none) ∧
      ((filtering Axis.zero).powered = true ∧ (filtering Axis.zero).me.reading = true ∧
        (filtering Axis.zero).me.burst.isSome = true) ∧
      ∃ s : State, s.powered = true ∧ s.me.reading = false :=
  ⟨⟨rfl, rfl, rfl⟩, ⟨rfl, rfl, rfl⟩, { live with me := { live.me with reading := false } }, rfl, rfl⟩

/-- A part whose only slot in use is FILLING at a FILL LENGTH. -/
def holding (s : State) (fill : Nat) : State :=
  { s with sb := { SlotBuffer.powerOn with
      slots := [(5, { SlotRecord.free with state := .filling, fill := fill })], filling := some 5 } }

/-- A slot table without a FREE slot. -/
@[irreducible] def crammedSlots : List (Nat × SlotRecord) := (List.range 1024).map (fun n => (n, queuedSlot 8 n))

/-- A part without a FREE slot, and with a ring. -/
def crammed (s : State) (ring : List Nat) : State :=
  { s with sb := { SlotBuffer.powerOn with slots := crammedSlots, ring := ring } }

theorem crammed_full : ∀ m, m < 1024 → crammedSlots.lookup m ≠ none := by
  intro m hm h
  unfold crammedSlots at h
  have := List.lookup_eq_none_iff.mp h (m, queuedSlot 8 m) (List.mem_map.mpr ⟨m, List.mem_range.mpr hm, rfl⟩)
  simp at this

theorem crammed_noSlot (s : State) : (crammed s []).noSlot := ⟨rfl, rfl, crammed_full⟩

/-- A record is received by the FILLING slot, by the lowest FREE slot, and by the slot the ring gives up. -/
theorem receives_each_way (s : State) (length : Nat) (hs : s.clc.trailerDue = none) (h : 64 + length + 9 ≤ 65536) :
    (holding s (65536 - 9 - length)).receives length 5
        { SlotRecord.free with state := .filling, fill := 65536 - 9 - length } [] ∧
      ({ s with sb := SlotBuffer.powerOn } : State).receives length 0 { SlotRecord.free with state := .filling } [] ∧
      (crammed s [7]).receives length 7 { SlotRecord.free with state := .filling } [] := by
  refine ⟨⟨by decide, ?_, Or.inl ⟨rfl, rfl, rfl⟩⟩, ⟨by decide, h, Or.inr ⟨rfl, rfl, Or.inl ⟨rfl, fun m hm => ?_, rfl⟩⟩⟩,
    ⟨by decide, h, Or.inr ⟨rfl, rfl, Or.inr ⟨crammed_full, rfl, hs⟩⟩⟩⟩
  · show 65536 - 9 - length + length + 9 ≤ 65536
    omega
  · exact absurd hm (Nat.not_lt_zero m)

/-- A part that records, with entries waiting in the motion queue and its own slots. -/
def logging (n : Nat) (slots : State) : State :=
  { impact with me := { impact.me with queue := List.replicate n ⟨⟨0, 0, 0, 0, 0⟩, false⟩ }, sb := slots.sb }

/-- A sample that raises no SHOCK, and one that does; the axis free and held. -/
theorem witness_GoodSampleRunsTheFilter :
    (∃ b T x, (filtering Axis.zero).powered = true ∧ (filtering Axis.zero).me.burst = some b ∧
        T = (filtering Axis.zero).me.pendingTable.getD (filtering Axis.zero).me.table ∧
        x = mapBurst T b.byteOrder (burstOf 1200 0 0 0) ∧
        none = ((filtering Axis.zero).me.detector.test T x.magnitude).2) ∧
      ∃ b T x, impact.powered = true ∧ impact.me.burst = some b ∧ T = impact.me.pendingTable.getD impact.me.table ∧
        x = mapBurst T b.byteOrder (burstOf 0 7000 4000 2000) ∧
        some (91000000, 3) = (impact.me.detector.test T x.magnitude).2 :=
  ⟨⟨_, _, _, rfl, rfl, rfl, rfl, by decide +kernel⟩, _, _, _, rfl, rfl, rfl, rfl, by decide +kernel⟩

/-- The records a sample makes: the 32nd entry with a slot and without one, and a MARK record with and without one. -/
theorem witness_GoodSampleRunsTheFilter_records :
    (∃ b T x q, (logging 31 live).me.burst = some b ∧
        T = (logging 31 live).me.pendingTable.getD (logging 31 live).me.table ∧
        x = mapBurst T b.byteOrder (burstOf 0 0 0 0) ∧ none = ((logging 31 live).me.detector.test T x.magnitude).2 ∧
        (logging 31 live).clc.mode ≠ .idle ∧ q = joinQueue (logging 31 live).me.queue ⟨x, false⟩ ∧ q.length = 32) ∧
      (∃ b T x q, (logging 30 live).me.burst = some b ∧
        T = (logging 30 live).me.pendingTable.getD (logging 30 live).me.table ∧
        x = mapBurst T b.byteOrder (burstOf 0 7000 4000 2000) ∧
        some (91000000, 3) = ((logging 30 live).me.detector.test T x.magnitude).2 ∧
        q = joinQueue (logging 30 live).me.queue ⟨x, false⟩ ∧ q.length < 32 ∧ (logging 30 live).clc.mode = .recording) ∧
      (∀ n slots, (logging n slots).powered = true ∧ (logging n slots).me = (logging n live).me ∧
        (logging n slots).clc = (logging n live).clc) ∧
      (logging 31 (holding live 65135)).receives (384 + 8) 5 { SlotRecord.free with state := .filling, fill := 65135 } [] ∧
      (logging 31 (crammed live [])).noSlot ∧
      (logging 30 (holding live 65503)).receives (16 + 8) 5 { SlotRecord.free with state := .filling, fill := 65503 } [] ∧
      (logging 30 (crammed live [])).noSlot :=
  ⟨⟨_, _, _, _, rfl, rfl, rfl, by decide +kernel, by decide, rfl, by decide +kernel⟩,
    ⟨_, _, _, _, rfl, rfl, rfl, by decide +kernel, rfl, by decide +kernel, rfl⟩, fun _ _ => ⟨rfl, rfl, rfl⟩,
    (receives_each_way (logging 31 live) 392 rfl (by decide)).1, ⟨rfl, rfl, crammed_full⟩,
    (receives_each_way (logging 30 live) 24 rfl (by decide)).1, ⟨rfl, rfl, crammed_full⟩⟩

theorem witness_GapExpiryRunsASubstitute :
    ∃ T k, (filtering Axis.zero).powered = true ∧ (filtering Axis.zero).me.gapDeadline = some 1500 ∧
      T = (filtering Axis.zero).me.pendingTable.getD (filtering Axis.zero).me.table ∧
      k = min 8 ((filtering Axis.zero).me.gapCount + 1) := ⟨_, _, rfl, rfl, rfl, rfl⟩

theorem witness_IncrementIsTheNearestQuotient :
    -32768 ≤ (-32768 : Int) ∧ (-32768 : Int) ≤ 32767 ∧ 1 ≤ ({ MotionTable.powerOn with rateScale := 65535 }).rateScale ∧
      ({ MotionTable.powerOn with rateScale := 65535 }).rateScale ≤ 65535 := by decide

theorem witness_LeakRoundsTowardZero :
    3 ≤ MotionTable.powerOn.leakShift ∧ MotionTable.powerOn.leakShift ≤ 15 ∧
      5 = (if (⟨-100000, 0, true, 0⟩ : Axis).guardOn then MotionTable.powerOn.leakShift - 2
        else MotionTable.powerOn.leakShift) := by decide

/-- The run one below N and at N, an under sample, a RAISED detector, and a run of under samples at N. -/
theorem witness_ShockNeedsARunOfOverSamples :
    (1 ≤ shockTable.shockCount ∧ shockTable.shockCount ≤ 15) ∧
      ((∀ x ∈ [65000000] ++ [91000000], shockTable.shockThreshold ^ 2 < x) ∧ [65000000].length + 1 < shockTable.shockCount) ∧
      ((∀ x ∈ [65000000, 91000000] ++ [69000000], shockTable.shockThreshold ^ 2 < x) ∧
        [65000000, 91000000].length + 1 = shockTable.shockCount) ∧
      (64000000 ≤ shockTable.shockThreshold ^ 2 ∧ Detector.quiet.raised = false) ∧
      (shockTable.shockThreshold ^ 2 < 64000001 ∧ (⟨true, 2, 0⟩ : Detector).raised = true) ∧
      ((∀ x ∈ [0, 1] ++ [64000000], x ≤ shockTable.shockThreshold ^ 2) ∧ (⟨true, 0, 0⟩ : Detector).raised = true ∧
        [0, 1].length + 1 = shockTable.shockCount) := by decide

/-- A SHOCK in RECORDING with clip 7 OPEN and unlocked, and the other four cases of the recorder mode. -/
theorem witness_ShockActsByRecorderMode :
    (∃ b T, impact.powered = true ∧ impact.me.burst = some b ∧ T = impact.me.pendingTable.getD impact.me.table ∧
        (impact.me.detector.test T (mapBurst T b.byteOrder (burstOf 0 7000 4000 2000)).magnitude).2 =
          some (91000000, 3)) ∧
      (impact.clc.mode = .recording ∧ impact.clc.forcedSplitDue = false ∧ impact.clc.openClip = some clip7) ∧
      live.clc.mode = .idle ∧ (∀ auto : Bool, ∃ T : MotionTable, T.autoTrigger = auto) ∧
      ((armed 64).clc.mode = .armed ∧ (armed 64).startBlocked = none ∧ (armed 64).clc.nextClip = some 9) ∧
      ∃ s : State, s.clc.mode = .armed ∧ s.startBlocked.isSome = true :=
  ⟨⟨_, _, rfl, rfl, rfl, by decide +kernel⟩, ⟨rfl, rfl, rfl⟩, rfl,
    fun auto => ⟨{ MotionTable.powerOn with autoTrigger := auto }, rfl⟩, ⟨rfl, rfl, rfl⟩,
    ⟨{ armed 64 with clc := { (armed 64).clc with nextClip := none } }, rfl, rfl⟩⟩

theorem curve_inRange_worked : curveInRange 14 curve := by unfold curveInRange; decide

theorem witness_LensCurveConvertsAngles :
    (∃ i f px, curveInRange 14 curve ∧ i = (117638 : Int).natAbs / 2 ^ 14 ∧ f = (117638 : Int).natAbs - i * 2 ^ 14 ∧
        px = (lensOffset 14 curve 117638).1 ∧ i < 16) ∧
      ∃ i f px, curveInRange 14 curve ∧ i = (-300000 : Int).natAbs / 2 ^ 14 ∧ f = (-300000 : Int).natAbs - i * 2 ^ 14 ∧
        px = (lensOffset 14 curve (-300000)).1 ∧ 16 ≤ i :=
  ⟨⟨_, _, _, curve_inRange_worked, rfl, rfl, rfl, by decide⟩, _, _, _, curve_inRange_worked, rfl, rfl, rfl, by decide⟩

/-- A part with a window table, at a frame's start: stopped, LOST, TRACKING, and without a table. -/
theorem witness_FrameStartOpensTheRecord :
    ∀ (running : Bool) (motion : MotionState) (W : Option WindowTable), ∃ (s : State) (L : LensTable),
      s.powered = true ∧ s.sp.frameOpen = false ∧ L = s.wu.pendingLens.getD s.wu.lens ∧
        W = s.wu.pendingWindow.or s.wu.window ∧ s.sp.running = running ∧ s.me.motion = motion :=
  fun running motion W =>
    ⟨{ live with sp := { live.sp with running := running }, wu := { live.wu with window := W }
                 me := { live.me with motion := motion } }, _, rfl, rfl, rfl, rfl, rfl, rfl⟩

/-- The same frame of four bands while ARMED: its record of 52 bytes with a slot, and without one. -/
def frame41Armed (slots : State) : State :=
  { frame41Seen with clc := (armed 64).clc, sb := slots.sb }

theorem witness_FrameEndClosesTheRecord :
    (live.powered = true ∧ live.sp.frameOpen = false) ∧
      (frame41Seen.powered = true ∧ frame41Seen.sp.frameOpen = true ∧ frame41Seen.sp.running = true ∧
        frame41Seen.wu.frame.isSome = true ∧ frame41Seen.clc.mode = .idle) ∧
      (∃ s : State, s.powered = true ∧ s.sp.frameOpen = true ∧ s.sp.running = true ∧ s.wu.frame = none) ∧
      (∀ slots : State, ∃ f, (frame41Armed slots).powered = true ∧ (frame41Armed slots).sp.frameOpen = true ∧
        (frame41Armed slots).sp.running = true ∧ (frame41Armed slots).wu.frame = some f ∧ f.entries.length = 4 ∧
        (framePayload f).length = 44 ∧ (frame41Armed slots).clc.mode ≠ .idle) ∧
      (frame41Armed (holding live 65475)).receives (44 + 8) 5 { SlotRecord.free with state := .filling, fill := 65475 } [] ∧
      (frame41Armed (crammed live [7])).receives (44 + 8) 7 { SlotRecord.free with state := .filling } [] ∧
      (frame41Armed (crammed live [])).noSlot :=
  ⟨⟨rfl, rfl⟩, ⟨rfl, rfl, rfl, rfl, rfl⟩,
    ⟨{ frame41Seen with wu := { frame41Seen.wu with frame := none } }, rfl, rfl, rfl, rfl⟩,
    fun _ => ⟨_, rfl, rfl, rfl, rfl, rfl, by decide +kernel, (by decide : Mode.armed ≠ .idle)⟩,
    (receives_each_way (frame41Armed live) 52 rfl (by decide)).1,
    (receives_each_way (frame41Armed live) 52 rfl (by decide)).2.2, ⟨rfl, rfl, crammed_full⟩⟩

theorem witness_StrayLinesAreDiscarded :
    (live.powered = true ∧ live.sp.frameOpen = false) ∧
      ((frame41 3).powered = true ∧ (frame41 3).sp.running = true ∧ (frame41 3).sp.frameOpen = true ∧
        (frame41 3).sp.lineLimit = some 64 ∧ 64 ≤ (64 : BitVec 12).toNat ∧
        (2 : BitVec 12).toNat < (frame41 3).sp.expectedLine) := by decide +kernel

/-- Line 16 of chapter 3's worked case starts band 1; line 2 finds band 0 entered. -/
theorem witness_TakenLineIsCutAndPlaced :
    ∀ l : BitVec 12, l = 2 ∨ l = 16 → ∃ (fit : List Pixel) (b : Nat) (w : WindowTable) (f : FrameRecord) (e : BandEntry)
      (px : Int) (adj inside : Bool) (s : State) (pixels : List Pixel), s.powered = true ∧ s.sp.running = true ∧
      s.sp.frameOpen = true ∧ s.sp.lineLimit = some 64 ∧ l.toNat < 64 ∧ s.sp.expectedLine ≤ l.toNat ∧
      s.wu.window = some w ∧ s.wu.frame = some f ∧ b = l.toNat / (w.hin / w.bands) ∧ b < f.entries.length ∧
      fit.length = w.win ∧ (∀ j, j < w.win → fit.getD j 0 =
        if pixels = [] then 0 else pixels.getD (min j (pixels.length - 1)) 0) ∧ adj = decide (pixels.length ≠ w.win) ∧
      px = (lensOffset s.wu.lens.hShift s.wu.lens.hPoints (max (-16777215) (min 16777215
        (s.me.yaw.c + s.me.table.lead * s.me.yaw.last)))).1 ∧
      (∀ g, f.entries.getD b none = some g → e = g) ∧
      (f.entries.getD b none = none → s.me.motion = .lost → e = ⟨0, 0, false, false, false, true⟩) ∧
      s.me.motion = .lost ∧
      (inside = true ↔ ((w.hin - w.hout) / 2 : Nat) + f.lift.dy ≤ l.toNat ∧
        (l.toNat : Int) < ((w.hin - w.hout) / 2 : Nat) + f.lift.dy + w.hout) := by
  intro l hl
  refine ⟨List.replicate 128 0, _, _, _, if l = 2 then ⟨5, 5, false, false, false, false⟩ else BandEntry.centred, _, _,
    decide (_ ∧ _), frame41 2, [], rfl, rfl, rfl, rfl, ?_, ?_, rfl, rfl, rfl, ?_, rfl, ?_, rfl, rfl, ?_, ?_, rfl,
    decide_eq_true_iff⟩
  · rcases hl with rfl | rfl <;> decide
  · rcases hl with rfl | rfl <;> decide
  · rcases hl with rfl | rfl <;> decide
  · intro j _
    simp only [List.getD_eq_getElem?_getD, List.getElem?_replicate, if_true]
    split <;> rfl
  · rcases hl with rfl | rfl
    · intro g h
      exact Option.some.inj h
    · intro g h
      cases h
  · rcases hl with rfl | rfl
    · intro h
      cases h
    · intro _ _
      rfl

/-- The same frame while TRACKING: what the band start of line 16 forms from a zero yaw correction. -/
theorem witness_TakenLineIsCutAndPlaced_tracking :
    ∃ (s : State) (w : WindowTable) (f : FrameRecord) (e : BandEntry) (px : Int), s.me.motion = .tracking ∧
      s.wu.window = some w ∧ s.wu.frame = some f ∧ f.entries.getD 1 none = none ∧
      px = (lensOffset s.wu.lens.hShift s.wu.lens.hPoints (max (-16777215) (min 16777215
        (s.me.yaw.c + s.me.table.lead * s.me.yaw.last)))).1 ∧
      (e.px = px ∧ e.lost = false ∧
        e.dx = max (-(((w.win - w.wout) / 2 : Nat) : Int)) (min (((w.win - w.wout) / 2 : Nat) : Int) px) ∧
        e.clamped = decide (e.dx ≠ px) ∧ e.guardOn = decide ((w.win - w.wout) / 2 * s.me.table.guardRatio < 16 * px.natAbs) ∧
        e.beyondCurve = (lensOffset s.wu.lens.hShift s.wu.lens.hPoints (max (-16777215) (min 16777215
          (s.me.yaw.c + s.me.table.lead * s.me.yaw.last)))).2) :=
  ⟨{ frame41 2 with me := { live.me with motion := .tracking } }, _, _, ⟨0, 0, false, false, false, false⟩, _, rfl, rfl, rfl,
    rfl, rfl, by decide +kernel⟩

/-! ### Witnesses: the tables and the Extent Map -/

/-- A PROFILE load of the power-on values. -/
def profileLoad : List Byte :=
  [1] ++ profileRowFields ⟨0, 450, 500, 4200⟩ ++ List.replicate 40 0 ++
    (beBytes 2 100 ++ beBytes 2 50 ++ beBytes 1 60 ++ beBytes 2 600 ++ beBytes 2 3500 ++ beBytes 2 3400 ++ beBytes 2 3200)

theorem profileLoad_passes : ∃ t, parseProfile profileLoad = .ok t := ⟨ProfileTable.powerOn, by decide +kernel⟩

/-- For each of the five tables a load that passes and one whose first field is bad. -/
theorem witness_LoadTableTakesValidLoads :
    live.obeys ∧ (parseMotion (motionFields MotionTable.powerOn) = .ok MotionTable.powerOn ∧
        parseMotion (List.replicate 17 255) = .error 2) ∧
      (parseLens (lensFields LensTable.powerOn) = .ok LensTable.powerOn ∧ parseLens (List.replicate 70 0) = .error 1) ∧
      (parseWindow (windowFields ⟨128, 64, 96, 64, 4⟩) = .ok ⟨128, 64, 96, 64, 4⟩ ∧
        parseWindow (List.replicate 9 0) = .error 1) ∧
      (parseProfile (List.replicate 62 0) = .error 1 ∧
        ∃ t, parseProfile profileLoad = .ok t) ∧
      (parseRecorder (recorderFields RecorderTable.powerOn) = .ok RecorderTable.powerOn ∧
        parseRecorder (List.replicate 10 255) = .error 1) ∧
      (live.clc.mode = .idle ∧ impact.clc.mode ≠ .idle) ∧
      (∃ w, (frame41 0).wu.window = some w ∧ (¬(96 ≠ w.wout ∨ 60 ≠ w.hout)) ∧ (64 ≠ w.wout ∨ 60 ≠ w.hout)) := by
  refine ⟨live_obeys, by decide +kernel, by decide +kernel, by decide +kernel, ⟨by decide +kernel, profileLoad_passes⟩,
    by decide +kernel, ⟨rfl, by decide⟩, _, rfl, ?_⟩
  decide

/-- Values at the ends of the widths and of the ranges. -/
theorem witness_FirstBadFieldIsNamed :
    (∃ a b c d e : Nat, a < 65536 ∧ b < 65536 ∧ c < 65536 ∧ d < 65536 ∧ e < 65536 ∧ ¬512 < a ∧ ¬b < 256 ∧ ¬2000 < c ∧
        ¬(d < 50 ∨ 1000 < d) ∧ 4096 < e) ∧
      (∃ win hin wout hout b : Nat, win < 65536 ∧ hin < 65536 ∧ wout < 65536 ∧ hout < 65536 ∧ b < 256 ∧
        ¬(win < 64 ∨ 4096 < win ∨ win % 2 = 1) ∧ (hin < 64 ∨ 3072 < hin)) ∧
      ∃ yaw pitch : Nat, yaw < 256 ∧ pitch < 256 ∧ ¬5 < yaw ∧ pitch / 2 = yaw / 2 :=
  ⟨⟨512, 256, 2000, 1000, 4097, by decide⟩, ⟨4096, 3073, 0, 0, 0, by decide⟩, 5, 4, by decide⟩

/-- A LENS load whose horizontal point 5 lies below point 4 has field 7 as its only bad one, and one with flat curves has
none. -/
theorem witness_FirstBadFieldIsNamed_lens :
    (∃ (h v : Nat) (hs vs : List Nat) (bad : Nat → Prop), h < 256 ∧ v < 256 ∧ hs.length = 17 ∧ vs.length = 17 ∧
        (∀ k, bad k ↔ k = 1 ∧ (h < 8 ∨ 20 < h) ∨ k = 2 ∧ hs.getD 0 0 ≠ 0 ∨
          (∃ i, i < 16 ∧ k = 3 + i ∧ hs.getD (i + 1) 0 < hs.getD i 0) ∨
          k = 19 ∧ (v < 8 ∨ 20 < v) ∨ k = 20 ∧ vs.getD 0 0 ≠ 0 ∨
          ∃ i, i < 16 ∧ k = 21 + i ∧ vs.getD (i + 1) 0 < vs.getD i 0) ∧
        bad 7 ∧ ∀ j, j < 7 → ¬bad j) ∧
      ∀ i, i < 16 → ¬(List.replicate 17 0).getD (i + 1) 0 < (List.replicate 17 0).getD i 0 :=
  ⟨⟨8, 20, [0, 1, 2, 3, 4, 3, 3, 3, 3, 3, 3, 3, 3, 3, 3, 3, 3], List.replicate 17 0, _, by decide, by decide, rfl, rfl,
    fun _ => Iff.rfl, by decide, by decide⟩, by decide⟩

/-- The bad orders of a PROFILE load of n rows, the settings after the rows being the power-on ones. -/
def profileBad (n : Nat) (rows : List ProfileRow) (k : Nat) : Prop :=
  k = 1 ∧ (n < 1 ∨ 6 < n) ∨
    (∃ i r, i < n ∧ rows[i]? = some r ∧
      (k = 2 + 4 * i ∧ (r.tLow < -400 ∨ 1250 < r.tLow ∨ ∃ j q x, j < i ∧ rows[j]? = some q ∧
          q.tLow ≤ x ∧ x ≤ q.tHigh ∧ (x = r.tLow ∨ r.tLow ≤ x ∧ x ≤ r.tHigh)) ∨
        k = 3 + 4 * i ∧ (r.tHigh < r.tLow ∨ 1250 < r.tHigh) ∨
        k = 4 + 4 * i ∧ (3000 < r.current ∨ r.current % 25 ≠ 0) ∨
        k = 5 + 4 * i ∧ (r.voltage < 3600 ∨ 4400 < r.voltage ∨ r.voltage % 10 ≠ 0))) ∨
    k = 26 ∧ (100 < 25 ∨ 500 < 100 ∨ 100 % 25 ≠ 0) ∨ k = 27 ∧ (50 < 25 ∨ 500 < 50) ∨
    k = 28 ∧ (60 < 1 ∨ 120 < 60) ∨ k = 29 ∧ (600 < 30 ∨ 1200 < 600) ∨
    k = 30 ∧ (3500 < 3000 ∨ 3900 < 3500 ∨ 3500 ≤ 3400) ∨ k = 31 ∧ (3400 < 2900 ∨ 3800 < 3400 ∨ 3400 ≤ 3200) ∨
    k = 32 ∧ (3200 < 2800 ∨ 3600 < 3200)

/-- With one row, the power-on one, no order is bad; a second row that begins where the first ends has its T LOW, the
sixth, as the least. -/
theorem witness_FirstBadFieldIsNamed_profile :
    (∀ k, ¬profileBad 1 (List.replicate 6 ⟨0, 450, 500, 4200⟩) k) ∧
      profileBad 2 (List.replicate 1 ⟨0, 450, 500, 4200⟩ ++ List.replicate 5 ⟨450, 600, 500, 4200⟩) 6 ∧
      ∀ j, j < 6 →
        ¬profileBad 2 (List.replicate 1 ⟨0, 450, 500, 4200⟩ ++ List.replicate 5 ⟨450, 600, 500, 4200⟩) j := by
  refine ⟨fun k h => ?_, .inr (.inl ⟨1, _, by decide, rfl, .inl ⟨rfl, .inr (.inr ⟨0, _, 450, by decide, rfl, by decide⟩)⟩⟩),
    fun j hj h => ?_⟩
  · rcases h with h | ⟨i, r, hi, hr, h⟩ | h
    · omega
    · obtain rfl : i = 0 := by omega
      obtain rfl := Option.some.inj hr
      rcases h with ⟨-, h | h | ⟨j, _, _, hj, _⟩⟩ | h | h | h
      all_goals first | omega | exact absurd h (by decide) | exact absurd h.2 (by decide)
    · omega
  · rcases h with h | ⟨i, r, hi, hr, h⟩ | h
    · omega
    · obtain rfl : i = 0 := by omega
      obtain rfl := Option.some.inj hr
      rcases h with ⟨-, h | h | ⟨j, _, _, hj, _⟩⟩ | h | h | h
      all_goals first | omega | exact absurd h (by decide) | exact absurd h.2 (by decide)
    · omega

theorem witness_AnsweredTablesLoadBack : MotionTable.powerOn.inRange ∧ LensTable.powerOn.inRange ∧
    (⟨128, 64, 96, 64, 4⟩ : WindowTable).inRange ∧ RecorderTable.powerOn.inRange ∧ ProfileTable.powerOn.inRange := by
  have h := witness_TablesStayInRange.1
  exact ⟨h.1.1, h.2.1.1, by unfold WindowTable.inRange; decide, h.2.2.2.1, h.2.2.2.2.1⟩

theorem carded_obeys : carded.obeys := ⟨⟨rfl, by decide⟩, by decide⟩

/-- An append that passes, touching a range without sharing a block; each refusal's own condition stands beside it. -/
theorem witness_AppendExtentTestsInOrder :
    (∃ clash : Prop, carded.obeys ∧ 32768 < 4294967296 ∧ 512 < 4294967296 ∧
        (clash ↔ ∃ x, 32768 ≤ x ∧ x < 32768 + 512 ∧ ((∃ e ∈ carded.xm.extents, e.first ≤ x ∧ x < e.first + e.count) ∨
          ∃ r, some r ∈ carded.xm.protect ∧ r.first ≤ x ∧ x < r.first + r.count)) ∧ ¬clash) ∧
      (carded.xm.extents.length < 64 ∧ carded.smn.standby = .active ∧ carded.cp.card = .ready ∧
        carded.cp.capacity = some 62333952 ∧ 0 < 512 ∧ 512 % 128 = 0 ∧ 32768 + 512 ≤ 62333952) ∧
      (∃ x, 32767 ≤ x ∧ x < 32767 + 128 ∧ ∃ r, some r ∈ carded.xm.protect ∧ r.first ≤ x ∧ x < r.first + r.count) ∧
      (380 % 128 ≠ 0 ∧ 62333952 < 62333825 + 128) ∧ live.cp.card = .absent ∧
      (inStandby.obeys ∧ inStandby.smn.standby = .standby ∧ inStandby.xm.extents.length < 64) ∧
      64 ≤ ({ live with xm := ⟨List.replicate 64 ⟨0, 128, 0⟩, []⟩ } : State).xm.extents.length := by
  refine ⟨⟨_, carded_obeys, by decide, by decide, Iff.rfl, ?_⟩, ⟨by decide, rfl, rfl, rfl, by decide⟩, ⟨32767, by decide,
    by decide, ⟨0, 32768, .loaded, none⟩, by decide⟩, by decide, rfl, ⟨inStandby_obeys, rfl, by decide⟩, by decide⟩
  rintro ⟨x, h1, h2, ⟨e, he, -⟩ | ⟨r, hr, -, h4⟩⟩
  · cases he
  · rcases List.mem_cons.mp hr with h | h
    · cases h
      exact absurd (Nat.lt_of_lt_of_le h4 (by decide)) (Nat.not_lt.mpr h1)
    · cases (List.mem_replicate.mp h).2

/-- CLEAR with an idle writer and with a write in flight; an ADD of the last block; and the places REMOVE finds. -/
theorem witness_ProtectAndClearCommands :
    (carded.obeys ∧ carded.cp.writer = .idle) ∧ (stopping.cp.writer = .settling) ∧
      (∃ clash : Prop, (clash ↔ ∃ x, 4294967295 ≤ x ∧ x < 4294967295 + 1 ∧
          ((∃ e ∈ carded.xm.extents, e.first + e.used ≤ x ∧ x < e.first + e.used + (e.count - e.used)) ∨
            ∃ r, some r ∈ carded.xm.protect ∧ r.first ≤ x ∧ x < r.first + r.count)) ∧ ¬clash ∧
        4294967295 + 1 ≤ 4294967296 ∧ carded.xm.protect[1]? = some none ∧
        ∀ j, j < 1 → carded.xm.protect[j]? ≠ some none) ∧
      none ∉ (List.replicate 16 (some (⟨0, 1, .loaded, none⟩ : ProtectRange))) ∧
      ((∀ r, carded.xm.protect[(255 : Byte).toNat]? ≠ some (some r)) ∧
        carded.xm.protect[(0 : Byte).toNat]? = some (some ⟨0, 32768, .loaded, none⟩)) ∧
      (locked.xm.protect[(13 : Byte).toNat]? = some (some ⟨40960, 1024, .lock, some 7⟩) ∧
        ∀ c, locked.clc.clip 7 = some c → c.state = .opened ∨ c.state = .closing) := by
  refine ⟨⟨carded_obeys, rfl⟩, rfl, ⟨_, Iff.rfl, ?_, by decide, rfl, ?_⟩, by decide, ⟨fun r h => (by cases h), rfl⟩, rfl, ?_⟩
  · rintro ⟨x, h1, h2, ⟨e, he, -⟩ | ⟨r, hr, -, h4⟩⟩
    · cases he
    · rcases List.mem_cons.mp hr with h | h
      · cases h
        exact absurd (Nat.lt_of_lt_of_le h4 (by decide)) (Nat.not_lt.mpr h1)
      · cases (List.mem_replicate.mp h).2
  · intro j hj
    obtain rfl : j = 0 := by omega
    decide
  · intro c h
    obtain rfl : { clip7 with locked := true } = c := Option.some.inj h
    exact Or.inl rfl

/-! ### Witnesses: the recorder -/

theorem armed_obeys : (armed 64).obeys := ⟨⟨rfl, by decide⟩, by decide⟩

theorem witness_ArmAndDisarmFollowTheMode :
    live.obeys ∧ live.clc.mode = .idle ∧ impact.clc.mode = .recording ∧
      ((armed 64).clc.mode = .armed ∧ (armed 64).clc.trailerDue = none) :=
  ⟨live_obeys, rfl, rfl, rfl, rfl⟩

/-- The part of chapter 5's worked case before step 3. -/
def ringed : State :=
  let member (sync : Option Nat) : SlotRecord :=
    { SlotRecord.free with state := .preroll, fill := 65500, firstSync := sync, firstTime := some 1, lastTime := some 2
                           count := 9, prerollOrigin := true }
  { armed 4072 with sb := { SlotBuffer.powerOn with
      slots := [(2, { SlotRecord.free with state := .filling, fill := 4072, firstSync := some 64 }), (3, member none),
        (4, member (some 1200)), (5, member none)]
      filling := some 2, ring := [3, 4, 5] } }

/-- A start refused, a start from IDLE, and a start from ARMED that passes over one slot. -/
theorem witness_StartRecordOpensAClip :
    (inStandby.obeys ∧ inStandby.smn.standby ≠ .active) ∧
      (live.obeys ∧ live.smn.standby = .active ∧ live.clc.mode = .idle ∧ live.startRefusal = none ∧
        live.clc.nextClip = some 1) ∧
      (ringed.obeys ∧ ringed.smn.standby = .active ∧ ringed.clc.mode = .armed ∧ ringed.startRefusal = none ∧
        ringed.clc.nextClip = some 9 ∧ ringed.bufferOk ∧ ringed.numbersOk ∧ ringed.clc.trailerDue = none ∧
        ringed.me.queue.length < 32 ∧ ringed.sb.ring = [3] ++ [4, 5] ∧
        (∀ m ∈ [3], (ringed.sb.slot m).firstSync = none) ∧
        ∀ m, [4, 5].head? = some m → (ringed.sb.slot m).firstSync ≠ none) := by
  refine ⟨⟨inStandby_obeys, by decide⟩, ⟨live_obeys, rfl, rfl, rfl, rfl⟩, ⟨⟨rfl, by decide⟩, by decide⟩, rfl, rfl, rfl, rfl,
    ⟨by decide, by decide, ?_, ?_, fun w h => (by cases h), by decide, by decide, by decide⟩, ⟨by decide, by decide, ?_⟩, rfl,
    by decide, rfl, by decide, ?_⟩
  · unfold State.placedSlots; decide
  · unfold State.placedSlots; decide
  · intro n h
    obtain rfl := Option.some.inj h
    decide
  · intro m h
    obtain rfl := Option.some.inj h
    decide

theorem stopping_obeys : stopping.obeys := ⟨⟨rfl, by decide⟩, by decide⟩

theorem draining_obeys : draining.obeys := ⟨⟨rfl, by decide⟩, by decide⟩

/-- A drain that runs beside the write of another clip's slot, and a power close. -/
def closing (slots : List (Nat × SlotRecord)) (why : Option PowerReason) (level : StandbyState) : State :=
  { draining with
    sb := { draining.sb with slots := slots, filling := none }
    clc := { draining.clc with powerClose := why }
    smn := { draining.smn with standby := level } }

/-- The part before a split: clip 14 OPEN, one slot of it QUEUED, slot 212 FILLING. -/
def splitting (bySize : Bool) : State :=
  { stopping with
    clc := { stopping.clc with splitDue := bySize, forcedSplitDue := !bySize }
    sb := { stopping.sb with
      slots := [(211, queuedSlot 14 39), (212, { SlotRecord.free with state := .filling, fill := 65000 })] } }

theorem splitting_numbersOk (bySize : Bool) : (splitting bySize).numbersOk := by
  refine ⟨List.pairwise_singleton _ _, ?_, ?_⟩
  · intro r hr
    obtain rfl := List.mem_singleton.mp hr
    decide
  · intro n h
    obtain rfl := Option.some.inj h
    refine ⟨by decide, by decide, fun r hr => ?_⟩
    obtain rfl := List.mem_singleton.mp hr
    decide

/-- STOP in each case, with a drain and with none to run, the drain's deadline, and ABORT of a clip that is not held, OPEN
and being written. -/
theorem witness_StopDrainAndAbortEndAClip :
    (∃ s : State, s.obeys ∧ s.clc.powerClose ≠ none) ∧
      (live.obeys ∧ live.clc.powerClose = none ∧ live.clc.mode ≠ .recording) ∧
      (stopping.obeys ∧ stopping.clc.powerClose = none ∧ stopping.clc.mode = .recording ∧
        stopping.clc.openClip.isSome = true ∧ 0 < stopping.clc.table.drainTime) ∧
      (∃ s : State, s.obeys ∧ s.clc.powerClose = none ∧ s.clc.mode = .recording ∧ s.clc.openClip.isSome = true ∧
        s.clc.table.drainTime = 0 ∧ s.numbersOk) ∧
      (∃ d r, draining.powered = true ∧ draining.clc.mode = .idle ∧ draining.clc.drain = some d ∧
        draining.clc.clip d.clip = some r ∧ r.state = .closing ∧ draining.sb.filling = some 212 ∧ 212 < 1024 ∧
        (draining.sb.slots.lookup 212).isSome = true) ∧
      (live.clc.clip 14 = none ∧ 14 < 4294967296) ∧ (stopping.clc.clip 14).map (·.state) = some .opened ∧
      (∃ q ∈ draining.sb.slots, q.2.state = .writing ∧ q.2.clip = some 14) := by
  refine ⟨⟨{ live with clc := { live.clc with powerClose := some .power } }, ⟨⟨rfl, by decide⟩, by decide⟩, by decide⟩,
    ⟨live_obeys, rfl, by decide⟩, ⟨stopping_obeys, rfl, rfl, rfl, by decide⟩,
    ⟨{ splitting true with clc := { (splitting true).clc with table := { RecorderTable.powerOn with drainTime := 0 } } },
      ⟨⟨rfl, by decide⟩, by decide⟩, rfl, rfl, rfl, rfl, splitting_numbersOk true⟩,
    ⟨_, _, rfl, rfl, rfl, rfl, rfl, rfl, by decide, rfl⟩, ⟨rfl, by decide⟩, rfl, by decide⟩

/-- ABORT of the draining clip with nothing else to end: with no power close, and with one in ACTIVE and in STANDBY; and of
a CLOSING clip while another clip is OPEN. -/
theorem witness_StopDrainAndAbortEndAClip_abort :
    (∀ (why : Option PowerReason) (level : StandbyState), level ≠ .waking →
      (closing [(211, queuedSlot 14 39)] why level).obeys ∧
      ((closing [(211, queuedSlot 14 39)] why level).clc.clip 14).map (·.state) = some .closing ∧
      (∀ q ∈ (closing [(211, queuedSlot 14 39)] why level).sb.slots, q.2.state = .writing → q.2.clip ≠ some 14) ∧
      (closing [(211, queuedSlot 14 39)] why level).clc.mode = .idle ∧
      (closing [(211, queuedSlot 14 39)] why level).clc.powerClose = why ∧
      ¬((∃ q ∈ (closing [(211, queuedSlot 14 39)] why level).clc.clips, q.number ≠ 14 ∧
          (q.state = .opened ∨ q.state = .closing)) ∨
        ∃ d, (closing [(211, queuedSlot 14 39)] why level).clc.drain = some d ∧ d.clip ≠ 14)) ∧
      ∃ s : State, s.obeys ∧ (s.clc.clip 14).map (·.state) = some .closing ∧
        (∀ q ∈ s.sb.slots, q.2.state = .writing → q.2.clip ≠ some 14) ∧ s.clc.mode = .recording ∧
        s.me.queue.length < 32 ∧ ∃ q ∈ s.clc.clips, q.number ≠ 14 ∧ q.state = .opened := by
  refine ⟨fun why level h => ⟨⟨⟨rfl, (by decide : 0 < 8)⟩, h⟩, rfl, ?_, rfl, rfl, ?_⟩,
    { draining with
      sb := (splitting true).sb
      clc := { draining.clc with
        mode := .recording, drain := none, clips := draining.clc.clips ++ [ClipRecord.fresh 15 0 false] } },
    ⟨⟨rfl, by decide⟩, by decide⟩, rfl, by decide, rfl, by decide, ClipRecord.fresh 15 0 false, by decide, by decide, rfl⟩
  · intro q hq
    obtain rfl := List.mem_singleton.mp hq
    decide
  · rintro (⟨q, hq, h1, -⟩ | ⟨d, hd, h2⟩)
    · obtain rfl := List.mem_singleton.mp hq
      exact h1 rfl
    · obtain rfl := Option.some.inj hd
      exact h2 rfl

/-- A split at SYNC, and one forced by a record of 608 bytes that does not fit at 65,000. -/
theorem witness_StopDrainAndAbortEndAClip_split :
    ∀ bySize : Bool, ∃ c : ClipRecord, (splitting bySize).powered = true ∧ (splitting bySize).clc.mode = .recording ∧
      (splitting bySize).numbersOk ∧ (splitting bySize).recorderOk ∧ (splitting bySize).clc.openClip = some c ∧
      (splitting bySize).clc.nextClip = some 15 ∧ (splitting bySize).clc.trailerDue = none ∧ c.written ≤ c.slotCount ∧
      c.slotCount < 4294967295 ∧ (splitting bySize).sb.overrun = false ∧ (splitting bySize).sb.filling = some 212 ∧
      ((splitting bySize).sb.slots.lookup 212).isSome = true ∧ 65000 = ((splitting bySize).sb.slot 212).fill ∧
      (splitting bySize).lowestFreeIs 0 ∧ (splitting bySize).clc.splitDue = bySize ∧
      (splitting bySize).clc.forcedSplitDue = (!bySize) ∧ (∀ r ∈ (splitting bySize).clc.clips, r.state ≠ .closing) ∧
      (splitting bySize).clc.clips.length < 4 ∧ (1 : Byte).getLsbD 0 = true ∧ (0 : Byte).getLsbD 0 = false ∧
      65536 < 65000 + (600 + 8) := by
  intro bySize
  refine ⟨_, rfl, rfl, splitting_numbersOk bySize, ⟨by decide +revert, by decide +revert, fun h => absurd rfl h,
    fun h => (by cases h)⟩, rfl, rfl, rfl, by decide, by decide, rfl, rfl, rfl, rfl,
    ⟨by decide, rfl, fun j hj => absurd hj (Nat.not_lt_zero j)⟩, rfl, rfl, ?_, (by decide : 1 < 4), by decide, by decide, by decide⟩
  intro r hr
  obtain rfl := List.mem_singleton.mp hr
  decide

/-- An empty payload; a cell in IDLE; a record of 9 bytes in each mode that takes one, received in each way; and a record
that is discarded in an overrun and at its start. -/
theorem witness_ClipCellBecomesAVideoRecord :
    (live.powered = true ∧ ([] : List Byte).length = 0) ∧
      (live.clc.mode = .idle ∧ live.clc.drain = none ∧ 1 ≤ [(1 : Byte)].length) ∧
      (∀ s : State, s = armed 64 ∨ s = stopping ∨ s = draining → s.powered = true ∧
        (s.clc.mode ≠ .idle ∨ s.clc.drain ≠ none ∧ (3 : Byte).getLsbD 2 = false) ∧ s.clc.splitDue = false ∧
        s.clc.trailerDue = none ∧
        (holding s 65518).receives (1 + 8) 5 { SlotRecord.free with state := .filling, fill := 65518 } [] ∧
        ({ s with sb := SlotBuffer.powerOn } : State).receives (1 + 8) 0 { SlotRecord.free with state := .filling } [] ∧
        (crammed s [7]).receives (1 + 8) 7 { SlotRecord.free with state := .filling } [] ∧ (crammed s []).noSlot ∧
        (holding s 65518).sb.overrun = false) ∧
      ∃ s : State, s.powered = true ∧ s.clc.mode = .recording ∧ s.sb.overrun = true ∧ (2 : Byte).getLsbD 0 = false := by
  refine ⟨⟨rfl, rfl⟩, ⟨rfl, rfl, by decide⟩, fun s hs => ?_,
    ⟨{ stopping with sb := { stopping.sb with overrun := true } }, rfl, rfl, rfl, by decide⟩⟩
  have due : s.clc.trailerDue = none := by rcases hs with rfl | rfl | rfl <;> rfl
  have ways := receives_each_way s 9 due (by decide)
  refine ⟨?_, ?_, ?_, due, ways.1, ways.2.1, ways.2.2, crammed_noSlot s, rfl⟩ <;> rcases hs with rfl | rfl | rfl <;> decide

/-- A record of 608 bytes that does not fit at 65,000 while a clip records or drains, and one of 708 bytes at 64,900 while
ARMED, with a ring at the pre-roll depth and below it. -/
theorem witness_ClipCellBecomesAVideoRecord_full :
    (∀ s : State, s = stopping ∨ s = draining → ∃ c, s.sb.filling = some 212 ∧ s.clc.mode ≠ .armed ∧
        (s.sb.slots.lookup 212).isSome = true ∧ 65000 = (s.sb.slot 212).fill ∧ 65536 < 65000 + (600 + 8) ∧
        s.clc.forcedSplitDue = false ∧ s.clc.receiving = some 14 ∧ s.clc.clip 14 = some c ∧ s.lowestFreeIs 0 ∧
        s.sb.overrun = false) ∧
      ((armed 64900).sb.filling = some 5 ∧ (armed 64900).clc.mode = .armed ∧
        ((armed 64900).sb.slots.lookup 5).isSome = true ∧ 64900 = ((armed 64900).sb.slot 5).fill ∧
        65536 < 64900 + (700 + 8) ∧ 5 ∉ (armed 64900).sb.ring ∧ (armed 64900).clc.trailerDue = none ∧
        (armed 64900).clc.table.prerollDepth ≤ (armed 64900).sb.ring.length ∧ (armed 64900).sb.ring = 2 :: [3, 4] ∧
        ∀ j, j < 2 → (armed 64900).sb.slots.lookup j ≠ none ∧ some 2 ≠ some j) ∧
      ∃ s : State, s.clc.mode = .armed ∧ s.sb.filling = some 5 ∧ s.sb.ring = [2, 3, 4] ∧
        s.sb.ring.length < s.clc.table.prerollDepth ∧ s.sb.slots.lookup 6 = none ∧
        ∀ j, j < 6 → s.sb.slots.lookup j ≠ none ∧ none ≠ some j := by
  refine ⟨fun s hs => ?_, ⟨rfl, rfl, rfl, rfl, by decide, by decide, rfl, by decide, rfl, by decide⟩,
    { armed 64900 with clc := { (armed 64900).clc with table := { RecorderTable.powerOn with prerollDepth := 4 } } },
    rfl, rfl, rfl, by decide, rfl, by decide⟩
  rcases hs with rfl | rfl <;>
    exact ⟨_, rfl, by decide, rfl, rfl, by decide, rfl, rfl, rfl,
      ⟨by decide, rfl, fun j hj => absurd hj (Nat.not_lt_zero j)⟩, rfl⟩

/-- A cell with LAST in the drain of clip 14: a record of 9 bytes received in each way, one without SYNC in an overrun, and
one that finds no slot. -/
theorem witness_ClipCellBecomesAVideoRecord_last :
    (∃ c, draining.powered = true ∧ draining.clc.mode = .idle ∧ draining.clc.drain = some ⟨14, 300000⟩ ∧
        draining.clc.clip 14 = some c ∧ c.state = .closing ∧ (4 : Byte).getLsbD 2 = true ∧ (4 : Byte).getLsbD 0 = false ∧
        draining.sb.overrun = false ∧ 1 ≤ [(1 : Byte)].length) ∧
      (holding draining 65518).receives (1 + 8) 5 { SlotRecord.free with state := .filling, fill := 65518 } [] ∧
      ({ draining with sb := SlotBuffer.powerOn } : State).receives (1 + 8) 0
        { SlotRecord.free with state := .filling } [] ∧
      (crammed draining []).noSlot ∧
      ∃ s : State, s.clc = draining.clc ∧ s.sb.overrun = true ∧ s.sb.filling = some 212 :=
  ⟨⟨_, rfl, rfl, rfl, rfl, rfl, by decide, by decide, rfl, by decide⟩, (receives_each_way draining 9 rfl (by decide)).1,
    (receives_each_way draining 9 rfl (by decide)).2.1, crammed_noSlot draining,
    { draining with sb := { draining.sb with overrun := true } }, rfl, rfl, rfl⟩
/-! ### Witnesses: the Card Port -/

/-- A card-detect line that has just settled at a level, with the settled level before it. -/
def settling (raw old : Bool) (card : CardState) : State :=
  { wearing with cp := { wearing.cp with rawDetect := raw, detect := old, card := card, settle := some 20000 } }

theorem witness_CardDetectAttachesAndRemoves :
    ((settling true false .absent).powered = true ∧ (settling true false .absent).cp.settle = some 20000 ∧
        (settling true false .absent).cp.rawDetect = true ∧ (settling true false .absent).cp.detect = false ∧
        (settling true false .absent).cp.card = .absent ∧ (settling true false .absent).smn.standby = .active) ∧
      (settling true false .off).cp.card ≠ .absent ∧
      ((settling false true .absent).cp.rawDetect = false ∧ (settling false true .absent).cp.detect = true ∧
        (settling false true .absent).cp.card = .absent) ∧
      (∃ (s : State) (w : SlotWrite) (n : Nat), s.powered = true ∧ s.cp.settle = some 20000 ∧ s.cp.rawDetect = false ∧ s.cp.detect = true ∧
        s.cp.card ≠ .absent ∧ s.cp.card ≠ .attaching ∧ s.cp.write = some w ∧ w.slot = some n) ∧
      ((settling false true .attaching).cp.card = .attaching) :=
  ⟨⟨rfl, rfl, rfl, rfl, rfl, rfl⟩, by decide, ⟨rfl, rfl, rfl⟩,
    ⟨{ attempt .block ⟨some 77, 41216, 1, 0, 3, .g2⟩ with cp := { (attempt .block ⟨some 77, 41216, 1, 0, 3, .g2⟩).cp with
        rawDetect := false, settle := some 20000 } }, _, _, rfl, rfl, rfl, rfl, by decide, by decide, rfl, rfl⟩, rfl⟩

/-- A card that attaches, waiting for something with a deadline. -/
def attaching (what : CardWait) : State :=
  { wearing with cp := { wearing.cp with card := .attaching, wait := some ⟨what, 100000⟩ } }

/-- The waits of an attach; a bad answer and a good one at the least capacity; the grade at each die level is one. -/
theorem witness_AttachEndsReadyOrFailed :
    (∀ what, ∃ r : State, (attaching what).powered = true ∧ (attaching what).cp.wait = some ⟨what, 100000⟩ ∧
        (r = attaching what ∨ r = (attaching what).reach 100000)) ∧
      ((⟨true, 127#32, 3⟩ : IdentifyAnswer).capacity.toNat < 128 ∧ 3 < (⟨true, 128#32, 4⟩ : IdentifyAnswer).grade.toNat) ∧
      ∃ g e : Grade, (⟨true, 128#32, 3⟩ : IdentifyAnswer).checkGood = true ∧
        128 ≤ (⟨true, 128#32, 3⟩ : IdentifyAnswer).capacity.toNat ∧
        g.code = (⟨true, 128#32, 3⟩ : IdentifyAnswer).grade.toNat ∧
        e.code = min g.code (min (attaching .identify).cp.setGrade (match (attaching .identify).smn.die with
          | .normal => 3
          | .warm => 2
          | .hot => 1
          | .critical => 0)) :=
  ⟨fun what => ⟨_, rfl, rfl, Or.inl rfl⟩, by decide, .g3, .g2, by decide, by decide, by decide, by decide⟩

/-- A start without an extent, with a grade change, and at the grade in use; MAPPING with and without a queue. -/
theorem witness_SlotWriteTakesTheHeadSlot :
    (wearing.powered = true ∧ wearing.cp.card = .ready ∧ wearing.cp.writer = .idle ∧ wearing.sb.queue = 77 :: []) ∧
      (∃ s : State, s.cp.card = .ready ∧ s.cp.writer = .idle ∧ s.sb.queue = 77 :: [] ∧ s.xm.extents = []) ∧
      (wearing.xm.extents = ⟨40960, 512, 256⟩ :: [] ∧ Grade.g2.code = min (wearing.cp.maxGrade.elim 3 Grade.code)
          (min wearing.cp.setGrade (match wearing.smn.die with
          | .normal => 3
          | .warm => 2
          | .hot => 1
          | .critical => 0)) ∧ wearing.cp.gradeInUse ≠ some .g2) ∧
      (∃ s : State, s.cp.gradeInUse = some .g2 ∧ s.smn.die = .warm ∧ s.cp.card = .ready ∧ s.cp.writer = .idle ∧
        (s.sb.slot 77).damaged = false) ∧
      ∀ queue, ∃ (s : State) (d : Time) (w : SlotWrite), s.powered = true ∧ s.cp.wait = some ⟨.writeGrade, d⟩ ∧
        s.cp.write = some w ∧ s.sb.queue = queue ∧ w.slot = none :=
  ⟨⟨rfl, rfl, rfl, rfl⟩, ⟨{ wearing with xm := ⟨[], []⟩ }, rfl, rfl, rfl, rfl⟩, ⟨rfl, by decide, by decide⟩,
    ⟨{ wearing with cp := { wearing.cp with gradeInUse := some .g2 } }, rfl, rfl, rfl, rfl, rfl⟩,
    fun queue => ⟨{ wearing with
      cp := { wearing.cp with
        writer := .mapping, write := some ⟨none, 41216, 1, 0, 0, .g2⟩, wait := some ⟨.writeGrade, 100000⟩ }
      sb := { wearing.sb with queue := queue } }, _, _, rfl, rfl, rfl, rfl, rfl⟩⟩

/-- Each wait of an attempt, with a first, a next and a last block. -/
theorem witness_BlockAnswersMoveTheAttempt :
    (∀ what k, ∃ (r : State) (w : SlotWrite), (attempt what ⟨some 77, 41216, 1, 0, k, .g2⟩).powered = true ∧
        (attempt what ⟨some 77, 41216, 1, 0, k, .g2⟩).cp.wait = some ⟨what, 250000⟩ ∧
        (attempt what ⟨some 77, 41216, 1, 0, k, .g2⟩).cp.write = some w ∧ w.slot = some 77 ∧ w.blocksAnswered = k ∧
        r = (attempt what ⟨some 77, 41216, 1, 0, k, .g2⟩).reach 250000) ∧
      126 + 1 < 128 ∧ 128 ≤ 127 + 1 :=
  ⟨fun _ _ => ⟨_, _, rfl, rfl, rfl, rfl, rfl, rfl⟩, by decide, by decide⟩

/-- A part whose last slot of clip 14 is being written: after it the trailer is due. -/
def finishing : State :=
  { draining with clc := { draining.clc with
      drain := none
      clips := [{ ClipRecord.fresh 14 0 false with
        state := .closing, endReason := some .stop, slotCount := 39, written := 38, dataDone := true
        ranges := [(20480, 4864)], startOffset := some 64 }] } }

/-- Clip 14 while it records, drains, and has its trailer written; locked or not, under a protect table. -/
def completing (base : State) (isLocked isTrailer : Bool) (places : List (Option ProtectRange)) : State :=
  { base with
    clc := { base.clc with clips := base.clc.clips.map (fun c => { c with locked := isLocked }) }
    xm := ⟨base.xm.extents, places⟩
    sb := { base.sb with
      slots := [(210, { queuedSlot 14 38 with state := .writing, trailer := isTrailer })], filling := none } }

/-- A stopped attempt of each kind, and a completed data slot and trailer of a clip in each mode, with and without a lock;
after the last data slot the trailer is due, and not before. -/
theorem witness_ReadyReportEndsTheAttempt :
    (∀ w : SlotWrite, w.slot = some 77 → (attempt .stopped w).powered = true ∧ (attempt .stopped w).cp.write = some w ∧
        (attempt .stopped w).cp.wait = some ⟨.stopped, 250000⟩) ∧
      cursorOf (consumeHead (attempt .stopped ⟨some 77, 41216, 1, 1, 0, .g2⟩).xm.extents) = some 41344 ∧
      cursorOf (consumeHead [⟨40960, 512, 384⟩]) = none ∧
      (∀ (base : State) (isLocked isTrailer : Bool) (places : List (Option ProtectRange)),
        base = stopping ∨ base = draining ∨ base = finishing →
        ∃ c : ClipRecord, (completing base isLocked isTrailer places).powered = true ∧
          (completing base isLocked isTrailer places).cp.wait = some ⟨.settled, 250000⟩ ∧
          (completing base isLocked isTrailer places).cp.write = some ⟨some 210, 25344, 1, 0, 128, .g3⟩ ∧
          ((completing base isLocked isTrailer places).sb.slot 210).clip = some 14 ∧
          (completing base isLocked isTrailer places).clc.clip 14 = some c ∧ c.locked = isLocked ∧
          ((completing base isLocked isTrailer places).sb.slot 210).trailer = isTrailer ∧
          (completing base isLocked isTrailer places).clc.powerClose = none ∧
          (completing base isLocked isTrailer places).me.queue.length < 32 ∧
          (completing base isLocked isTrailer places).numbersOk) ∧
      (∃ c q : ClipRecord, finishing.clc.clip 14 = some c ∧
        [c.completed 25344].find? (fun x => decide (x.state = .closing)) = some q ∧ q.dataDone = true ∧
        q.written = q.slotCount ∧ q.trailerFormed = false ∧ q.endReason = some .stop ∧ q.ranges.length ≤ 128) ∧
      ∃ c q : ClipRecord, draining.clc.clip 14 = some c ∧
        [c.completed 25344].find? (fun x => decide (x.state = .closing)) = some q ∧ q.dataDone = false := by
  refine ⟨fun w _ => ⟨rfl, rfl, rfl⟩, by decide, by decide, ?_, ⟨_, _, rfl, rfl, rfl, rfl, rfl, rfl, by decide⟩,
    _, _, rfl, rfl, rfl⟩
  intro base isLocked isTrailer places hb
  rcases hb with rfl | rfl | rfl <;>
    exact ⟨_, rfl, rfl, rfl, rfl, rfl, rfl, rfl, rfl, (by decide : 0 < 32), by
      refine ⟨List.pairwise_singleton _ _, ?_, ?_⟩
      · intro r hr
        obtain rfl := List.mem_singleton.mp hr
        exact ⟨(by decide : 1 ≤ 14), (by decide : 14 ≤ 4294967295), fun _ => rfl⟩
      · intro n h
        obtain rfl := Option.some.inj h
        refine ⟨by decide, by decide, fun r hr => ?_⟩
        obtain rfl := List.mem_singleton.mp hr
        exact (by decide : 14 < 15)⟩

/-- The cases of R67 at block 25,344: a LOCK range that ends there, one that begins behind it, both, and neither, with an
empty place and without one. -/
theorem witness_ReadyReportEndsTheAttempt_locks :
    lockOutcome [] [some ⟨20480, 4864, .lock, some 14⟩, some ⟨25472, 128, .lock, some 14⟩] 14 25344
        [some ⟨20480, 5120, .lock, some 14⟩, none] false ∧
      lockOutcome [] [some ⟨20480, 4864, .lock, some 14⟩] 14 25344 [some ⟨20480, 4992, .lock, some 14⟩] false ∧
      lockOutcome [] [some ⟨25472, 128, .lock, some 14⟩] 14 25344 [some ⟨25344, 256, .lock, some 14⟩] false ∧
      lockOutcome [] [none] 14 25344 [some ⟨25344, 128, .lock, some 14⟩] false ∧ lockOutcome [] [] 14 25344 [] true := by
  have only : ∀ (r : ProtectRange) (p : ProtectRange → Prop), ¬p r → noLock [some r] 14 p := by
    intro r p h q hq _ _
    obtain rfl := Option.some.inj (List.mem_singleton.mp hq)
    exact h
  have first : ∀ (r : ProtectRange) (rest : List (Option ProtectRange)) (p : ProtectRange → Prop), r.origin = .lock →
      r.clip = some 14 → p r → firstLock (some r :: rest) 14 p 0 r := fun r rest p h1 h2 h3 =>
    ⟨rfl, h1, h2, h3, fun j _ hj => absurd hj (Nat.not_lt_zero j)⟩
  refine ⟨Or.inl ⟨0, _, 1, ⟨25472, 128, .lock, some 14⟩, first _ _ _ rfl rfl (by decide),
      ⟨rfl, rfl, rfl, rfl, fun j q hj hq _ _ => ?_⟩, rfl, rfl⟩,
    Or.inr (Or.inl ⟨0, _, first _ _ _ rfl rfl (by decide), only _ _ (by decide), rfl, rfl⟩),
    Or.inr (Or.inr (Or.inl ⟨0, _, only _ _ (by decide), first _ _ _ rfl rfl rfl, rfl, rfl⟩)),
    Or.inr (Or.inr (Or.inr ⟨fun q hq => (by simp at hq), fun q hq => (by simp at hq), fun clash hc => Or.inr ⟨?_, rfl, 0, rfl,
      fun j hj => absurd hj (Nat.not_lt_zero j), rfl⟩⟩)),
    Or.inr (Or.inr (Or.inr ⟨fun q hq => (by simp at hq), fun q hq => (by simp at hq), fun clash hc =>
      Or.inl ⟨Or.inr (by simp), rfl, rfl⟩⟩))⟩
  · obtain rfl : j = 0 := by omega
    obtain rfl := Option.some.inj (Option.some.inj hq)
    decide
  · rw [hc]
    rintro ⟨x, -, -, ⟨e, he, -⟩ | ⟨r, hr, -⟩⟩
    · simp at he
    · simp at hr

/-- An empty list, a range that ends at f, one that does not, and a full list. -/
theorem witness_CompletedSlotEntersTheRangeList :
    (ClipRecord.fresh 1 0 false).ranges = [] ∧
      (clip7.ranges = [(40960, 1024), (90112, 256)] ++ [(90496, 128)] ∧ 90496 + 128 = 90624 ∧ 90496 + 128 ≠ 90625 ∧
        clip7.ranges.length < 128) ∧
      (List.replicate 128 (0, 128)).length = 128 ∧ List.replicate 128 (0, 128) = List.replicate 127 (0, 128) ++ [(0, 128)] := by
  decide +kernel

/-! ### Witnesses: charging, levels and standby -/

/-- A part without input, in QUALIFY at a count, and charging, each with its switch. -/
def supplied (state : ChargerState) (closed : Bool) (count : Nat) : State :=
  { live with chg := { ChargeController.powerOn with state := state, switchClosed := closed, qualifyCount := count } }

theorem witness_SweepTestsTheInput :
    (live.powered = true ∧ live.switchOk ∧ ∃ (q : Readings) (T : ProfileTable), q = clampReadings (reading 0 0) ∧
        T = live.chg.pendingTable.getD live.chg.table ∧ (T.vCut : Int) < q.vBat) ∧
      (6000 < (clampReadings { reading 0 0 with vIn := 6001 }).vIn) ∧
      ((supplied .fast true 200).switchOk ∧ (supplied .fast true 200).chg.switchClosed = true ∧
        (clampReadings { reading 0 0 with vIn := 4199 }).vIn < 4200 ∧ 4200 ≤ (clampReadings { reading 0 0 with vIn := 4200 }).vIn) ∧
      (live.chg.state = .noInput ∧ live.chg.switchClosed = false ∧ (clampReadings { reading 0 0 with vIn := 4399 }).vIn < 4400 ∧
        4400 ≤ (clampReadings { reading 0 0 with vIn := 4400 }).vIn) ∧
      ((supplied .qualify false 198).switchOk ∧ (supplied .qualify false 198).chg.qualifyCount < 199 ∧
        199 ≤ (supplied .qualify false 199).chg.qualifyCount) ∧
      ({ reading 0 0 with tBat := some 460 } : Readings).tBat = some 460 ∧
      ProfileTable.powerOn.activeRow (some 460) = none ∧
      (∃ p, ProfileTable.powerOn.activeRow (clampReadings (reading 0 0)).tBat = some p ∧
        1 ≤ ProfileTable.powerOn.prechargeTimer ∧ 1 ≤ ProfileTable.powerOn.fastTimer ∧
        (supplied .qualify false 199).chg.state = .qualify ∧ 4400 ≤ (clampReadings (reading 0 0)).vIn) := by
  refine ⟨⟨rfl, by unfold State.switchOk; decide, _, _, rfl, rfl, by decide⟩, by decide,
    ⟨by unfold State.switchOk; decide, rfl, by decide, by decide⟩, ⟨rfl, rfl, by decide, by decide⟩,
    ⟨by unfold State.switchOk; decide, by decide, by decide⟩, rfl, rfl, _, rfl, by decide, by decide, rfl, by decide⟩

/-- A charging part with a row, one whose battery is absent, and one whose temperature no row covers. -/
theorem witness_SweepMovesTheCharger :
    ∀ tBat : Option Int, tBat = some 310 ∨ tBat = some 451 ∨ tBat = none →
      ∃ (q : Readings) (T : ProfileTable) (row : Option ProfileRow) (start stay : ChargerState × Option ChargeReason), (charging 0).powered = true ∧ q = clampReadings { reading 620 300 with tBat := tBat } ∧
        T = (charging 0).chg.pendingTable.getD (charging 0).chg.table ∧ (charging 0).chg.switchClosed = true ∧
        4200 ≤ q.vIn ∧ q.vIn ≤ 6000 ∧ row = T.activeRow q.tBat ∧
        (charging 0).chg.prechargeCount + 1 < T.prechargeTimer * 6000 ∧
        (charging 0).chg.fastCount + 1 < T.fastTimer * 6000 ∧
        stay = ((charging 0).chg.state, (charging 0).chg.reason) ∧
        (∀ x, q.tBat = some x → row = none → start = (ChargerState.paused, some (T.side x))) ∧
        (row ≠ none → start = (if q.vBat < 3000 then ChargerState.precharge else .fast, none)) := by
  intro tBat h
  refine ⟨_, _, _, if tBat = some 310 then (.fast, none) else (.paused, some .hot), _, rfl, rfl, rfl, rfl, ?_, ?_,
    rfl, by decide, by decide, rfl, ?_, ?_⟩
  · show (4200 : Int) ≤ 5000; decide
  · show (5000 : Int) ≤ 6000; decide
  · rcases h with rfl | rfl | rfl
    · intro x _ hrow
      exact absurd hrow (by decide)
    · intro x hx _
      obtain rfl : 451 = x := Option.some.inj hx
      decide
    · intro x hx
      cases hx
  · rcases h with rfl | rfl | rfl
    · intro _
      decide
    · intro hrow
      exact absurd rfl hrow
    · intro hrow
      exact absurd rfl hrow

/-- V CUT itself with the switch open, one millivolt above it, and the die thresholds. -/
theorem witness_SweepClassifiesAndBudgets :
    (∃ (q : Readings) (T : ProfileTable), live.powered = true ∧ live.switchOk ∧ q = clampReadings ⟨0, 0, 3200, 0, 0, some 250, 300⟩ ∧
        T = live.chg.pendingTable.getD live.chg.table ∧ q.vBat ≤ T.vCut ∧ q.vIn < 4200) ∧
      (∃ (q : Readings) (T : ProfileTable), q = clampReadings ⟨5000, 0, 3201, 0, 0, some 250, 1150⟩ ∧ T = (charging 0).chg.table ∧ (T.vCut : Int) < q.vBat ∧
        (charging 0).switchOk ∧ ∃ p, T.activeRow q.tBat = some p) := by
  refine ⟨⟨_, _, rfl, by unfold State.switchOk; decide, rfl, rfl, by decide, by decide⟩,
    ⟨_, _, rfl, rfl, by decide, by unfold State.switchOk; decide, _, rfl⟩⟩

/-- A sweep with the switch open, V_bat above V CRIT and the die at 1,150. -/
def scorching : Readings := ⟨0, 0, 4000, 0, 0, some 250, 1150⟩

/-- The sweep that makes the die CRITICAL: it ends the recording of clip 7, disarms a recorder with nothing to close, finds
IDLE with nothing to close, finds a drain, and leaves a power close that is present. -/
theorem witness_SweepClassifiesAndBudgets_heat :
    shows (exec (.sweep scorching) impact) (fun t => decide (t.smn.die = .critical ∧ t.smn.battery = .normal ∧
        t.clc.powerClose = some .heat ∧ t.smn.standby = .active ∧
        (t.clc.clip 7).map (fun c => (c.state, c.endReason)) = some (.closing, some .heat))) = true ∧
      shows (exec (.sweep scorching) (armed 64900)) (fun t => decide (t.clc.mode = .idle ∧ t.sb.ring = [] ∧
        t.smn.standby = .standby ∧ t.smn.reason = some .heat)) = true ∧
      shows (exec (.sweep scorching) live) (fun t => decide (t.smn.standby = .standby ∧ t.smn.reason = some .heat ∧
        t.clc.powerClose = none)) = true ∧
      shows (exec (.sweep scorching) draining) (fun t => decide (t.smn.standby = .active ∧
        t.clc.powerClose = some .heat ∧ t.clc.drain = draining.clc.drain)) = true ∧
      shows (exec (.sweep scorching) { draining with clc := { draining.clc with powerClose := some .power } }) (fun t =>
        decide (t.smn.die = .critical ∧ t.clc.powerClose = some .power)) = true ∧
      (∀ s : State, s = impact ∨ s = armed 64900 ∨ s = live ∨ s = draining → s.powered = true ∧ s.switchOk ∧
        s.smn.standby = .active ∧ s.clc.powerClose = none ∧ s.smn.die ≠ .critical ∧ s.clc.trailerDue = none) := by
  refine ⟨by decide +kernel, by decide +kernel, by decide +kernel, by decide +kernel, by decide +kernel, ?_⟩
  rintro s (rfl | rfl | rfl | rfl) <;> exact ⟨rfl, by unfold State.switchOk; decide, rfl, rfl, by decide, rfl⟩

/-- A part in TAPER at the ninth termination count. -/
def tapering : State :=
  { charging 0 with chg := { (charging 0).chg with state := .taper, terminationCount := 9, target := 500 } }

/-- A part whose precharge timer is about to expire. -/
def precharging : State :=
  { charging 0 with chg := { (charging 0).chg with state := .precharge, prechargeCount := 359999 } }

/-- The last sweep of QUALIFY, of TAPER, of each timer and of the critical count, and CHARGE RESET. -/
theorem witness_SweepEventsAndChargeReset :
    (∃ q : Readings, q = clampReadings (reading 0 300) ∧ (supplied .qualify false 199).powered = true ∧
        (supplied .qualify false 199).chg.switchClosed = false ∧ (supplied .qualify false 199).chg.state = .qualify ∧
        199 ≤ (supplied .qualify false 199).chg.qualifyCount ∧ 4400 ≤ q.vIn ∧ q.vIn ≤ 6000) ∧
      (∃ (q : Readings) (p : ProfileRow), q = clampReadings { reading 0 300 with vBat := 4195, iBat := 49 } ∧ tapering.chg.switchClosed = true ∧
        4200 ≤ q.vIn ∧ q.vIn ≤ 6000 ∧ tapering.chg.table.activeRow q.tBat = some p ∧ tapering.chg.state = .taper ∧
        (p.voltage : Int) - 100 ≤ q.vBat ∧ q.iBat < tapering.chg.table.terminationCurrent ∧
        tapering.chg.table.terminationCurrent ≤ tapering.chg.target ∧ 9 ≤ tapering.chg.terminationCount) ∧
      (∃ (q : Readings) (p : ProfileRow), q = clampReadings { reading 620 300 with vBat := 2999 } ∧ precharging.chg.table.activeRow q.tBat = some p ∧
        25 ≤ p.current ∧ 25 ≤ precharging.chg.table.prechargeCurrent ∧ precharging.smn.die = .normal ∧ q.tDie < 850 ∧
        precharging.cp.card ≠ .writing ∧ precharging.cp.card ≠ .settling ∧ 75 + q.iSys ≤ precharging.chg.inputLimit ∧
        precharging.chg.state = .precharge ∧ q.vBat < 3000 ∧
        precharging.chg.table.prechargeTimer * 6000 ≤ min 720000 (precharging.chg.prechargeCount + 1)) ∧
      (∃ (q : Readings) (p : ProfileRow), q = clampReadings (reading 620 300) ∧ (charging 3599999).chg.table.activeRow q.tBat = some p ∧
        (charging 3599999).chg.state = .fast ∧ q.vBat < (p.voltage : Int) - 10 ∧
        (charging 3599999).chg.table.fastTimer * 6000 ≤ min 7200000 ((charging 3599999).chg.fastCount + 1)) ∧
      (∃ (s : State) (q : Readings), s.powered = true ∧ q = clampReadings ⟨0, 0, 3400, 0, 0, some 250, 300⟩ ∧ s.chg.switchClosed = false ∧
        s.chg.state = .noInput ∧ q.vIn < 4400 ∧ s.smn.battery ≠ .critical ∧ (s.chg.table.vCut : Int) < q.vBat ∧
        q.vBat ≤ s.chg.table.vCrit ∧ 2 ≤ s.smn.criticalCount ∧ s.smn.standby = .active ∧ s.clc.powerClose = none ∧
        s.clc.mode = .recording ∧ s.clc.openClip = some clip7) ∧
      ∃ (s : State) (now : Readings) (start : ChargerState × Option ChargeReason), s.obeys ∧ s.chg.state ≠ .noInput ∧ s.chg.state ≠ .qualify ∧ s.smn.readings = some now ∧
        (now.tBat = none → start = (ChargerState.fault, some ChargeReason.batteryAbsent)) ∧
        (∀ x, now.tBat = some x → s.chg.table.activeRow now.tBat = none → start = (.paused, some (s.chg.table.side x))) ∧
        (s.chg.table.activeRow now.tBat ≠ none → start = (if now.vBat < 3000 then .precharge else .fast, none)) := by
  refine ⟨⟨_, rfl, rfl, rfl, rfl, by decide, by decide, by decide⟩,
    ⟨_, _, rfl, rfl, by decide, by decide, rfl, rfl, by decide, by decide, by decide, by decide⟩,
    ⟨_, _, rfl, rfl, by decide, by decide, rfl, by decide, by decide, by decide, by decide, rfl, by decide, by decide⟩,
    ⟨_, _, rfl, rfl, rfl, by decide, by decide⟩,
    ⟨{ impact with smn := { impact.smn with criticalCount := 2 } }, _, rfl, rfl, rfl, rfl, by decide, by decide, by decide,
      by decide, by decide, rfl, rfl, rfl, rfl⟩,
    ⟨{ charging 0 with smn := { (charging 0).smn with readings := some { reading 0 0 with tBat := none } } }, _,
      (.fault, some .batteryAbsent), ⟨⟨rfl, by decide⟩, by decide⟩, by decide, by decide, rfl, fun _ => rfl, ?_, ?_⟩⟩
  · intro x h
    cases h
  · intro h
    exact absurd rfl h

/-- The last sweep of QUALIFY in STANDBY, with a reason and a die level. -/
def admitting (why : StandbyReason) (die : DieLevel) : State :=
  { supplied .qualify false 199 with smn := { live.smn with standby := .standby, reason := some why, die := die } }

/-- The input wakes a part that POWER put into STANDBY, and no other, nor a die that is CRITICAL; and a fast timer that
expires in TAPER. -/
theorem witness_SweepEventsAndChargeReset_wake :
    shows (exec (.qualifyEnd (reading 0 300)) (admitting .power .normal)) (fun t => decide (t.smn.standby = .waking ∧
        t.smn.wakeDeadline = some 12000 ∧ t.chg.switchClosed = true)) = true ∧
      shows (exec (.qualifyEnd (reading 0 300)) (admitting .heat .normal)) (fun t => decide (t.smn.standby = .standby ∧
        t.chg.switchClosed = true)) = true ∧
      shows (exec (.qualifyEnd (reading 0 1200)) (admitting .power .critical)) (fun t => decide (
        t.smn.standby = .standby ∧ t.smn.reason = some .power ∧ t.chg.switchClosed = true)) = true ∧
      shows (exec (.safetyTimerExpiry { reading 0 300 with vBat := 4195 })
          { charging 3599999 with chg := { (charging 3599999).chg with state := .taper } }) (fun t => decide (
        t.chg.state = .fault ∧ t.chg.reason = some .fastTimer ∧ t.chg.target = 0)) = true := by
  refine ⟨?_, ?_, ?_, ?_⟩ <;> decide +kernel

/-- STANDBY in each state, WAKE refused and taken, and a wake timer that expires. -/
theorem witness_StandbyParksAndWakeResumes :
    (inStandby.obeys ∧ inStandby.smn.standby = .standby) ∧
      (impact.obeys ∧ impact.smn.standby = .active ∧ impact.clc.mode ≠ .idle) ∧
      (live.obeys ∧ live.smn.standby = .active ∧ live.clc.mode = .idle ∧ live.clc.openClip = none ∧
        live.cp.writing = false ∧ live.clc.drain = none ∧ live.clc.powerClose = none) ∧
      (∃ s : State, s.obeys ∧ s.smn.standby = .standby ∧ s.smn.battery = .critical ∧ s.chg.switchClosed = false) ∧
      ¬(inStandby.smn.battery = .critical ∧ inStandby.chg.switchClosed = false ∨ inStandby.smn.die = .critical) ∧
      (∃ r, waking.powered = true ∧ waking.smn.wakeDeadline = some 2000 ∧ r = waking.reach 2000 ∧ waking.smn.die ≠ .critical ∧
        (waking.smn.battery = .critical → waking.chg.switchClosed = true) ∧ waking.clc.powerClose = none) :=
  ⟨⟨inStandby_obeys, rfl⟩, ⟨⟨⟨rfl, by decide⟩, by decide⟩, rfl, by decide⟩, ⟨live_obeys, rfl, rfl, rfl, rfl, rfl, rfl⟩,
    ⟨{ inStandby with smn := { inStandby.smn with battery := .critical } }, ⟨⟨rfl, by decide⟩, by decide⟩, rfl, rfl, rfl⟩,
    by decide, _, rfl, rfl, rfl, by decide, by decide, rfl⟩

end Sys2Proof.Tests
end

section
/-!
What the operations of the recorder, the buffer and the card leave alone of the queues, counts, corrections and tables
that the range laws speak of (R14, R50, R171, R172, R175).
-/
set_option Elab.async false

namespace Sys2Proof.Machine

/-- The part of the state that the laws of queues, counts, corrections and tables read. -/
structure Observed where
  me : MotionEngine
  lens : LensTable
  pendingLens : Option LensTable
  window : Option WindowTable
  pendingWindow : Option WindowTable
  lines : List PictureCell
  replies : List Reply
  counters : Counters
  setGrade : Nat
  recorderTable : RecorderTable
  chg : ChargeController
  criticalCount : Nat

/-- What those laws read of a state. -/
def State.observed (s : State) : Observed where
  me := s.me
  lens := s.wu.lens
  pendingLens := s.wu.pendingLens
  window := s.wu.window
  pendingWindow := s.wu.pendingWindow
  lines := s.lp.lines
  replies := s.lp.replies
  counters := s.lp.counters
  setGrade := s.cp.setGrade
  recorderTable := s.clc.table
  chg := s.chg
  criticalCount := s.smn.criticalCount

variable (s : State)

/-! ### Updates of one block -/

@[simp] theorem State.setBuffer_observed (f : SlotBuffer → SlotBuffer) : (s.setBuffer f).observed = s.observed := rfl
@[simp] theorem State.setMap_observed (f : ExtentMap → ExtentMap) : (s.setMap f).observed = s.observed := rfl
@[simp] theorem State.setPort_observed (f : SensorPort → SensorPort) : (s.setPort f).observed = s.observed := rfl
@[simp] theorem State.setSlot_observed (n : Nat) (r : SlotRecord) : (s.setSlot n r).observed = s.observed := rfl
@[simp] theorem State.freeSlots_observed (ns : List Nat) : (s.freeSlots ns).observed = s.observed := rfl
@[simp] theorem State.powerQuarter_observed (n : Nat) : (s.powerQuarter n).observed = s.observed := rfl
@[simp] theorem State.setPlace_observed (i : Nat) (r : Option ProtectRange) :
    (s.setPlace i r).observed = s.observed := rfl
@[simp] theorem State.changePlace_observed (i : Nat) (f : ProtectRange → ProtectRange) :
    (s.changePlace i f).observed = s.observed := rfl
@[simp] theorem State.modifyClip_observed (n : Nat) (f : ClipRecord → ClipRecord) :
    (s.modifyClip n f).observed = s.observed := rfl
@[simp] theorem State.post_observed (k : NoticeKind) (v : NoticeValue) : (s.post k v).observed = s.observed := rfl
@[simp] theorem State.advance_observed (n : Nat) : (s.advance n).observed = s.observed := rfl
@[simp] theorem State.reach_observed (d : Time) : (s.reach d).observed = s.observed := rfl
@[simp] theorem State.sendCard_observed (i : CardSend) (w : CardWait) (n : Nat) :
    (s.sendCard i w n).observed = s.observed := rfl
@[simp] theorem State.setFrame_observed (f : FrameRecord → FrameRecord) : (s.setFrame f).observed = s.observed := rfl
@[simp] theorem State.freeLink_observed : s.freeLink.observed = s.observed := rfl
@[simp] theorem State.giveBack_observed (n : Nat) : (s.giveBack n).observed = s.observed := rfl
@[simp] theorem State.enterRing_observed (n : Nat) : (s.enterRing n).observed = s.observed := rfl
@[simp] theorem State.fillSlot_observed (n : Nat) : (s.fillSlot n).observed = s.observed := rfl
@[simp] theorem State.startWake_observed : s.startWake.observed = s.observed := rfl

@[simp] theorem State.setCard_observed (f : CardPort → CardPort) (hf : ∀ c, (f c).setGrade = c.setGrade) :
    (s.setCard f).observed = s.observed := by
  simp [State.observed, hf]

@[simp] theorem State.setRecorder_observed (f : ClipController → ClipController)
    (hf : ∀ c, (f c).table = c.table) : (s.setRecorder f).observed = s.observed := by
  simp [State.observed, hf]

@[simp] theorem State.setSupply_observed (f : SupplyMonitor → SupplyMonitor)
    (hf : ∀ m, (f m).criticalCount = m.criticalCount) : (s.setSupply f).observed = s.observed := by
  simp [State.observed, hf]

/-! ### The Slot Buffer and the clips -/

@[simp] theorem State.writeSlot_observed (n o : Nat) (bs : List Byte) : (s.writeSlot n o bs).observed = s.observed := by
  simp only [State.writeSlot]; split <;> simp

@[simp] theorem State.addGap_observed (n : Nat) : (s.addGap n).observed = s.observed := by
  simp only [State.addGap]; split <;> simp

@[simp] theorem State.addClip_observed (b : Bool) : (s.addClip b).observed = s.observed := by
  simp only [State.addClip]; split <;> simp

@[simp] theorem State.splitClip_observed (n : Nat) : (s.splitClip n).observed = s.observed := by
  simp [State.splitClip]

@[simp] theorem State.formTrailer_observed (c : ClipRecord) (n : Nat) : (s.formTrailer c n).observed = s.observed := by
  simp [State.formTrailer]

@[simp] theorem State.trailerTest_observed : s.trailerTest.observed = s.observed := by
  simp only [State.trailerTest]; split <;> simp

@[simp] theorem State.release_observed (ns : List Nat) : (s.release ns).observed = s.observed := by
  simp [State.release]

@[simp] theorem State.padSlot_observed (n : Nat) : (s.padSlot n).observed = s.observed := by
  simp [State.padSlot]

@[simp] theorem State.stampSlot_observed (n c : Nat) (b : Bool) : (s.stampSlot n c b).observed = s.observed := by
  simp [State.stampSlot]

@[simp] theorem State.sizeTest_observed (c : Nat) : (s.sizeTest c).observed = s.observed := by
  simp only [State.sizeTest]; (repeat' split) <;> simp

@[simp] theorem State.dropMember_observed : s.dropMember.observed = s.observed := by
  simp only [State.dropMember]; split <;> simp

@[simp] theorem State.joinRing_observed (n : Nat) : (s.joinRing n).observed = s.observed := by
  simp only [State.joinRing]; split <;> simp

@[simp] theorem State.closeSlot_observed (c : Option Nat) (b : Bool) : (s.closeSlot c b).observed = s.observed := by
  simp only [State.closeSlot]; (repeat' split) <;> simp

@[simp] theorem State.closeFull_observed : s.closeFull.observed = s.observed := by
  simp only [State.closeFull]; split <;> simp

@[simp] theorem State.makeRoom_observed (k : Nat) : (State.makeRoom k s).observed = s.observed := by
  induction k generalizing s with
  | zero => rfl
  | succ k ih => simp only [State.makeRoom]; split <;> simp [ih]

@[simp] theorem State.fillLowest_observed : s.fillLowest.observed = s.observed := by
  simp only [State.fillLowest]; split <;> simp

@[simp] theorem State.openFilling_observed : s.openFilling.observed = s.observed := by
  simp [State.openFilling]

@[simp] theorem State.placeRecord_observed (n : Nat) (k : RecordKind) (g : Byte) (y : Bool) (p : List Byte) :
    (s.placeRecord n k g y p).observed = s.observed := by
  simp [State.placeRecord]

@[simp] theorem State.overrunStart_observed : s.overrunStart.observed = s.observed := by
  simp only [State.overrunStart]; split <;> simp

@[simp] theorem State.splitTest_observed (b : Bool) : (s.splitTest b).observed = s.observed := by
  simp only [State.splitTest]; split <;> simp

@[simp] theorem State.closeIfFull_observed (n : Nat) : (s.closeIfFull n).observed = s.observed := by
  simp only [State.closeIfFull]; split <;> simp

@[simp] theorem State.appendOpen_observed (k : RecordKind) (g : Byte) (y : Bool) (p : List Byte) :
    (s.appendOpen k g y p).1.observed = s.observed := by
  have opened : (if s.sb.filling.isNone then s.openFilling else s).observed = s.observed := by split <;> simp
  simp only [State.appendOpen]; split <;> simpa using opened

@[simp] theorem State.appendRecord_observed (k : RecordKind) (g : Byte) (y : Bool) (p : List Byte) :
    (s.appendRecord k g y p).1.observed = s.observed := by
  simp only [State.appendRecord]; split <;> simp

@[simp] theorem State.stampAll_observed (c : Nat) (l : List Nat) : (s.stampAll c l).observed = s.observed := by
  induction l generalizing s with
  | nil => rfl
  | cons a l ih => simp [State.stampAll, ih]

@[simp] theorem State.prerollToClip_observed (c : Nat) : (s.prerollToClip c).observed = s.observed := by
  simp [State.prerollToClip]

@[simp] theorem State.finishClip_observed (c : Nat) : (s.finishClip c).observed = s.observed := by
  simp [State.finishClip]

@[simp] theorem State.endDrain_observed : s.endDrain.observed = s.observed := by
  simp only [State.endDrain]; split <;> simp

@[simp] theorem State.startDrain_observed (c : Nat) : (s.startDrain c).observed = s.observed := by
  simp only [State.startDrain]; split <;> simp

@[simp] theorem State.settleSplit_observed (b : Bool) : (s.settleSplit b).observed = s.observed := by
  simp only [State.settleSplit]; split <;> simp

@[simp] theorem State.abandonDrain_observed (c : Nat) : (s.abandonDrain c).observed = s.observed := by
  simp only [State.abandonDrain]; split <;> simp

@[simp] theorem State.forceSplitTest_observed (r : ClipRecord) (f : Nat) :
    (s.forceSplitTest r f).observed = s.observed := by
  simp only [State.forceSplitTest]; split <;> simp

/-! ### The Extent Map -/

@[simp] theorem State.setExtents_observed (e : List Extent) : (s.setExtents e).observed = s.observed := by
  simp only [State.setExtents]; split <;> simp

@[simp] theorem State.consume_observed : s.consume.observed = s.observed := by
  simp [State.consume]

@[simp] theorem State.lockPartial_observed (c : Nat) : (s.lockPartial c).observed = s.observed := by
  simp only [State.lockPartial]; (repeat' split) <;> simp

@[simp] theorem State.addLock_observed (c f n : Nat) : (s.addLock c f n).observed = s.observed := by
  simp only [State.addLock]; (repeat' split) <;> simp

@[simp] theorem State.updateLock_observed (c f : Nat) : (s.updateLock c f).observed = s.observed := by
  simp only [State.updateLock]; split <;> simp

@[simp] theorem State.lockWritten_observed (r : ClipRecord) (f : Nat) : (s.lockWritten r f).observed = s.observed := by
  simp only [State.lockWritten]; split <;> simp

@[simp] theorem State.addLocks_observed (c : Nat) (l : List (Nat × Nat)) : (s.addLocks c l).observed = s.observed := by
  induction l generalizing s with
  | nil => rfl
  | cons a l ih => simp [State.addLocks, ih]

@[simp] theorem State.lockClip_observed (r : ClipRecord) : (s.lockClip r).observed = s.observed := by
  simp [State.lockClip]

@[simp] theorem State.endNoExtent_observed : s.endNoExtent.observed = s.observed := by
  simp only [State.endNoExtent]; split <;> simp

@[simp] theorem State.append_observed (f n : Nat) : (s.append f n).1.observed = s.observed := by
  simp only [State.append]; split
  · rfl
  · dsimp only; split <;> simp

@[simp] theorem State.clearExtents_observed : s.clearExtents.1.observed = s.observed := by
  simp only [State.clearExtents]; split <;> simp [State.answered]

@[simp] theorem State.addProtect_observed (f n : Nat) : (s.addProtect f n).1.observed = s.observed := by
  simp only [State.addProtect]; (repeat' split) <;> simp [State.answered]

@[simp] theorem State.removeProtect_observed (i : Nat) : (s.removeProtect i).1.observed = s.observed := by
  simp only [State.removeProtect, State.removeLock]; (repeat' split) <;> simp [State.answered]

/-! ### The Card Port -/

@[simp] theorem State.startAttach_observed : s.startAttach.observed = s.observed := by
  simp [State.startAttach]

@[simp] theorem State.failAttach_observed : s.failAttach.observed = s.observed := by
  simp [State.failAttach]

@[simp] theorem State.identified_observed (a : IdentifyAnswer) : (s.identified a).observed = s.observed := by
  simp [State.identified]

@[simp] theorem State.attached_observed (g : Grade) : (s.attached g).observed = s.observed := by
  simp [State.attached]

@[simp] theorem State.noExtent_observed (c : Nat) : (s.noExtent c).observed = s.observed := by
  simp [State.noExtent]

@[simp] theorem State.declareFailed_observed : s.declareFailed.observed = s.observed := by
  simp only [State.declareFailed]; split <;> simp

@[simp] theorem State.giveBackWrite_observed : s.giveBackWrite.observed = s.observed := by
  simp only [State.giveBackWrite]; split <;> simp

@[simp] theorem State.setCard_removed_observed : (s.setCard CardPort.removed).observed = s.observed := rfl

@[simp] theorem State.removeCard_observed : s.removeCard.observed = s.observed := by
  simp only [State.removeCard]; split <;> simp

@[simp] theorem State.restartCard_observed : s.restartCard.observed = s.observed := by
  simp only [State.restartCard]; split <;> simp

@[simp] theorem State.wakeCard_observed : s.wakeCard.observed = s.observed := by
  simp only [State.wakeCard]; split <;> simp

@[simp] theorem State.lineChange_observed : s.lineChange.observed = s.observed := by
  simp [State.lineChange]

@[simp] theorem State.detectAsserts_observed : s.detectAsserts.observed = s.observed := by
  simp only [State.detectAsserts, State.assertDetect]; (repeat' split) <;> simp

@[simp] theorem State.detectReleases_observed : s.detectReleases.observed = s.observed := by
  simp only [State.detectReleases, State.releaseDetect]; (repeat' split) <;> simp

@[simp] theorem State.resetWaitEnds_observed : s.resetWaitEnds.observed = s.observed := by
  simp only [State.resetWaitEnds]; split <;> simp

@[simp] theorem State.takeIdentify_observed (a : IdentifyAnswer) : (s.takeIdentify a).observed = s.observed := by
  simp only [State.takeIdentify]; (repeat' split) <;> simp

@[simp] theorem State.identifyExpires_observed : s.identifyExpires.observed = s.observed := by
  simp only [State.identifyExpires]; split <;> simp

@[simp] theorem State.gradeExpires_observed : s.gradeExpires.observed = s.observed := by
  simp only [State.gradeExpires]; (repeat' split) <;> simp

@[simp] theorem State.stopExpires_observed : s.stopExpires.observed = s.observed := by
  simp only [State.stopExpires]; split <;> simp

/-! ### Notices, wake and arming -/

@[simp] theorem State.postAborted_observed (l : List Nat) : (s.postAborted l).observed = s.observed := by
  induction l generalizing s with
  | nil => rfl
  | cons a l ih => simp [State.postAborted, ih]

@[simp] theorem State.newMark_observed (n : Nat) : (s.newMark n).observed = s.observed := by
  simp only [State.newMark]; split <;> simp

@[simp] theorem State.inputArrives_observed : s.inputArrives.observed = s.observed := by
  simp only [State.inputArrives]; split <;> simp

@[simp] theorem State.wakeCommand_observed : s.wakeCommand.1.observed = s.observed := by
  simp only [State.wakeCommand]; (repeat' split) <;> simp [State.answered]

@[simp] theorem State.arm_observed : s.arm.1.observed = s.observed := by
  simp only [State.arm]; split <;> simp [State.answered]

end Sys2Proof.Machine
end

section
/-!
The state right after power-on: its blocks (O2), and the laws that hold in it (O4).
-/
set_option Elab.async false

namespace Sys2Proof.Machine

variable (b : Bool) (q : List Instr)

/-! ### The laws of queues, counts, corrections and tables after power-on -/

theorem State.powerOn_linesOk : (State.powerOn b q).linesOk := by
  simp [State.linesOk, State.powerOn, LinkPort.powerOn]

theorem State.powerOn_countersOk : (State.powerOn b q).countersOk := by
  simp [State.countersOk, State.powerOn, LinkPort.powerOn, Counters.zero, Counters.all]

theorem State.powerOn_countsOk : (State.powerOn b q).countsOk := by
  simp [State.countsOk, State.powerOn, MotionEngine.powerOn, Detector.quiet, CardPort.powerOn,
    ChargeController.powerOn, SupplyMonitor.powerOn]

theorem State.powerOn_correctionOk : (State.powerOn b q).correctionOk := by
  simp [State.correctionOk, State.powerOn, MotionEngine.powerOn, Axis.zero]

/-- The linear curve of the power-on LENS table keeps R34. -/
theorem curveInRange_powerOn : curveInRange 16 ((List.range 17).map (320 * ·)) := by
  unfold curveInRange; decide

/-- The row of the power-on PROFILE table, and so the table, keeps R154. -/
theorem ProfileTable.powerOn_inRange : ProfileTable.powerOn.inRange := by
  simp [ProfileTable.inRange, ProfileTable.powerOn, ProfileRow.inRange]

theorem State.powerOn_tablesOk : (State.powerOn b q).tablesOk := by
  have motion : MotionTable.powerOn.inRange := by
    simp [MotionTable.inRange, MotionTable.powerOn, RateSource.code]
  have recorder : RecorderTable.powerOn.inRange := by
    simp [RecorderTable.inRange, RecorderTable.powerOn]
  exact ⟨⟨motion, nofun⟩, ⟨⟨curveInRange_powerOn, curveInRange_powerOn⟩, nofun⟩, ⟨nofun, nofun⟩, recorder,
    ProfileTable.powerOn_inRange, nofun⟩

/-! ### The laws of the recorder, the buffer and the card after power-on -/

/-- No clip record is held: the laws of the clips say nothing (R121, R122). -/
theorem State.powerOn_recorderOk : (State.powerOn b q).recorderOk := by
  simp [State.recorderOk, State.powerOn, ClipController.powerOn]

theorem State.powerOn_numbersOk : (State.powerOn b q).numbersOk := by
  simp [State.numbersOk, State.powerOn, ClipController.powerOn]

/-- No slot is listed and none is at any place (R70). -/
theorem State.powerOn_bufferOk : (State.powerOn b q).bufferOk := by
  simp [State.bufferOk, State.placedSlots, State.powerOn, ClipController.powerOn, SlotBuffer.powerOn,
    CardPort.powerOn]

theorem State.powerOn_statesOk : (State.powerOn b q).statesOk := by
  simp [State.statesOk, State.powerOn, SlotBuffer.powerOn, CardPort.powerOn]

theorem State.powerOn_parkedOk : (State.powerOn b q).parkedOk :=
  fun h => absurd rfl h

theorem State.powerOn_reasonOk : (State.powerOn b q).reasonOk := by
  simp [State.reasonOk, State.powerOn, SupplyMonitor.powerOn]

theorem State.powerOn_tenthOk : (State.powerOn b q).tenthOk := by
  have writing : (State.powerOn b q).writingOk := by
    simp [State.writingOk, State.powerOn, SlotBuffer.powerOn]
  have flight : (State.powerOn b q).flightOk := by
    simp [State.flightOk, State.powerOn, CardPort.powerOn]
  have queue : (State.powerOn b q).queueOk := by
    simp [State.queueOk, State.waitingSlots, State.powerOn, SlotBuffer.powerOn, CardPort.powerOn]
  have accounts : (State.powerOn b q).accountsOk := by
    simp [State.accountsOk, State.powerOn, ClipController.powerOn]
  have ends : (State.powerOn b q).endsOk := by
    simp [State.endsOk, State.powerOn, ClipController.powerOn, ClipController.trailerDue]
  exact ⟨State.powerOn_recorderOk b q, State.powerOn_numbersOk b q, State.powerOn_bufferOk b q,
    State.powerOn_statesOk b q, writing, flight, State.powerOn_parkedOk b q, State.powerOn_reasonOk b q, queue,
    accounts, ends⟩

/-- The extent table is empty (R104). -/
theorem State.powerOn_extentsOk : (State.powerOn b q).extentsOk := by
  simp [State.extentsOk, State.powerOn, ExtentMap.powerOn]

theorem State.powerOn_mapOk : (State.powerOn b q).mapOk := by
  refine ⟨State.powerOn_extentsOk b q, ?_, ?_⟩ <;> simp [State.powerOn, ExtentMap.powerOn, CardPort.powerOn]

end Sys2Proof.Machine

open Sys2Proof.Machine

/-- Settles O2: the power-on state of every block, written out. -/
theorem powerOnSetsEveryBlock : Obligations.PowerOnSetsEveryBlock := by
  intro b s
  exact ⟨State.powerOn b s.pending, rfl, rfl, rfl, rfl, rfl, rfl, rfl, rfl, rfl, rfl, rfl, rfl, rfl, rfl⟩

/-- Settles O4: the queues and tables of the power-on state are empty, and its counts, levels and tables are constants. -/
theorem powerOnMeetsEveryLaw : Obligations.PowerOnMeetsEveryLaw := by
  rintro b q s rfl
  have link : (State.powerOn b q).linkOk := fun _ => ⟨rfl, rfl, rfl⟩
  have notices : (State.powerOn b q).noticesOk := List.nodup_nil
  have noticeCounts : (State.powerOn b q).noticeCountsOk := by
    simp [State.noticeCountsOk, State.powerOn, LinkPort.powerOn]
  have replies : (State.powerOn b q).repliesOk := Nat.zero_le 8
  have memory : (State.powerOn b q).memoryOk := rfl
  have quiet : (State.powerOn b q).quietOk := fun h => absurd rfl h
  have close : (State.powerOn b q).closeOk := by
    simp [State.closeOk, State.powerOn, ClipController.powerOn]
  have locked : (State.powerOn b q).lockedOk := by
    simp [State.lockedOk, State.powerOn, ClipController.powerOn]
  have target : (State.powerOn b q).targetOk := fun _ => rfl
  have switch : (State.powerOn b q).switchOk := by
    simp [State.switchOk, State.powerOn, ChargeController.powerOn]
  have limit : (State.powerOn b q).inputLimitOk := by
    simp [State.inputLimitOk, State.powerOn, ChargeController.powerOn]
  have crop : (State.powerOn b q).cropOk := by
    simp [State.cropOk, State.powerOn, WindowUnit.powerOn]
  exact ⟨link, notices, noticeCounts, replies, State.powerOn_linesOk b q, State.powerOn_countersOk b q,
    State.powerOn_countsOk b q, State.powerOn_correctionOk b q, memory, State.powerOn_bufferOk b q,
    State.powerOn_statesOk b q, State.powerOn_tenthOk b q, quiet, close, State.powerOn_mapOk b q,
    State.powerOn_numbersOk b q, locked, State.powerOn_recorderOk b q, target, switch, limit,
    State.powerOn_reasonOk b q, State.powerOn_parkedOk b q, crop, State.powerOn_extentsOk b q, rfl,
    State.powerOn_tablesOk b q⟩
end

section
/-!
The fields of a load: what bytes hold, which field validation names, and the ranges of a table that passed it
(R20, R34, R35, R138, R154, R171, R178, R179).
-/
set_option Elab.async false

namespace Sys2Proof.Machine

/-! ### Numbers in bytes (R178) -/

/-- The number of bytes behind one more byte. -/
theorem beNat_concat (bs : List Byte) (b : Byte) : beNat (bs ++ [b]) = beNat bs * 256 + b.toNat := by
  simp [beNat]

/-- w bytes hold a number below 256^w. -/
theorem beNat_lt (bs : List Byte) : beNat bs < 256 ^ bs.length := by
  induction bs using List.reverseRecOn with
  | nil => simp [beNat]
  | append_singleton bs b ih =>
    have hb : b.toNat < 256 := b.isLt
    rw [beNat_concat, List.length_append, List.length_singleton, Nat.pow_succ]
    omega

/-! ### The fields of a load (R179) -/

@[simp] theorem fieldAt_nil (k : Nat) : fieldAt [] k = 0 := rfl
@[simp] theorem fieldAt_cons_zero (f : Nat) (fs : List Nat) : fieldAt (f :: fs) 0 = f := rfl
@[simp] theorem fieldAt_cons_succ (f : Nat) (fs : List Nat) (k : Nat) : fieldAt (f :: fs) (k + 1) = fieldAt fs k := rfl

/-- A field of w bytes is below 256^w. -/
theorem fieldAt_fieldsOf_lt (ws : List Nat) (bs : List Byte) (k : Nat) :
    fieldAt (fieldsOf ws bs) k < 256 ^ ws.getD k 0 := by
  induction ws generalizing bs k with
  | nil => simp [fieldsOf]
  | cons w ws ih =>
    cases k with
    | zero =>
      have short : (bs.take w).length ≤ w := by simp
      exact lt_of_lt_of_le (beNat_lt (bs.take w)) (Nat.pow_le_pow_right (by omega) short)
    | succ k => simpa [fieldsOf] using ih (bs.drop w) k

/-! ### Validation (R171) -/

/-- The conditions are tested in order. -/
theorem firstBad_cons (k : Nat) (b : Bool) (cs : List (Nat × Bool)) :
    firstBad ((k, b) :: cs) = if b = false then some k else firstBad cs := by
  cases b <;> simp [firstBad]

/-- No field is bad exactly where every condition holds. -/
theorem firstBad_eq_none {cs : List (Nat × Bool)} : firstBad cs = none ↔ ∀ c ∈ cs, c.2 = true := by
  simp [firstBad]

/-- A load that is taken is the table, and every condition holds. -/
theorem validated_eq_ok {α : Type} {cs : List (Nat × Bool)} {t u : α} :
    validated cs t = .ok u ↔ (∀ c ∈ cs, c.2 = true) ∧ t = u := by
  rw [← firstBad_eq_none, validated]
  cases firstBad cs <;> simp

/-! ### MOTION (R20) -/

/-- The source that a good code names has that code. -/
theorem RateSource.code_ofCode {n : Nat} (h : n ≤ 5) (src : RateSource) : ((RateSource.ofCode n).getD src).code = n := by
  interval_cases n <;> rfl

theorem parseMotion_inRange {bs : List Byte} {t : MotionTable} (h : parseMotion bs = .ok t) : t.inRange := by
  obtain ⟨good, rfl⟩ := validated_eq_ok.mp h
  simp only [motionConditions, List.forall_mem_cons, decide_eq_true_eq] at good
  obtain ⟨start, -, yaw, ⟨pitch, apart⟩, scale, leak, lead, ratio, period, hold, threshold, count, -⟩ := good
  refine ⟨start, ?_, scale, leak, lead, ratio, period, hold, threshold, count⟩
  simp only [motionTableOf, RateSource.code_ofCode yaw, RateSource.code_ofCode pitch]
  exact Ne.symm apart

/-! ### LENS (R34) -/

/-- The curve whose fields passed the conditions of R34. -/
theorem curveInRange_of_conditions {fs : List Nat} {base : Nat} (good : ∀ c ∈ curveConditions fs base, c.2 = true)
    (small : ∀ i, i < 17 → fieldAt fs (base + 1 + i) < 65536) :
    curveInRange (fieldAt fs base) ((List.range 17).map (fun i => fieldAt fs (base + 1 + i))) := by
  simp only [curveConditions, List.forall_mem_cons, List.forall_mem_map, List.mem_range, decide_eq_true_eq] at good
  obtain ⟨shift, first, rising⟩ := good
  have point : ∀ i, i < 17 →
      ((List.range 17).map (fun i => fieldAt fs (base + 1 + i))).getD i 0 = fieldAt fs (base + 1 + i) := by
    intro i hi
    simp [List.getD, hi]
  refine ⟨shift, by simp, by rw [point 0 (by omega)]; exact first, ?_, fun i hi => ?_⟩
  · simp only [List.mem_map, List.mem_range]
    rintro p ⟨i, hi, rfl⟩
    exact Nat.le_of_lt_succ (small i hi)
  · rw [point i (by omega), point (i + 1) (by omega)]
    simpa [Nat.add_assoc, Nat.add_comm, Nat.add_left_comm] using rising i hi

/-- The points of both curves are fields of 16 bits. -/
theorem lensPoint_lt (bs : List Byte) {i : Nat} (h : i < 17) :
    fieldAt (fieldsOf lensWidths bs) (0 + 1 + i) < 65536 ∧ fieldAt (fieldsOf lensWidths bs) (18 + 1 + i) < 65536 := by
  have widths : ∀ i, i < 17 → lensWidths.getD (0 + 1 + i) 0 = 2 ∧ lensWidths.getD (18 + 1 + i) 0 = 2 := by decide
  have low := fieldAt_fieldsOf_lt lensWidths bs (0 + 1 + i)
  have high := fieldAt_fieldsOf_lt lensWidths bs (18 + 1 + i)
  rw [(widths i h).1] at low
  rw [(widths i h).2] at high
  exact ⟨low, high⟩

theorem parseLens_inRange {bs : List Byte} {t : LensTable} (h : parseLens bs = .ok t) : t.inRange := by
  have small := fun i (hi : i < 17) => lensPoint_lt bs hi
  unfold parseLens at h
  generalize fieldsOf lensWidths bs = fs at h small
  rw [validated_eq_ok, lensConditions, List.forall_mem_append] at h
  obtain ⟨⟨horizontal, vertical⟩, rfl⟩ := h
  have horizontal := curveInRange_of_conditions horizontal (fun i hi => (small i hi).1)
  have vertical := curveInRange_of_conditions vertical (fun i hi => (small i hi).2)
  exact ⟨by simpa [lensTableOf] using horizontal, by simpa [lensTableOf] using vertical⟩

/-! ### WINDOW and RECORDER (R35, R138) -/

theorem parseWindow_inRange {bs : List Byte} {t : WindowTable} (h : parseWindow bs = .ok t) : t.inRange := by
  obtain ⟨good, rfl⟩ := validated_eq_ok.mp h
  simp only [windowConditions, List.forall_mem_cons, decide_eq_true_eq] at good
  obtain ⟨win, hin, wout, hout, bands, -⟩ := good
  exact ⟨win, hin, wout, hout, bands⟩

theorem parseRecorder_inRange {bs : List Byte} {t : RecorderTable} (h : parseRecorder bs = .ok t) : t.inRange := by
  obtain ⟨good, rfl⟩ := validated_eq_ok.mp h
  simp only [recorderConditions, List.forall_mem_cons, decide_eq_true_eq] at good
  obtain ⟨depth, limit, drain, busy, low, -⟩ := good
  exact ⟨depth, limit, drain, busy, low⟩

/-! ### PROFILE (R154) -/

/-- A row meets a range, or its lower end, where both cover one temperature (R154's condition on T LOW). -/
theorem ProfileRow.meets_iff (r : ProfileRow) (t h : Int) :
    r.meets t h = true ↔ ∃ x, r.tLow ≤ x ∧ x ≤ r.tHigh ∧ (x = t ∨ t ≤ x ∧ x ≤ h) := by
  simp only [ProfileRow.meets, Bool.or_eq_true, decide_eq_true_eq]
  constructor
  · rintro (⟨low, high⟩ | ⟨low, high, ordered, row⟩)
    · exact ⟨t, low, high, .inl rfl⟩
    · exact ⟨max r.tLow t, by omega, by omega, by omega⟩
  · rintro ⟨x, low, high, rfl | inside⟩
    · exact .inl ⟨low, high⟩
    · exact .inr (by omega)

theorem parseProfile_inRange {bs : List Byte} {t : ProfileTable} (h : parseProfile bs = .ok t) : t.inRange := by
  unfold parseProfile at h
  generalize fieldsOf profileWidths bs = fs at h
  rw [validated_eq_ok] at h
  obtain ⟨good, rfl⟩ := h
  simp only [profileConditions, List.forall_mem_cons, List.forall_mem_append, List.forall_mem_flatMap,
    List.mem_range, profileRowConditions, Bool.and_eq_true, List.all_eq_true, Bool.not_eq_true', decide_eq_true_eq]
    at good
  obtain ⟨count, rows, precharge, termination, slow, fast, low, crit, cut, -⟩ := good
  rw [Nat.min_eq_left count.2] at rows
  refine ⟨by simpa [profileTableOf] using count, ?_, ?_, precharge, termination, slow, fast, low, crit, cut⟩
  · simp only [profileTableOf, List.mem_map, List.mem_range]
    rintro r ⟨i, hi, rfl⟩
    obtain ⟨⟨lower, -⟩, upper, current, voltage, -⟩ := rows i hi
    exact ⟨lower.1, upper.1, upper.2, current, voltage⟩
  · simp only [profileTableOf, List.pairwise_map]
    refine List.pairwise_lt_range.imp_of_mem fun {j i} _ hi hji x ⟨xj, jx, xi, ix⟩ => ?_
    obtain ⟨⟨-, apart⟩, -⟩ := rows i (List.mem_range.mp hi)
    have met := (ProfileRow.meets_iff (profileRowOf fs j) _ _).mpr ⟨x, xj, jx, .inr ⟨xi, ix⟩⟩
    rw [apart j hji] at met
    cases met

end Sys2Proof.Machine
end

section
/-!
What every operation of the part keeps: the ranges of queues, counters and counts (R50, R172, R175), the bounds of the
corrections (R14) and the ranges of the tables (R171). One relation between two states, one rule for each operation, and
from them the statements about every step.
-/
set_option Elab.async false

namespace Sys2Proof.Machine

/-- The run count of the detector stands still at 15 (R58). -/
theorem Detector.test_run_le (d : Detector) (m : MotionTable) (x : Nat) : (d.test m x).1.run ≤ 15 := by
  have run : raise 15 d.run 1 ≤ 15 := raise_le _ _ _
  simp only [Detector.test]
  (repeat' split) <;> simp [Detector.quiet, run]

/-- A filter step saturates to C_LIM (R14). -/
theorem Axis.step_bounds {a : Axis} (h : -16777215 ≤ a.c ∧ a.c ≤ 16777215) (m : MotionTable) (g : Int) :
    -16777215 ≤ (a.step m g).c ∧ (a.step m g).c ≤ 16777215 := by
  unfold Axis.step; split
  · exact h
  · exact saturate_bounds (by decide) _

/-- The motion queue holds at most 64 entries (R19). -/
theorem length_joinQueue_le (q : List MotionEntry) (h : q.length ≤ 64) (e : MotionEntry) :
    (joinQueue q e).length ≤ 64 := by
  unfold joinQueue; split
  · simp; omega
  · simp; omega

/-- What an operation that leads from s to t keeps: no more replies wait, and each law of ranges that holds of s
holds of t. -/
structure State.Keeps (s t : State) : Prop where
  replies : t.lp.replies.length ≤ s.lp.replies.length
  lines : s.linesOk → t.linesOk
  counters : s.countersOk → t.countersOk
  counts : s.countsOk → t.countsOk
  correction : s.correctionOk → t.correctionOk
  tables : s.tablesOk → t.tablesOk

namespace State.Keeps

variable {s t u : State}

theorem refl (s : State) : s.Keeps s := ⟨le_refl _, id, id, id, id, id⟩

theorem trans (h : s.Keeps t) (k : t.Keeps u) : s.Keeps u :=
  ⟨k.replies.trans h.replies, k.lines ∘ h.lines, k.counters ∘ h.counters, k.counts ∘ h.counts,
    k.correction ∘ h.correction, k.tables ∘ h.tables⟩

/-- An operation that leaves what the laws read as it was keeps them. -/
theorem same (h : s.Keeps t) (e : u.observed = t.observed := by simp) : s.Keeps u := by
  simp only [State.observed, Observed.mk.injEq] at e
  obtain ⟨me, lens, pendingLens, window, pendingWindow, lines, replies, counters, grade, recorder, chg, critical⟩ := e
  refine ⟨by rw [replies]; exact h.replies, fun k => ?_, fun k => ?_, fun k => ?_, fun k => ?_, fun k => ?_⟩
  · simpa only [State.linesOk, lines] using h.lines k
  · simpa only [State.countersOk, counters] using h.counters k
  · simpa only [State.countsOk, me, grade, chg, critical] using h.counts k
  · simpa only [State.correctionOk, me] using h.correction k
  · simpa only [State.tablesOk, me, lens, pendingLens, window, pendingWindow, recorder, chg] using h.tables k

/-! ### Updates of one block -/

/-- A change of the Motion Engine. -/
theorem setMotion {f : MotionEngine → MotionEngine} (h : s.Keeps t) (hc : t.countsOk → (t.setMotion f).countsOk)
    (hr : t.correctionOk → (t.setMotion f).correctionOk) (ht : t.tablesOk → (t.setMotion f).tablesOk) :
    s.Keeps (t.setMotion f) :=
  ⟨h.replies, h.lines, h.counters, hc ∘ h.counts, hr ∘ h.correction, ht ∘ h.tables⟩

/-- A change of the Charge Controller. -/
theorem setCharge {f : ChargeController → ChargeController} (h : s.Keeps t)
    (hc : t.countsOk → (t.setCharge f).countsOk) (ht : t.tablesOk → (t.setCharge f).tablesOk) :
    s.Keeps (t.setCharge f) :=
  ⟨h.replies, h.lines, h.counters, hc ∘ h.counts, h.correction, ht ∘ h.tables⟩

/-- A change of the Supply Monitor. -/
theorem setSupply {f : SupplyMonitor → SupplyMonitor} (h : s.Keeps t)
    (hc : t.countsOk → (t.setSupply f).countsOk) : s.Keeps (t.setSupply f) :=
  ⟨h.replies, h.lines, h.counters, hc ∘ h.counts, h.correction, h.tables⟩

/-- A change of the Window Unit's tables. -/
theorem setWindowUnit {f : WindowUnit → WindowUnit} (h : s.Keeps t)
    (ht : t.tablesOk → (t.setWindowUnit f).tablesOk) : s.Keeps (t.setWindowUnit f) :=
  ⟨h.replies, h.lines, h.counters, h.counts, h.correction, ht ∘ h.tables⟩

/-- Every counter stands still at 65,535 (R175). -/
theorem countBy (h : s.Keeps t) (k : Counter) (n : Nat) : s.Keeps (t.countBy k n) := by
  refine ⟨h.replies, h.lines, fun c => ?_, h.counts, h.correction, h.tables⟩
  have c := h.counters c
  have top : ∀ m, raise lim16 m n ≤ 65535 := fun m => raise_le _ _ _
  simp only [State.countersOk, Counters.all, List.forall_mem_cons, State.countBy_counters] at c ⊢
  obtain ⟨c1, c2, c3, c4, c5, c6, c7, c8, c9, c10, c11, c12, c13, c14, c15, c16, -⟩ := c
  cases k <;> simp [Counters.add, *]

theorem count (h : s.Keeps t) (k : Counter) : s.Keeps (t.count k) := h.countBy k 1

/-- A new cell of the line queue, within the bounds of R50. -/
theorem pushCell (h : s.Keeps t) (c : PictureCell) (hl : t.linesOk → (t.pushCell c).linesOk) :
    s.Keeps (t.pushCell c) :=
  ⟨h.replies, hl ∘ h.lines, h.counters, h.counts, h.correction, h.tables⟩

/-- The arbiter only takes cells from the queues (R174). -/
theorem arbitrate (h : s.Keeps t) : s.Keeps t.arbitrate := by
  have link : t.lp.arbitrate.replies.length ≤ t.lp.replies.length ∧ (t.linesOk → t.arbitrate.linesOk) ∧
      t.lp.arbitrate.counters = t.lp.counters := by
    simp only [State.linesOk, State.arbitrate_lp]
    rcases t.lp.arbitrate_cases with ⟨-, e⟩ | ⟨c, rest, -, l, e⟩ | ⟨r, rest, -, l, q, e⟩ | ⟨n, rest, -, l, q, p, e⟩ |
      ⟨-, l, q, p, e⟩ <;> rw [e]
    · exact ⟨le_refl _, id, rfl⟩
    · refine ⟨le_refl _, fun ⟨lines, ends⟩ => ?_, rfl⟩
      rw [l] at lines ends
      have fewer := List.sublist_cons_self c rest
      exact ⟨fewer.countP_le.trans lines, fewer.countP_le.trans ends⟩
    · exact ⟨by simp [q], id, rfl⟩
    · exact ⟨le_refl _, id, rfl⟩
    · exact ⟨le_refl _, id, rfl⟩
  obtain ⟨replies, lines, counters⟩ := link
  refine ⟨replies.trans h.replies, lines ∘ h.lines, fun k => ?_, h.counts, h.correction, h.tables⟩
  simpa only [State.countersOk, State.arbitrate_lp, counters] using h.counters k

theorem setBuffer (h : s.Keeps t) (f : SlotBuffer → SlotBuffer) : s.Keeps (t.setBuffer f) := h.same

theorem setSlot (h : s.Keeps t) (n : Nat) (r : SlotRecord) : s.Keeps (t.setSlot n r) := h.same

theorem modifyClip (h : s.Keeps t) (n : Nat) (f : ClipRecord → ClipRecord) : s.Keeps (t.modifyClip n f) := h.same

theorem post (h : s.Keeps t) (k : NoticeKind) (v : NoticeValue) : s.Keeps (t.post k v) := h.same

/-! ### The motion queue and the recorder (R19, R85, R121 to R137) -/

theorem dropMotion (h : s.Keeps t) : s.Keeps t.dropMotion :=
  h.setMotion (by simp +contextual [State.countsOk]) id id

/-- Records that are formed only shorten the motion queue (R85). -/
theorem pumpRecords (h : s.Keeps t) (k : Nat) : s.Keeps (State.pumpRecords k t) := by
  induction k generalizing t with
  | zero => exact h
  | succ k ih =>
    simp only [State.pumpRecords]
    split
    · exact h
    · split
      · refine ih ((h.same (State.appendRecord_observed ..)).setMotion ?_ id id)
        rintro ⟨gaps, queue, rest⟩
        exact ⟨gaps, (List.drop_sublist 32 _).length_le.trans queue, rest⟩
      · exact h.same

theorem pump (h : s.Keeps t) : s.Keeps t.pump := h.pumpRecords _

theorem retryMotion (h : s.Keeps t) : s.Keeps t.retryMotion := by
  unfold State.retryMotion; split
  · exact h
  · exact h.pump

theorem discardRecord (h : s.Keeps t) : s.Keeps t.discardRecord := by
  unfold State.discardRecord
  exact (h.count .recordsDiscarded).same

theorem handRecord (h : s.Keeps t) (k : RecordKind) (p : List Byte) : s.Keeps (t.handRecord k p) := by
  have appended := h.same (State.appendRecord_observed t k 0 false p)
  simp only [State.handRecord]; split
  · exact appended
  · exact appended.discardRecord

theorem handVideo (h : s.Keeps t) (y f l g : Bool) (p : List Byte) : s.Keeps (t.handVideo y f l g p).1 := by
  have appended := fun b => h.same (State.appendRecord_observed t .video b y p)
  simp only [State.handVideo]; split
  · exact h.discardRecord
  · dsimp only; split
    · exact (appended _).setBuffer _
    · exact (appended _).discardRecord

theorem freePreroll (h : s.Keeps t) : s.Keeps t.freePreroll := by
  simp only [State.freePreroll]
  exact (h.setBuffer _).dropMotion.same (State.release_observed ..)

theorem disarmNow (h : s.Keeps t) : s.Keeps t.disarmNow := by
  unfold State.disarmNow
  exact h.freePreroll.same

theorem disarm (h : s.Keeps t) : s.Keeps t.disarm.1 := by
  unfold State.disarm; split
  · exact h.disarmNow
  · exact h
  · exact h

theorem takePreroll (h : s.Keeps t) (c : Nat) : s.Keeps (t.takePreroll c) := by
  unfold State.takePreroll; split
  · exact h.same
  · exact (h.same (State.prerollToClip_observed t c)).retryMotion

theorem startClip (h : s.Keeps t) (b : Bool) : s.Keeps (t.startClip b) := by
  unfold State.startClip; split
  · exact h
  · have opened : s.Keeps ((t.addClip b).setRecorder (fun c => { c with
        mode := .recording, splitDue := false, forcedSplitDue := false })) := h.same
    dsimp only; split
    · exact opened.takePreroll _
    · exact opened

theorem startRecord (h : s.Keeps t) : s.Keeps t.startRecord.1 := by
  unfold State.startRecord; split
  · exact h
  · exact h.startClip false

theorem endRecording (h : s.Keeps t) (c : Nat) (r : EndReason) : s.Keeps (t.endRecording c r) := by
  unfold State.endRecording
  exact (h.modifyClip c _).dropMotion.same (State.setRecorder_observed _ _ fun _ => rfl)

theorem stopRecord (h : s.Keeps t) : s.Keeps t.stopRecord.1 := by
  unfold State.stopRecord; split
  · exact h
  · split
    · split
      · exact (h.endRecording _ _).same (State.startDrain_observed ..)
      · exact h
    · exact h

theorem closeForPower (h : s.Keeps t) (r : PowerReason) : s.Keeps (t.closeForPower r) := by
  unfold State.closeForPower; split
  · split
    · exact (h.endRecording _ _).same (State.finishClip_observed ..)
    · exact h
  · exact h.disarmNow
  · exact h

theorem startPowerClose (h : s.Keeps t) (r : PowerReason) : s.Keeps (t.startPowerClose r) := by
  unfold State.startPowerClose; split
  · exact h
  · exact (h.closeForPower r).same

theorem closeIfActive (h : s.Keeps t) (r : PowerReason) : s.Keeps (t.closeIfActive r) := by
  unfold State.closeIfActive; split
  · exact h.startPowerClose r
  · exact h

theorem powerCloseTest (h : s.Keeps t) : s.Keeps t.powerCloseTest := by
  unfold State.powerCloseTest; split
  · exact h.startPowerClose _
  · split
    · exact h.startPowerClose _
    · exact h

theorem completionTest (h : s.Keeps t) (n : Nat) : s.Keeps (t.completionTest n) := by
  unfold State.completionTest; split
  · exact h.same
  · exact (h.same (State.freeSlots_observed t [n])).retryMotion

theorem completeWrite (h : s.Keeps t) (n f : Nat) : s.Keeps (t.completeWrite n f) := by
  unfold State.completeWrite; split
  · split
    · exact State.Keeps.completionTest h.same n
    · exact State.Keeps.completionTest h.same n
  · exact h.completionTest n

theorem abortNow (h : s.Keeps t) (c : Nat) : s.Keeps (t.abortNow c) := by
  simp only [State.abortNow]; split
  · exact h.same
  · exact State.Keeps.retryMotion h.same

theorem splitAtCell (h : s.Keeps t) (o g : Nat) (f l : Bool) (p : List Byte) : s.Keeps (t.splitAtCell o g f l p) := by
  have opened : s.Keeps (((t.closeSlot (some o) true).splitClip o).addGap g) := h.same
  simp only [State.splitAtCell]
  exact (opened.handVideo true f l (decide (0 < g)) p).same

theorem recordCell (h : s.Keeps t) (g : Nat) (y f l : Bool) (p : List Byte) : s.Keeps (t.recordCell g y f l p) := by
  unfold State.recordCell; split
  · exact h.splitAtCell _ _ _ _ _
  · exact (h.same (State.addGap_observed t g)).handVideo _ _ _ _ _

theorem placeCell (h : s.Keeps t) (g : Nat) (y f l : Bool) (p : List Byte) : s.Keeps (t.placeCell g y f l p) := by
  have drained := (h.same (State.addGap_observed t g)).handVideo y f l (decide (0 < g)) p
  unfold State.placeCell; split
  · exact h.recordCell _ _ _ _ _
  · exact h.handVideo _ _ _ _ _
  · split
    · dsimp only; split
      · exact drained.same
      · exact drained
    · exact h.count _

theorem takeClipCell (h : s.Keeps t) (g : Byte) (q : BitVec 16) (p : List Byte) : s.Keeps (t.takeClipCell g q p) := by
  unfold State.takeClipCell; split
  · exact ((h.countBy .clipCellsMissing _).same rfl : s.Keeps (t.sequenceTest q)).placeCell _ _ _ _ _
  · exact h.count _

/-- A RECORDER load is the active table at once, and in its ranges (R138). -/
theorem loadRecorder (h : s.Keeps t) (b : List Byte) : s.Keeps (t.loadRecorder b).1 := by
  unfold State.loadRecorder; split
  · exact h
  · next r parsed =>
    split
    · refine State.Keeps.same (t := t.setRecorder (fun c => { c with table := r })) ?_
      refine ⟨h.replies, h.lines, h.counters, h.counts, h.correction, fun k => ?_⟩
      obtain ⟨motion, lens, window, -, profile⟩ := h.tables k
      exact ⟨motion, lens, window, parseRecorder_inRange parsed, profile⟩
    · exact h

/-! ### The Card Port (R105 to R120) -/

theorem giveBack (h : s.Keeps t) (n : Nat) : s.Keeps (t.giveBack n) := h.same

theorem noExtent (h : s.Keeps t) (c : Nat) : s.Keeps (t.noExtent c) := h.same

theorem markDamaged (h : s.Keeps t) (n : Nat) : s.Keeps (t.markDamaged n) := by
  unfold State.markDamaged; split
  · exact h
  · exact ((h.setSlot n _).count _).modifyClip _ _

theorem readBlock (h : s.Keeps t) (n : Nat) (e : EccRead) : s.Keeps (t.readBlock n e) := by
  simp only [State.readBlock]; split
  · exact (h.countBy _ _).markDamaged n
  · exact h.countBy _ _

theorem beginAttempt (h : s.Keeps t) (w : SlotWrite) (e : EccRead) : s.Keeps (t.beginAttempt w e) :=
  State.Keeps.readBlock h.same _ _

theorem takeSlot (h : s.Keeps t) (w : SlotWrite) (e : EccRead) : s.Keeps (t.takeSlot w e) := by
  unfold State.takeSlot; split
  · exact h.same
  · exact State.Keeps.beginAttempt h.same _ _

theorem startWrite (h : s.Keeps t) (e : EccRead) : s.Keeps (t.startWrite e) := by
  unfold State.startWrite; split
  · exact h.same
  · dsimp only; split
    · exact State.Keeps.takeSlot h.same _ _
    · exact h.same

theorem failAttempt (h : s.Keeps t) : s.Keeps t.failAttempt := by
  unfold State.failAttempt
  exact (h.count .cardRetries).same

theorem skipPosition (h : s.Keeps t) (w : SlotWrite) (e : EccRead) : s.Keeps (t.skipPosition w e) := by
  have consumed := h.same (State.consume_observed t)
  simp only [State.skipPosition]; split
  · exact ((consumed.modifyClip _ _).count _).beginAttempt _ _
  · exact (((consumed.modifyClip _ _).count _).giveBack _).noExtent _

theorem afterStop (h : s.Keeps t) (w : SlotWrite) (e : EccRead) : s.Keeps (t.afterStop w e) := by
  have ready : s.Keeps (t.setCard (fun c => { c with card := .ready, wait := none })) := h.same
  simp only [State.afterStop]; split
  · exact ready.beginAttempt _ _
  · split
    · exact ready.skipPosition _ _
    · exact ready.same

theorem writeSucceeds (h : s.Keeps t) (w : SlotWrite) : s.Keeps (t.writeSucceeds w) := by
  unfold State.writeSucceeds
  exact ((h.same (State.consume_observed t)).completeWrite (w.slot.getD 0) w.position).same

theorem blockAccepted (h : s.Keeps t) (w : SlotWrite) (e : EccRead) : s.Keeps (t.blockAccepted w e) := by
  simp only [State.blockAccepted]; split
  · exact State.Keeps.readBlock h.same _ _
  · exact h.same

theorem takeGradeAnswer (h : s.Keeps t) (e : EccRead) : s.Keeps (t.takeGradeAnswer e) := by
  unfold State.takeGradeAnswer State.gradeSet; split
  · exact h.same
  · split
    · split
      · exact State.Keeps.takeSlot h.same _ _
      · exact h
    · exact h

theorem writeStarts (h : s.Keeps t) (e : EccRead) : s.Keeps (t.writeStarts e) := by
  unfold State.writeStarts; split
  · exact h.startWrite e
  · exact h

theorem takeBlockAnswer (h : s.Keeps t) (r : BlockResult) (e : EccRead) : s.Keeps (t.takeBlockAnswer r e) := by
  unfold State.takeBlockAnswer; split
  · cases r with
    | accepted => exact h.blockAccepted _ _
    | checkError => exact h.failAttempt
    | writeError => exact h.failAttempt
  · exact h

theorem blockExpires (h : s.Keeps t) : s.Keeps t.blockExpires := by
  unfold State.blockExpires; split
  · exact State.Keeps.failAttempt h.same
  · exact h

theorem busyExpires (h : s.Keeps t) : s.Keeps t.busyExpires := by
  unfold State.busyExpires; split
  · exact State.Keeps.failAttempt h.same
  · exact h

/-- SET CARD GRADE clamps its value (R108). -/
theorem setCardGrade (h : s.Keeps t) (v : Nat) : s.Keeps (t.setCardGrade v).1 := by
  refine ⟨h.replies, h.lines, h.counters, fun k => ?_, h.correction, h.tables⟩
  obtain ⟨gaps, queue, run, -, charge⟩ := h.counts k
  refine ⟨gaps, queue, run, ?_, charge⟩
  simp [State.setCardGrade, clampNat_eq_max_min]

/-! ### Standby, wake and RESTART (R163 to R167, R177) -/

/-- The blocks of a part that enters standby or restarts: the engine is cleared, and the line queue is empty. -/
theorem cleared (h : s.Keeps t) {reading : Bool} (hm : u.me = t.me.cleared reading) (hl : u.lp.lines = [])
    (hr : u.lp.replies.length ≤ t.lp.replies.length) (hc : u.lp.counters = t.lp.counters ∨ u.lp.counters = Counters.zero)
    (hg : u.cp.setGrade = t.cp.setGrade) (hb : u.chg = t.chg) (hs : u.smn = t.smn)
    (hw : u.wu = { t.wu with frame := none }) (ht : u.clc.table = t.clc.table) : s.Keeps u := by
  refine ⟨hr.trans h.replies, fun _ => by simp [State.linesOk, hl], fun k => ?_, fun k => ?_, fun _ => ?_, fun k => ?_⟩
  · rcases hc with e | e
    · simpa only [State.countersOk, e] using h.counters k
    · simp [State.countersOk, e, Counters.zero, Counters.all]
  · obtain ⟨-, -, -, grade, charge⟩ := h.counts k
    exact ⟨by simp [hm, MotionEngine.cleared, MotionEngine.powerOn], by simp [hm, MotionEngine.cleared, MotionEngine.powerOn],
      by simp [hm, MotionEngine.cleared, MotionEngine.powerOn, Detector.quiet], hg ▸ grade, by rw [hb, hs]; exact charge⟩
  · simp [State.correctionOk, hm, MotionEngine.cleared, MotionEngine.powerOn, Axis.zero]
  · obtain ⟨motion, lens, window, recorder, profile⟩ := h.tables k
    exact ⟨by rw [hm]; exact motion, by rw [hw]; exact lens, by rw [hw]; exact window, ht ▸ recorder, hb ▸ profile⟩

theorem parkBlocks (h : s.Keeps t) : s.Keeps t.parkBlocks :=
  h.cleared (reading := false) rfl rfl (le_refl _) (.inl rfl) rfl rfl rfl rfl rfl

theorem enterStandby (h : s.Keeps t) (r : StandbyReason) : s.Keeps (t.enterStandby r) :=
  State.Keeps.parkBlocks h.same

theorem endPowerClose (h : s.Keeps t) : s.Keeps t.endPowerClose := by
  unfold State.endPowerClose; split
  · exact h
  · split
    · dsimp only; split
      · exact State.Keeps.enterStandby h.same _
      · exact h.same
    · exact h

theorem checkPowerClose (h : s.Keeps t) (old : State) : s.Keeps (t.checkPowerClose old) := by
  unfold State.checkPowerClose; split
  · exact h.endPowerClose
  · exact h

theorem runStreams (h : s.Keeps t) : s.Keeps t.runStreams :=
  State.Keeps.setMotion (t := t.setPort _) h.same id id id

theorem endWake (h : s.Keeps t) : s.Keeps t.endWake := by
  have awake : s.Keeps (t.setSupply SupplyMonitor.awake).wakeCard :=
    h.same ((State.wakeCard_observed _).trans rfl)
  exact awake.runStreams.powerCloseTest

theorem wakeExpires (h : s.Keeps t) : s.Keeps t.wakeExpires := by
  unfold State.wakeExpires; split
  · exact (State.Keeps.endWake h.same).checkPowerClose _
  · exact h

theorem standbyCommand (h : s.Keeps t) : s.Keeps t.standbyCommand.1 := by
  unfold State.standbyCommand; split
  · split
    · exact (h.enterStandby _).endPowerClose
    · exact h
  · exact h
  · exact h

theorem finishWrite (h : s.Keeps t) (w : SlotWrite) : s.Keeps (t.finishWrite w) := by
  unfold State.finishWrite; split
  · exact (h.writeSucceeds w).endPowerClose
  · exact h.writeSucceeds w

theorem takeReady (h : s.Keeps t) (m : ReportMoment) (e : EccRead) : s.Keeps (t.takeReady m e) := by
  unfold State.takeReady; split
  · split
    · exact h.finishWrite _
    · split
      · exact h.afterStop _ _
      · exact h
  · exact h

theorem abortClip (h : s.Keeps t) (c : Nat) : s.Keeps (t.abortClip c).1 := by
  unfold State.abortClip; split
  · exact h
  · split
    · exact h
    · exact h
    · exact h
    · split
      · exact h
      · exact (h.abortNow c).endPowerClose

theorem drainExpires (h : s.Keeps t) : s.Keeps t.drainExpires := by
  unfold State.drainExpires; split
  · exact State.Keeps.endPowerClose h.same
  · exact h

theorem clearCounters (h : s.Keeps t) : s.Keeps t.clearCounters.1 :=
  ⟨h.replies, h.lines, fun _ => by simp [State.clearCounters, State.countersOk, Counters.zero, Counters.all], h.counts,
    h.correction, h.tables⟩

theorem setTime (h : s.Keeps t) (v : Nat) : s.Keeps (t.setTime v).1 :=
  ⟨h.replies, h.lines, h.counters, h.counts, h.correction, h.tables⟩

theorem restart (h : s.Keeps t) : s.Keeps t.restart.1 := by
  unfold State.restart; split
  · exact h
  · have card : t.restartNow.cp.setGrade = t.cp.setGrade := by
      simp only [State.restartNow, State.restartBlocks, State.restartCard]; split <;> rfl
    refine h.cleared (reading := true) ?_ ?_ ?_ (.inr ?_) card ?_ ?_ ?_ ?_ <;>
      simp [State.restartNow, State.restartBlocks, LinkPort.zeroed, LinkPort.emptied, ClipController.restarted]

/-! ### The Motion Engine (R1 to R22, R57 to R63) -/

theorem holdAxes (h : s.Keeps t) : s.Keeps t.holdAxes := h.setMotion id id id

theorem restAxes (h : s.Keeps t) : s.Keeps t.restAxes := h.setMotion id id id

theorem restartGap (h : s.Keeps t) : s.Keeps t.restartGap := h.setMotion id id id

theorem markShock (h : s.Keeps t) (p c : Nat) : s.Keeps (t.markShock p c) := by
  unfold State.markShock; split
  · exact h
  · exact h.handRecord _ _

theorem shockAction (h : s.Keeps t) : s.Keeps t.shockAction.1 := by
  unfold State.shockAction; split
  · exact h
  · split
    · split
      · exact h
      · exact h.startClip true
    · exact h
  · split
    · split
      · exact h
      · exact h.same
    · exact h

theorem handleShock (h : s.Keeps t) (p c : Nat) : s.Keeps (t.handleShock p c) :=
  ((h.count .shocks).holdAxes.markShock p c).shockAction.post _ _

theorem testShock (h : s.Keeps t) (x : Sample) : s.Keeps (t.testShock x) := by
  have tested : s.Keeps (t.setMotion (fun m => { m with
      detector := (t.me.detector.test t.me.table x.magnitude).1 })) := by
    refine h.setMotion ?_ id id
    rintro ⟨gaps, queue, -, rest⟩
    exact ⟨gaps, queue, Detector.test_run_le .., rest⟩
  simp only [State.testShock]; split
  · exact tested.handleShock _ _
  · exact tested

/-- The pending MOTION table keeps its ranges when it is taken (R21). -/
theorem takeMotionTable (h : s.Keeps t) : s.Keeps t.takeMotionTable := by
  unfold State.takeMotionTable; split
  · next m pending =>
    refine (h.setMotion id id ?_).post _ _
    rintro ⟨⟨-, waiting⟩, rest⟩
    exact ⟨⟨waiting m pending, nofun⟩, rest⟩
  · exact h

theorem filter (h : s.Keeps t) (tracking : t.me.motion = .tracking) (x : Sample) : s.Keeps (t.filter x) := by
  refine h.setMotion id ?_ id
  rintro ⟨yaw, pitch, -⟩
  exact ⟨Axis.step_bounds yaw _ _, Axis.step_bounds pitch _ _, fun lost => by
    rw [State.setMotion_me, tracking] at lost; cases lost⟩

/-- The corrections are cleared when motion is lost (R7). -/
theorem loseMotion (h : s.Keeps t) : s.Keeps t.loseMotion := by
  refine (h.setMotion id ?_ id).post _ _
  exact fun _ => by simp [State.correctionOk, Axis.lost]

theorem returnMotion (h : s.Keeps t) : s.Keeps t.returnMotion := by
  refine State.Keeps.post (State.Keeps.restAxes (h.setMotion id ?_ id)) _ _
  rintro ⟨yaw, pitch, -⟩
  exact ⟨yaw, pitch, nofun⟩

theorem goodSample (h : s.Keeps t) (x : Sample) : s.Keeps (t.goodSample x) := by
  have taken : s.Keeps (t.setMotion (fun m => { m with gapCount := 0, lastGood := x })) := by
    refine h.setMotion ?_ id id
    rintro ⟨-, rest⟩
    exact ⟨Nat.zero_le 8, rest⟩
  simp only [State.goodSample]; split
  · next tracking => exact taken.filter tracking x
  · exact taken.returnMotion

theorem substituteSample (h : s.Keeps t) (x : Sample) : s.Keeps (t.substituteSample x) := by
  unfold State.substituteSample; split
  · next tracking =>
    split
    · exact h.loseMotion
    · exact h.filter tracking x
  · exact h.restAxes

theorem queueSample (h : s.Keeps t) (x : Sample) (b : Bool) : s.Keeps (t.queueSample x b) := by
  unfold State.queueSample; split
  · exact h
  · refine State.Keeps.pump (h.setMotion ?_ id id)
    rintro ⟨gaps, queue, rest⟩
    exact ⟨gaps, length_joinQueue_le _ queue _, rest⟩

theorem goodEvent (h : s.Keeps t) (x : Sample) : s.Keeps (t.goodEvent x) :=
  ((h.goodSample x).queueSample x false).testShock x

theorem substituteEvent (h : s.Keeps t) (x : Sample) : s.Keeps (t.substituteEvent x) :=
  (h.substituteSample x).queueSample x true

theorem takeDataReady (h : s.Keeps t) : s.Keeps t.takeDataReady := by
  unfold State.takeDataReady; split
  · split
    · exact h.count _
    · have burst : s.Keeps (t.setMotion (fun m => { m with
          burst := some ⟨t.me.table.startAddress, t.me.table.byteOrder⟩ })) := h.setMotion id id id
      exact burst.restartGap
  · exact h

theorem takeSample (h : s.Keeps t) (b : Burst) : s.Keeps (t.takeSample b) := by
  have idle : s.Keeps (t.setMotion (fun m => { m with burst := none })) := h.setMotion id id id
  unfold State.takeSample; split
  · exact h
  · exact idle.takeMotionTable.goodEvent _

/-- The gap count stands still at 8 (R6). -/
theorem takeGap (h : s.Keeps t) : s.Keeps t.takeGap := by
  unfold State.takeGap; split
  · exact h
  · next d _ =>
    have counted : s.Keeps (((t.reach d).count .sampleGaps).restartGap) :=
      (h.same (State.reach_observed t d)).count _ |>.restartGap
    refine State.Keeps.substituteEvent (State.Keeps.takeMotionTable (counted.setMotion ?_ id id)) _
    rintro ⟨-, rest⟩
    exact ⟨raise_le _ _ _, rest⟩

theorem loadMotion (h : s.Keeps t) (b : List Byte) : s.Keeps (t.loadMotion b).1 := by
  unfold State.loadMotion; split
  · exact h
  · next m parsed =>
    refine State.Keeps.setMotion (f := fun e => { e with pendingTable := some m }) h id id ?_
    rintro ⟨⟨table, -⟩, rest⟩
    refine ⟨⟨table, fun p e => ?_⟩, rest⟩
    cases e
    exact parseMotion_inRange parsed

/-! ### The Window Unit and the Sensor Port (R27 to R56) -/

theorem writePitchGuard (h : s.Keeps t) (b : Bool) : s.Keeps (t.writePitchGuard b) := h.setMotion id id id

theorem writeYawGuard (h : s.Keeps t) (b : Bool) : s.Keeps (t.writeYawGuard b) := h.setMotion id id id

theorem countClamped (h : s.Keeps t) (b : Bool) : s.Keeps (t.countClamped b) := by
  unfold State.countClamped; split
  · exact h.count _
  · exact h

theorem countShort (h : s.Keeps t) (b : Bool) : s.Keeps (t.countShort b) := by
  unfold State.countShort; split
  · exact h.count _
  · exact h

theorem countAdjusted (h : s.Keeps t) (b : Bool) : s.Keeps (t.countAdjusted b) := by
  unfold State.countAdjusted; split
  · exact h.count _
  · exact h

theorem setFrame (h : s.Keeps t) (f : FrameRecord → FrameRecord) : s.Keeps (t.setFrame f) := h.same

theorem setPort (h : s.Keeps t) (f : SensorPort → SensorPort) : s.Keeps (t.setPort f) := h.same

theorem openRecord (h : s.Keeps t) (w : WindowTable) (l : Lift) : s.Keeps (t.openRecord w l) := h.setWindowUnit id

theorem openFrame (h : s.Keeps t) (w : WindowTable) : s.Keeps (t.openFrame w) := by
  unfold State.openFrame; split
  · exact h.openRecord _ _
  · exact ((h.writePitchGuard _).countClamped _).openRecord _ _

theorem formBand (h : s.Keeps t) (w : WindowTable) (b : Nat) : s.Keeps (t.formBand w b) := by
  unfold State.formBand; split
  · exact h.setFrame _
  · exact ((h.writeYawGuard _).countClamped _).setFrame _

/-- A LINE cell joins with fewer than 8 waiting (R50). -/
theorem placeLine (h : s.Keeps t) (frame line band : Nat) (a : Bool) (p : List Pixel) :
    s.Keeps (t.placeLine (.line frame line band a p)) := by
  unfold State.placeLine; split
  · refine (h.pushCell _ ?_).setFrame _
    rintro ⟨-, ends⟩
    simp only [State.linesOk, State.pushCell, State.setLink_lp, List.countP_append]
    exact ⟨by simpa [PictureCell.isLine] using ‹_›, by simpa [PictureCell.isLine] using ends⟩
  · exact (h.count _).setFrame _

/-- A FRAME END cell joins with fewer than 4 waiting (R50). -/
theorem placeFrameEnd (h : s.Keeps t) (frame sent dropped : Nat) (short : Bool) :
    s.Keeps (t.placeFrameEnd (.frameEnd frame sent dropped short)) := by
  unfold State.placeFrameEnd; split
  · refine h.pushCell _ ?_
    rintro ⟨lines, -⟩
    simp only [State.linesOk, State.pushCell, State.setLink_lp, List.countP_append]
    exact ⟨by simpa [PictureCell.isLine] using lines, by simpa [PictureCell.isLine] using ‹_›⟩
  · exact h

theorem handFrame (h : s.Keeps t) (f : FrameRecord) : s.Keeps (t.handFrame f) := by
  unfold State.handFrame; split
  · exact h
  · exact h.handRecord _ _

theorem closeFrame (h : s.Keeps t) (forced : Bool) : s.Keeps (t.closeFrame forced) := by
  unfold State.closeFrame; split
  · exact h
  · exact (((h.countShort _).placeFrameEnd _ _ _ _).handFrame _).setWindowUnit id

theorem endFrame (h : s.Keeps t) (forced : Bool) : s.Keeps (t.endFrame forced) := (h.setPort _).closeFrame forced

/-- The pending LENS table keeps its ranges when it is taken (R38). -/
theorem takeLens (h : s.Keeps t) : s.Keeps t.takeLens := by
  unfold State.takeLens; split
  · next l pending =>
    refine (h.setWindowUnit ?_).post _ _
    rintro ⟨motion, ⟨-, waiting⟩, rest⟩
    exact ⟨motion, ⟨waiting l pending, nofun⟩, rest⟩
  · exact h

/-- The pending WINDOW table keeps its ranges when it is taken (R38). -/
theorem takeWindow (h : s.Keeps t) : s.Keeps t.takeWindow := by
  unfold State.takeWindow; split
  · next w pending =>
    refine (h.setWindowUnit ?_).post _ _
    rintro ⟨motion, lens, ⟨-, waiting⟩, rest⟩
    refine ⟨motion, lens, ⟨fun v e => ?_, nofun⟩, rest⟩
    cases e
    exact waiting w pending
  · exact h

theorem startRecordFrame (h : s.Keeps t) : s.Keeps t.startRecordFrame := by
  unfold State.startRecordFrame; split
  · exact (h.openFrame _).setPort _
  · exact h.setPort _

theorem takeFrameStart (h : s.Keeps t) : s.Keeps t.takeFrameStart := by
  unfold State.takeFrameStart; split
  · have closed : s.Keeps (if t.sp.frameOpen then t.endFrame true else t) := by
      split
      · exact h.endFrame true
      · exact h
    exact (closed.setPort _).takeLens.takeWindow.startRecordFrame
  · exact h

theorem takeFrameEnd (h : s.Keeps t) : s.Keeps t.takeFrameEnd := by
  unfold State.takeFrameEnd; split
  · exact h.endFrame false
  · exact h

theorem outputLine (h : s.Keeps t) (w : WindowTable) (l b : Nat) (p : List Pixel) (a : Bool) :
    s.Keeps (t.outputLine w l b p a) := by
  unfold State.outputLine; split
  · exact h
  · dsimp only; split
    · exact h.placeLine _ _ _ _ _
    · exact h

theorem startBand (h : s.Keeps t) (w : WindowTable) (b : Nat) : s.Keeps (t.startBand w b) := by
  unfold State.startBand; split
  · split
    · exact h.formBand w b
    · exact h
  · exact h

theorem takenLine (h : s.Keeps t) (w : WindowTable) (l : Nat) (p : List Pixel) : s.Keeps (t.takenLine w l p) :=
  (((h.setFrame _).startBand _ _).countAdjusted _).outputLine _ _ _ _ _

theorem takeLine (h : s.Keeps t) (i : BitVec 12) (p : List Pixel) : s.Keeps (t.takeLine i p) := by
  unfold State.takeLine State.sortLine; split
  · split
    · exact h
    · split
      · exact h.count _
      · split
        · exact h.count _
        · split
          · exact (h.setPort _).takenLine _ _ _
          · exact h.setPort _
  · exact h

theorem loadLens (h : s.Keeps t) (b : List Byte) : s.Keeps (t.loadLens b).1 := by
  unfold State.loadLens; split
  · exact h
  · next l parsed =>
    refine State.Keeps.setWindowUnit (f := fun w => { w with pendingLens := some l }) h ?_
    rintro ⟨motion, ⟨table, -⟩, rest⟩
    refine ⟨motion, ⟨table, fun p e => ?_⟩, rest⟩
    cases e
    exact parseLens_inRange parsed

theorem loadWindow (h : s.Keeps t) (b : List Byte) : s.Keeps (t.loadWindow b).1 := by
  unfold State.loadWindow; split
  · exact h
  · next w parsed =>
    split
    · exact h
    · refine State.Keeps.setWindowUnit (f := fun v => { v with pendingWindow := some w }) h ?_
      rintro ⟨motion, lens, ⟨table, -⟩, rest⟩
      refine ⟨motion, lens, ⟨table, fun p e => ?_⟩, rest⟩
      cases e
      exact parseWindow_inRange parsed

/-! ### The sweep (R141 to R162) -/

theorem moveCharger (h : s.Keeps t) (c : ChargerState) (r : Option ChargeReason) : s.Keeps (t.moveCharger c r) := by
  unfold State.moveCharger; split
  · exact h
  · exact (h.setCharge id id).post _ _

theorem chargeStart (h : s.Keeps t) (r : Readings) : s.Keeps (t.chargeStart r) := h.moveCharger _ _

theorem beginSweep (h : s.Keeps t) (r : Readings) : s.Keeps (t.beginSweep r) := by
  simp only [State.beginSweep]; split <;> exact h.same

/-- The pending PROFILE table keeps its ranges when it is taken (R155). -/
theorem takeProfile (h : s.Keeps t) : s.Keeps t.takeProfile := by
  unfold State.takeProfile; split
  · next p pending =>
    refine (h.setCharge id ?_).post _ _
    rintro ⟨motion, lens, window, recorder, -, waiting⟩
    exact ⟨motion, lens, window, recorder, waiting p pending, nofun⟩
  · exact h

/-- The counts of a charge cycle go to 0 (R143, R147). -/
theorem zeroCounts (h : s.Keeps t) : s.Keeps (t.setCharge ChargeController.zeroCounts) :=
  h.setCharge (by simp +contextual [State.countsOk, ChargeController.zeroCounts]) id

theorem openSwitch (h : s.Keeps t) (r : ChargeReason) : s.Keeps (t.openSwitch r) :=
  (h.setCharge (by simp +contextual [State.countsOk, ChargeController.zeroCounts]) id).moveCharger _ _

theorem admitInput (h : s.Keeps t) (r : Readings) : s.Keeps (t.admitInput r) := by
  have closed : s.Keeps (t.setCharge (fun c => { c.zeroCounts with switchClosed := true })) :=
    h.setCharge (by simp +contextual [State.countsOk, ChargeController.zeroCounts]) id
  exact (closed.chargeStart r).same (State.inputArrives_observed _)

theorem qualifySweep (h : s.Keeps t) (r : Readings) : s.Keeps (t.qualifySweep r) := by
  have counted : s.Keeps (t.setCharge (fun c => { c with qualifyCount := raise 200 c.qualifyCount 1 })) :=
    h.setCharge (by simp +contextual [State.countsOk, raise_le]) id
  simp only [State.qualifySweep]; split
  · exact counted.admitInput r
  · exact counted

theorem testInput (h : s.Keeps t) (r : Readings) : s.Keeps (t.testInput r) := by
  unfold State.testInput State.openInput; split
  · split
    · exact h
    · exact h.openSwitch _
  · split
    · split
      · exact h.openSwitch _
      · exact h
    · split
      · split
        · exact State.Keeps.moveCharger (h.setCharge (by simp +contextual [State.countsOk]) id) _ _
        · exact h
      · split
        · exact State.Keeps.moveCharger (h.setCharge (by simp +contextual [State.countsOk]) id) _ _
        · exact h.qualifySweep r
      · exact h

theorem formAvail (h : s.Keeps t) (r : Readings) : s.Keeps (t.formAvail r) := h.setCharge id id

theorem batteryMoved (h : s.Keeps t) (o : BatteryLevel) (v : Int) : s.Keeps (t.batteryMoved o v) := by
  unfold State.batteryMoved; split
  · exact h.post _ _
  · exact (h.post _ _).closeIfActive _
  · exact (h.post _ _).closeIfActive _
  · exact h

theorem dieMoved (h : s.Keeps t) (o : DieLevel) : s.Keeps (t.dieMoved o) := by
  unfold State.dieMoved; split
  · exact h
  · split
    · exact (h.post _ _).closeIfActive _
    · exact h.post _ _

/-- The critical count stands still at 3 (R159). -/
theorem classifyBattery (h : s.Keeps t) (r : Readings) : s.Keeps (t.classifyBattery r) := by
  simp only [State.classifyBattery]
  refine State.Keeps.batteryMoved (h.setSupply ?_) _ _
  rintro ⟨gaps, queue, run, grade, qualify, termination, precharge, fast, critical⟩
  refine ⟨gaps, queue, run, grade, qualify, termination, precharge, fast, ?_⟩
  have after : criticalCountAfter t.smn t.chg r.vBat ≤ 3 := by
    unfold criticalCountAfter; split
    · exact critical
    · split
      · exact raise_le _ _ _
      · exact Nat.zero_le _
  simp only [State.setSupply_smn]; split
  · exact Nat.zero_le _
  · exact after

theorem classifyDie (h : s.Keeps t) (r : Readings) : s.Keeps (t.classifyDie r) := by
  have die : s.Keeps (t.setSupply (fun m => { m with die := dieAfter m.die r.tDie })) := h.same
  exact die.dieMoved _

theorem sweepHead (h : s.Keeps t) (r : Readings) : s.Keeps (t.sweepHead r) :=
  ((((h.beginSweep r).takeProfile.testInput r).formAvail r).classifyBattery r).classifyDie r

/-- The termination count stands still at 10 (R149). -/
theorem taperSweep (h : s.Keeps t) (r : Readings) : s.Keeps (t.taperSweep r) := by
  have after : t.chg.terminationAfter r.iBat ≤ 10 := by
    unfold ChargeController.terminationAfter; split
    · exact raise_le _ _ _
    · exact Nat.zero_le _
  have counted : s.Keeps (t.setCharge (fun c => { c with terminationCount := t.chg.terminationAfter r.iBat })) :=
    h.setCharge (by simp +contextual [State.countsOk, after]) id
  simp only [State.taperSweep]; split
  · exact counted.moveCharger _ _
  · exact counted

theorem rowStep (h : s.Keeps t) (r : Readings) (w : ProfileRow) : s.Keeps (t.rowStep r w) := by
  unfold State.rowStep; split
  · split
    · exact State.Keeps.moveCharger (h.setCharge (by simp +contextual [State.countsOk]) id) _ _
    · exact h
  · split
    · exact State.Keeps.moveCharger (h.setCharge (by simp +contextual [State.countsOk]) id) _ _
    · exact h
  · split
    · exact h.moveCharger _ _
    · exact h.taperSweep r
  · split
    · exact State.Keeps.moveCharger (h.setCharge (by simp +contextual [State.countsOk]) id) _ _
    · exact h
  · exact h.chargeStart r
  · exact h

theorem pauseStep (h : s.Keeps t) (x : Int) : s.Keeps (t.pauseStep x) := by
  unfold State.pauseStep; split
  · exact h.moveCharger _ _
  · exact h.moveCharger _ _
  · exact h.moveCharger _ _
  · exact h.moveCharger _ _
  · exact h

theorem absentStep (h : s.Keeps t) : s.Keeps t.absentStep := by
  unfold State.absentStep; split
  · exact h
  · exact h
  · exact h
  · exact h.moveCharger _ _

theorem faultStep (h : s.Keeps t) (r : Readings) : s.Keeps (t.faultStep r) := by
  unfold State.faultStep; split
  · exact h.zeroCounts.chargeStart r
  · exact h

theorem chargeStep (h : s.Keeps t) (r : Readings) : s.Keeps (t.chargeStep r) := by
  unfold State.chargeStep; split
  · split
    · exact h.absentStep
    · split
      · exact h.faultStep r
      · split
        · exact h.rowStep _ _
        · exact h.pauseStep _
  · exact h

theorem setTarget (h : s.Keeps t) (r : Readings) : s.Keeps (t.setTarget r) := h.setCharge id id

theorem timerFault (h : s.Keeps t) (r : ChargeReason) : s.Keeps (t.timerFault r) :=
  State.Keeps.moveCharger (h.setCharge id id) _ _

theorem prechargeTick (h : s.Keeps t) : s.Keeps t.prechargeTick := by
  have counted : s.Keeps (t.setCharge (fun c => { c with prechargeCount := raise 720000 t.chg.prechargeCount 1 })) :=
    h.setCharge (by simp +contextual [State.countsOk, raise_le]) id
  simp only [State.prechargeTick]; split
  · exact counted.timerFault _
  · exact counted

theorem fastTick (h : s.Keeps t) : s.Keeps t.fastTick := by
  have counted : s.Keeps (t.setCharge (fun c => { c with fastCount := raise 7200000 t.chg.fastCount 1 })) :=
    h.setCharge (by simp +contextual [State.countsOk, raise_le]) id
  simp only [State.fastTick]; split
  · exact counted.timerFault _
  · exact counted

theorem tickTimers (h : s.Keeps t) : s.Keeps t.tickTimers := by
  unfold State.tickTimers; split
  · exact h
  · split
    · exact h.prechargeTick
    · exact h.fastTick
    · exact h.fastTick
    · exact h

/-- Power-on meets every law of ranges (R167). -/
theorem powerOn (b : Bool) (q : List Instr) : s.Keeps (State.powerOn b q) :=
  ⟨Nat.zero_le _, fun _ => State.powerOn_linesOk b q, fun _ => State.powerOn_countersOk b q,
    fun _ => State.powerOn_countsOk b q, fun _ => State.powerOn_correctionOk b q, fun _ => State.powerOn_tablesOk b q⟩

/-- A dark part is as at power-on, but for its supply (R160). -/
theorem goDark : s.Keeps t.goDark := (powerOn t.cp.rawDetect t.pending).same rfl

theorem takeSweep (h : s.Keeps t) (r : Readings) : s.Keeps (t.takeSweep r) := by
  unfold State.takeSweep State.sweepWith State.endSweep; split
  · exact goDark
  · exact ((((h.sweepHead _).chargeStep _).setTarget _).tickTimers).checkPowerClose _

theorem takeSweepIf (h : s.Keeps t) (b : Bool) (r : Readings) : s.Keeps (t.takeSweepIf b r) := by
  unfold State.takeSweepIf; split
  · exact h.takeSweep r
  · exact h

theorem setInputLimit (h : s.Keeps t) (v : Nat) : s.Keeps (t.setInputLimit v).1 :=
  State.Keeps.setCharge (f := fun c => { c with inputLimit := floor25 (clampNat 100 3000 v) }) h id id

theorem chargeReset (h : s.Keeps t) : s.Keeps t.chargeReset.1 := by
  have zeroed : s.Keeps (t.setCharge (fun c => { c.zeroCounts with target := 0 })) :=
    h.setCharge (by simp +contextual [State.countsOk, ChargeController.zeroCounts]) id
  have restarted : s.Keeps t.restartCharge := by
    simp only [State.restartCharge]; split
    · exact zeroed.chargeStart _
    · exact zeroed
  unfold State.chargeReset; split
  · exact h
  · exact h
  · exact restarted

theorem loadProfile (h : s.Keeps t) (b : List Byte) : s.Keeps (t.loadProfile b).1 := by
  unfold State.loadProfile; split
  · exact h
  · next p parsed =>
    refine State.Keeps.setCharge (f := fun c => { c with pendingTable := some p }) h id ?_
    rintro ⟨motion, lens, window, recorder, table, -⟩
    refine ⟨motion, lens, window, recorder, table, fun q e => ?_⟩
    cases e
    exact parseProfile_inRange parsed

end State.Keeps

/-! ### Commands and steps -/

/-- What a command or a step keeps: the laws of ranges, that of the reply queue among them (R172). -/
structure State.Preserves (s t : State) : Prop where
  replies : s.repliesOk → t.repliesOk
  lines : s.linesOk → t.linesOk
  counters : s.countersOk → t.countersOk
  counts : s.countsOk → t.countsOk
  correction : s.correctionOk → t.correctionOk
  tables : s.tablesOk → t.tablesOk

variable {s t u : State}

theorem State.Keeps.preserves (h : s.Keeps t) : s.Preserves t :=
  ⟨h.replies.trans, h.lines, h.counters, h.counts, h.correction, h.tables⟩

theorem State.Preserves.trans (h : s.Preserves t) (k : t.Preserves u) : s.Preserves u :=
  ⟨k.replies ∘ h.replies, k.lines ∘ h.lines, k.counters ∘ h.counters, k.counts ∘ h.counts,
    k.correction ∘ h.correction, k.tables ∘ h.tables⟩

/-- A reply joins with fewer than 8 waiting (R172). -/
theorem State.Keeps.reply (h : s.Keeps t) (room : s.lp.replies.length < 8) (tag code : Byte) (r : CommandResult) :
    s.Preserves (t.reply tag code r) := by
  refine ⟨fun _ => ?_, h.lines, h.counters, h.counts, h.correction, h.tables⟩
  have := h.replies
  simp only [State.repliesOk, State.reply_replies, List.length_append, List.length_singleton]
  omega

/-- A CONTROL cell preserves what its block keeps (R170, R172). -/
theorem State.control_preserves {tag code : Byte} {ok query : Bool} {body : State → State × CommandResult}
    (h : s.Keeps (body s).1) : s.Preserves (s.control tag code ok query body) := by
  rcases s.control_cases tag code ok query body with ⟨-, e⟩ | ⟨room, -, e⟩ | ⟨room, -, -, -, e⟩ | ⟨room, -, -, e⟩ <;>
    rw [e]
  · exact ((State.Keeps.refl s).count _).preserves
  · exact (State.Keeps.refl s).reply room _ _ _
  · exact (State.Keeps.refl s).reply room _ _ _
  · exact h.reply room _ _ _

theorem State.takeUnknown_preserves (s : State) (tag code : Byte) (p : List Byte) :
    s.Preserves (s.takeUnknown tag code p) := by
  unfold State.takeUnknown; split
  · exact State.control_preserves (State.Keeps.refl s)
  · split
    · exact State.control_preserves (State.Keeps.refl s)
    · split
      · exact State.control_preserves (State.Keeps.refl s)
      · exact (State.Keeps.refl s).preserves

theorem State.takeRestart_preserves (s : State) (tag : Byte) (p : List Byte) : s.Preserves (s.takeRestart tag p) := by
  have taken := State.control_preserves (tag := tag) (code := 0x13) (ok := decide (p.length = 0)) (query := false)
    (State.Keeps.refl s).restart
  simp only [State.takeRestart]; split
  · exact taken.trans (State.Keeps.endPowerClose (State.Keeps.powerCloseTest
      ((State.Keeps.refl _).same (State.postAborted_observed _ _)))).preserves
  · exact taken

/-- A command's effect, and then the arbiter; a dark part takes nothing. -/
theorem State.take_preserves {f : State → State} (e : s.take f = .next t) (h : s.Preserves (f s)) : s.Preserves t := by
  rcases s.take_cases f with ⟨-, d⟩ | ⟨-, d⟩ <;> rw [d] at e <;> cases e
  · exact h.trans ((State.Keeps.refl _).arbitrate).preserves
  · exact (State.Keeps.refl s).preserves

/-- An event preserves what its effect keeps. -/
theorem State.event_preserves {f : State → State} (e : s.take f = .next t) (h : s.Keeps (f s)) : s.Preserves t :=
  State.take_preserves e h.preserves

/-- A command preserves what its block keeps. -/
theorem State.command_preserves {tag code : Byte} {ok query : Bool} {body : State → State × CommandResult}
    (e : s.take (fun u => u.control tag code ok query body) = .next t) (h : s.Keeps (body s).1) : s.Preserves t :=
  State.take_preserves e (State.control_preserves h)

/-- Every command preserves the laws of ranges. -/
theorem exec_preserves (i : Instr) (e : exec i s = .next t) : s.Preserves t := by
  have start := State.Keeps.refl s
  cases i with
  | powerOn b => cases e; exact (State.Keeps.powerOn b s.pending).preserves
  | dataReady => exact State.event_preserves e start.takeDataReady
  | sampleArrival bytes => exact State.event_preserves (f := fun u => u.takeSample bytes) e (start.takeSample bytes)
  | gapExpiry => exact State.event_preserves e start.takeGap
  | frameStart => exact State.event_preserves e start.takeFrameStart
  | line index pixels => exact State.event_preserves e (start.takeLine index pixels)
  | frameEnd => exact State.event_preserves e start.takeFrameEnd
  | cellBadCheck => exact State.event_preserves (f := fun u => u.count .cellsBadCheck) e (start.count _)
  | clipCell flags sequence payload =>
    exact State.event_preserves e ((start.takeClipCell flags sequence payload).checkPowerClose s)
  | drainTimeout => exact State.event_preserves e start.drainExpires
  | cellSent => exact State.event_preserves e (start.same (State.freeLink_observed s))
  | unknownCommand tag code params =>
    exact State.take_preserves (f := fun u => u.takeUnknown tag code params) e (s.takeUnknown_preserves tag code params)
  | loadTableMotion tag fields => exact State.command_preserves e (start.loadMotion fields)
  | loadTableLens tag fields => exact State.command_preserves e (start.loadLens fields)
  | loadTableWindow tag fields => exact State.command_preserves e (start.loadWindow fields)
  | loadTableRecorder tag fields => exact State.command_preserves e (start.loadRecorder fields)
  | loadTableProfile tag fields => exact State.command_preserves e (start.loadProfile fields)
  | appendExtent tag params =>
    exact State.command_preserves e (start.same (State.append_observed ..))
  | clearExtents tag params =>
    exact State.command_preserves e (start.same (State.clearExtents_observed s))
  | addProtect tag params =>
    exact State.command_preserves e (start.same (State.addProtect_observed ..))
  | removeProtect tag params =>
    exact State.command_preserves e (start.same (State.removeProtect_observed ..))
  | arm tag params => exact State.command_preserves e (start.same (State.arm_observed s))
  | disarm tag params => exact State.command_preserves e start.disarm
  | startRecord tag params => exact State.command_preserves e start.startRecord
  | stopRecord tag params => exact State.command_preserves e start.stopRecord
  | abortClip tag params => exact State.command_preserves e (start.abortClip _)
  | setCardGrade tag params => exact State.command_preserves e (start.setCardGrade _)
  | setInputLimit tag params => exact State.command_preserves e (start.setInputLimit _)
  | chargeReset tag params => exact State.command_preserves e start.chargeReset
  | setTime tag params => exact State.command_preserves e (start.setTime _)
  | standby tag params => exact State.command_preserves e start.standbyCommand
  | wake tag params =>
    exact State.command_preserves e (start.same (State.wakeCommand_observed s))
  | queryStatus tag argument => exact State.command_preserves e start
  | queryClip tag argument => exact State.command_preserves e start
  | queryExtents tag argument => exact State.command_preserves e start
  | queryProtect tag argument => exact State.command_preserves e start
  | queryCounters tag argument => exact State.command_preserves e start
  | queryTable tag argument => exact State.command_preserves e start
  | clearCounters tag params => exact State.command_preserves e start.clearCounters
  | restart tag params =>
    exact State.take_preserves (f := fun u => u.takeRestart tag params) e (s.takeRestart_preserves tag params)
  | detectLineChange => exact State.event_preserves e (start.same (State.lineChange_observed s))
  | detectAsserted => exact State.event_preserves e (start.same (State.detectAsserts_observed s))
  | detectReleased => exact State.event_preserves e (start.same (State.detectReleases_observed s))
  | resetWaitExpiry => exact State.event_preserves e (start.same (State.resetWaitEnds_observed s))
  | identifyAnswer answer => exact State.event_preserves e (start.same (State.takeIdentify_observed s answer))
  | identifyTimeout => exact State.event_preserves e (start.same (State.identifyExpires_observed s))
  | setGradeAnswer ecc => exact State.event_preserves (f := fun u => u.takeGradeAnswer ecc) e (start.takeGradeAnswer ecc)
  | setGradeTimeout => exact State.event_preserves e (start.same (State.gradeExpires_observed s))
  | slotWriteStart ecc => exact State.event_preserves e (start.writeStarts ecc)
  | blockAnswer result ecc =>
    exact State.event_preserves (f := fun u => u.takeBlockAnswer result ecc) e (start.takeBlockAnswer result ecc)
  | blockAnswerTimeout => exact State.event_preserves e start.blockExpires
  | busyTimerExpiry => exact State.event_preserves e start.busyExpires
  | readyReport report =>
    exact State.event_preserves (f := fun u => u.takeReady report.moment report.ecc) e (start.takeReady _ _)
  | stopTimeout => exact State.event_preserves e (start.same (State.stopExpires_observed s))
  | sweep readings => exact State.event_preserves (f := fun u => u.takeSweep readings) e (start.takeSweep readings)
  | qualifyEnd readings => exact State.event_preserves e (start.takeSweepIf _ readings)
  | terminationCountReached readings => exact State.event_preserves e (start.takeSweepIf _ readings)
  | safetyTimerExpiry readings => exact State.event_preserves e (start.takeSweepIf _ readings)
  | criticalCountReached readings => exact State.event_preserves e (start.takeSweepIf _ readings)
  | wakeTimerExpiry => exact State.event_preserves e start.wakeExpires

/-- Every step preserves the laws of ranges: a command, or the passing of time. -/
theorem step_preserves (e : step s = .next t) : s.Preserves t := by
  unfold step at e; split at e
  · next c rest _ =>
    have popped : s.Keeps { s with pending := rest } := (State.Keeps.refl s).same rfl
    exact popped.preserves.trans (exec_preserves c e)
  · cases e
    unfold State.idle; split
    · exact ((State.Keeps.refl s).same (State.advance_observed s 1)).preserves
    · exact (State.Keeps.refl s).preserves

end Sys2Proof.Machine

open Sys2Proof.Machine

/-- Settles O7: every command keeps the ranges of queues, counters and counts (`exec_preserves`). -/
theorem countsAndQueuesStayInRange : Obligations.CountsAndQueuesStayInRange := by
  intro s t replies lines counters counts e
  have kept := step_preserves e
  exact ⟨kept.replies replies, kept.lines lines, kept.counters counters, kept.counts counts⟩

/-- Settles O8: a filter step saturates, and losing motion clears both corrections (`exec_preserves`). -/
theorem correctionStaysBounded : Obligations.CorrectionStaysBounded :=
  fun _ _ correction e => (step_preserves e).correction correction

/-- Settles O17: a load that passed validation is in its ranges, and a pending table is taken whole (`exec_preserves`). -/
theorem tablesStayInRange : Obligations.TablesStayInRange :=
  fun _ _ tables e => (step_preserves e).tables tables
end

section
/-!
The arithmetic of the correction filter: the rounding of the increment (R12) and the leak (R13).
-/
set_option Elab.async false

namespace Sys2Proof.Machine

/-- A signed rounded quotient has the sign of its dividend, and its size is the rounded quotient of the sizes. -/
theorem roundInt_eq_natAbs (n : Int) (d : Nat) :
    (roundInt n d).natAbs = roundNat n.natAbs d ∧ (0 ≤ n → 0 ≤ roundInt n d) ∧ (n ≤ 0 → roundInt n d ≤ 0) := by
  have zero : roundNat 0 d = 0 := by
    unfold roundNat
    rcases Nat.eq_zero_or_pos d with rfl | hd
    · rfl
    · exact Nat.div_eq_of_lt (by omega)
  unfold roundInt; split
  · omega
  · refine ⟨by omega, by omega, fun h => ?_⟩
    have : n = 0 := by omega
    subst this
    simp [zero]

/-- The leak in sizes and signs: the size is the quotient of the sizes (R13). -/
theorem Axis.natAbs_leak (a : Axis) (t : MotionTable) : (a.leak t).natAbs = a.c.natAbs / 2 ^ a.leakShift t := by
  rw [Axis.leak, Int.natAbs_tdiv, Int.natAbs_natCast]
  rfl

/-- The leak does not have the opposite sign of the correction (R13). -/
theorem Axis.leak_sign (a : Axis) (t : MotionTable) : (0 ≤ a.c → 0 ≤ a.leak t) ∧ (a.c ≤ 0 → a.leak t ≤ 0) := by
  unfold Axis.leak
  refine ⟨fun h => Int.tdiv_nonneg h (Int.natCast_nonneg _), fun h => ?_⟩
  have opposite := Int.tdiv_nonneg (show 0 ≤ -a.c by omega) (Int.natCast_nonneg (2 ^ a.leakShift t))
  rw [Int.neg_tdiv] at opposite
  omega

end Sys2Proof.Machine

open Sys2Proof.Machine

/-- Settles O32, from the nearest quotient of the sizes (`roundNat_nearest`). -/
theorem incrementIsTheNearestQuotient : Obligations.IncrementIsTheNearestQuotient := by
  intro t g low high scaleLow scaleHigh
  have product : (g * t.rateScale).natAbs ≤ 2147450880 := by
    rw [Int.natAbs_mul, Int.natAbs_natCast]
    exact (Nat.mul_le_mul (show g.natAbs ≤ 32768 by omega) scaleHigh)
  have pos : 0 ≤ g → 0 ≤ g * t.rateScale := fun h => Int.mul_nonneg h (by omega)
  have neg : g ≤ 0 → g * t.rateScale ≤ 0 := fun h => Int.mul_nonpos_of_nonpos_of_nonneg h (by omega)
  unfold increment
  generalize g * (t.rateScale : Int) = n at product pos neg
  obtain ⟨size, signPos, signNeg⟩ := roundInt_eq_natAbs n 4096
  obtain ⟨below, above⟩ := roundNat_nearest n.natAbs (d := 4096) (by decide)
  simp only [Int.abs_eq_natAbs]
  rw [← size] at below above
  generalize roundInt n 4096 = q at below above signPos signNeg
  refine ⟨by omega, by omega, ?_, fun half => ?_, signPos ∘ pos, signNeg ∘ neg⟩
  · omega
  · omega

/-- Settles O33, from the quotient of the sizes (`Axis.natAbs_leak`). -/
theorem leakRoundsTowardZero : Obligations.LeakRoundsTowardZero := by
  intro a t k _ _ hk
  have shift : a.leakShift t = k := hk.symm
  have size := a.natAbs_leak t
  rw [shift] at size
  have width : 0 < 2 ^ k := Nat.two_pow_pos k
  have two : ((2 : Int) ^ k) = ((2 ^ k : Nat) : Int) := by norm_cast
  simp only [Int.abs_eq_natAbs, size, two]
  refine ⟨⟨?_, ?_⟩, (a.leak_sign t).1, (a.leak_sign t).2, fun h => ?_⟩
  · exact_mod_cast Nat.div_mul_le_self _ _
  · rw [mul_comm]
    exact_mod_cast Nat.lt_mul_div_succ _ width
  · rw [← Int.natAbs_eq_zero, size]
    exact Nat.div_eq_of_lt (by exact_mod_cast h)
end

section
/-!
What the events of the Motion Engine do: a motion record that is formed only shortens the motion queue, and the sample
event changes the engine field by field (R1 to R22, R57, R61, R85).
-/
set_option Elab.async false

namespace Sys2Proof.Machine

/-- A part with supply takes an event's effect. -/
theorem State.take_powered {s : State} (on : s.powered = true) (f : State → State) : s.take f = (f s).settled := by
  simp [State.take, on, State.settled]

/-! ### Operations that only post notices -/

/-- The Link Port beside its notice queue. -/
def LinkPort.sansNotices (l : LinkPort) : LinkPort := { l with notices := [] }

/-- What two Link Ports have in common that differ in notices only. -/
theorem LinkPort.sansNotices_eq {l m : LinkPort} (h : l.sansNotices = m.sansNotices) :
    l.expectedSequence = m.expectedSequence ∧ l.lines = m.lines ∧ l.replies = m.replies ∧ l.sending = m.sending ∧
      l.counters = m.counters := by
  simpa [LinkPort.sansNotices] using h

section
variable (s : State)

@[simp] theorem State.post_sansNotices (k : NoticeKind) (v : NoticeValue) :
    (s.post k v).lp.sansNotices = s.lp.sansNotices := rfl

@[simp] theorem State.overrunStart_sansNotices : s.overrunStart.lp.sansNotices = s.lp.sansNotices := by
  unfold State.overrunStart; split <;> rfl

@[simp] theorem State.appendRecord_sansNotices (k : RecordKind) (g : Byte) (y : Bool) (p : List Byte) :
    (s.appendRecord k g y p).1.lp.sansNotices = s.lp.sansNotices := by
  have opening : ∀ t : State, (t.appendOpen k g y p).1.lp.sansNotices = t.lp.sansNotices := by
    intro t
    have opened : (if t.sb.filling.isNone then t.openFilling else t).lp = t.lp := by split <;> simp
    simp only [State.appendOpen]; split <;> simp only [State.overrunStart_sansNotices, State.closeIfFull_frame,
      State.placeRecord_frame, opened]
  simp only [State.appendRecord]; split <;> simp [opening]

@[simp] theorem State.lockPartial_sansNotices (c : Nat) : (s.lockPartial c).lp.sansNotices = s.lp.sansNotices := by
  unfold State.lockPartial; (repeat' split) <;> rfl

@[simp] theorem State.addLock_sansNotices (c f n : Nat) : (s.addLock c f n).lp.sansNotices = s.lp.sansNotices := by
  unfold State.addLock; (repeat' split) <;> simp

@[simp] theorem State.addLocks_sansNotices (c : Nat) (l : List (Nat × Nat)) :
    (s.addLocks c l).lp.sansNotices = s.lp.sansNotices := by
  induction l generalizing s with
  | nil => rfl
  | cons r l ih => simp [State.addLocks, ih]

@[simp] theorem State.lockClip_sansNotices (r : ClipRecord) : (s.lockClip r).lp.sansNotices = s.lp.sansNotices := by
  simp [State.lockClip]

@[simp] theorem State.takeMotionTable_sansNotices : s.takeMotionTable.lp.sansNotices = s.lp.sansNotices := by
  unfold State.takeMotionTable; split <;> rfl

@[simp] theorem State.goodSample_sansNotices (x : Sample) : (s.goodSample x).lp.sansNotices = s.lp.sansNotices := by
  simp only [State.goodSample]; split <;> rfl

@[simp] theorem State.substituteSample_sansNotices (x : Sample) :
    (s.substituteSample x).lp.sansNotices = s.lp.sansNotices := by
  simp only [State.substituteSample]; (repeat' split) <;> rfl

end

/-! ### Operations that form motion records (R19, R85) -/

/-- t is s after some motion records were formed, of 32 entries each: the rest of the Motion Engine is as it was, and of
the Link Port everything but the notices. -/
def State.Trims (s t : State) : Prop :=
  (∃ k, t.me = { s.me with queue := s.me.queue.drop (32 * k) }) ∧ t.lp.sansNotices = s.lp.sansNotices

namespace State.Trims

variable {s t u : State}

/-- No record is formed. -/
theorem of_eq (hm : t.me = s.me) (hl : t.lp.sansNotices = s.lp.sansNotices) : s.Trims t :=
  ⟨⟨0, by simp [hm]⟩, hl⟩

theorem trans (h : s.Trims t) (k : t.Trims u) : s.Trims u := by
  obtain ⟨⟨i, hi⟩, hl⟩ := h
  obtain ⟨⟨j, hj⟩, kl⟩ := k
  exact ⟨⟨i + j, by rw [hj, hi, List.drop_drop, Nat.mul_add]⟩, kl.trans hl⟩

theorem pumpRecords (k : Nat) (s : State) : s.Trims (State.pumpRecords k s) := by
  induction k generalizing s with
  | zero => exact of_eq rfl rfl
  | succ k ih =>
    simp only [State.pumpRecords]
    split
    · exact of_eq rfl rfl
    · split
      · refine State.Trims.trans ⟨⟨1, ?_⟩, ?_⟩ (ih _) <;> simp
      · exact of_eq (by simp) (by simp)

theorem pump (s : State) : s.Trims s.pump := pumpRecords _ s

theorem startClip (s : State) (b : Bool) : s.Trims (s.startClip b) := by
  unfold State.startClip; split
  · exact of_eq rfl rfl
  · next n _ =>
    dsimp only; split
    · unfold State.takePreroll; split
      · exact of_eq (by simp) (by simp)
      · unfold State.retryMotion; split
        · exact of_eq (by simp) (by simp)
        · exact (of_eq (by simp) (by simp)).trans (pump _)
    · exact of_eq (by simp) (by simp)

/-- The action on a SHOCK forms motion records where it starts a recording (R64, R85). -/
theorem shockAction (s : State) : s.Trims s.shockAction.1 := by
  unfold State.shockAction; split
  · exact of_eq rfl rfl
  · split
    · split
      · exact of_eq rfl rfl
      · exact startClip s true
    · exact of_eq rfl rfl
  · split
    · split
      · exact of_eq rfl rfl
      · exact of_eq (by simp) (by simp)
    · exact of_eq rfl rfl

/-- What is left of the engine, one field at a time. -/
theorem me_eq (h : s.Trims t) : t.me = { s.me with queue := t.me.queue } := by
  obtain ⟨⟨k, hk⟩, -⟩ := h
  rw [hk]

end State.Trims

/-! ### The sample event (R6 to R10, R21) -/

/-- The table in force after a pending one is taken (R21). -/
theorem State.takeMotionTable_me (s : State) : s.takeMotionTable.me =
    { s.me with table := s.me.pendingTable.getD s.me.table, pendingTable := none } := by
  unfold State.takeMotionTable; split
  · next h => simp [h]
  · next h => rw [h, Option.getD_none, ← h]

/-- The notice of a pending table that is taken (R21). -/
theorem State.takeMotionTable_notices (s : State) : s.takeMotionTable.lp.notices =
    (if s.me.pendingTable.isSome then postNotice .tableTaken (.table .motion) s.smn.partTime else id) s.lp.notices := by
  unfold State.takeMotionTable; split
  · next h => simp [h]
  · next h => simp [h]

/-- An axis after a good sample: a filter step in TRACKING, a rest at the return from LOST (R8, R12 to R15). -/
def Axis.afterGood (a : Axis) (motion : MotionState) (t : MotionTable) (g : Int) : Axis :=
  match motion with
  | .tracking => a.step t g
  | .lost => a.rest

theorem State.goodSample_me (s : State) (x : Sample) : (s.goodSample x).me = { s.me with
    motion := .tracking, gapCount := 0, lastGood := x
    yaw := s.me.yaw.afterGood s.me.motion s.me.table x.yaw
    pitch := s.me.pitch.afterGood s.me.motion s.me.table x.pitch } := by
  cases h : s.me.motion <;>
    simp [State.goodSample, State.filter, State.returnMotion, State.restAxes, Axis.afterGood, h]

/-- An axis after a substitute sample: at gap count 8 TRACKING is lost, in LOST the axis rests (R7, R9). -/
def Axis.afterGap (a : Axis) (m : MotionEngine) (g : Int) : Axis :=
  match m.motion with
  | .tracking => if m.gapCount = 8 then a.lost else a.step m.table g
  | .lost => a.rest

theorem State.substituteSample_me (s : State) (x : Sample) : (s.substituteSample x).me = { s.me with
    motion := if s.me.gapCount = 8 then .lost else s.me.motion
    yaw := s.me.yaw.afterGap s.me x.yaw, pitch := s.me.pitch.afterGap s.me x.pitch } := by
  cases h : s.me.motion <;> by_cases k : s.me.gapCount = 8 <;>
    simp [State.substituteSample, State.filter, State.loseMotion, State.restAxes, Axis.afterGap, h, k]

/-- The notice of a loss of motion (R7). -/
theorem State.substituteSample_notices (s : State) (x : Sample) : (s.substituteSample x).lp.notices =
    (if s.me.motion = .tracking ∧ s.me.gapCount = 8 then
      postNotice .motionLost (.number s.lp.counters.sampleGaps) s.smn.partTime else id) s.lp.notices := by
  cases h : s.me.motion <;> by_cases k : s.me.gapCount = 8 <;>
    simp [State.substituteSample, State.filter, State.loseMotion, State.restAxes, h, k]

/-- While IDLE no sample is queued (R19). -/
theorem State.queueSample_idle {s : State} (h : s.clc.mode = .idle) (x : Sample) (b : Bool) :
    s.queueSample x b = s := by
  simp [State.queueSample, h]

/-- A queued sample changes the motion queue alone of the engine (R19, R85). -/
theorem State.queueSample_trims (s : State) (x : Sample) (b : Bool) :
    State.Trims (s.setMotion (fun m => { m with
      queue := if s.clc.mode = .idle then m.queue else joinQueue m.queue ⟨x, b⟩ })) (s.queueSample x b) := by
  unfold State.queueSample; split
  · exact State.Trims.of_eq (by simp) rfl
  · next h => simpa [h] using State.Trims.pump (s.setMotion (fun m => { m with queue := joinQueue m.queue ⟨x, b⟩ }))

/-! ### Filter steps (R12 to R16) -/

/-- A filter step: the guard stays, a hold counter falls, a held axis stays, another makes the step (R12 to R15). -/
theorem Axis.step_spec (a : Axis) (t : MotionTable) (g : Int) :
    (a.step t g).guardOn = a.guardOn ∧ (a.step t g).hold = a.hold - 1 ∧
      (0 < a.hold → (a.step t g).c = a.c ∧ (a.step t g).last = 0) ∧
      (a.hold = 0 → (a.step t g).last = increment t g ∧
        (a.step t g).c = max (-16777215) (min 16777215 (a.c + increment t g - a.leak t))) := by
  by_cases h : 0 < a.hold
  · simp [Axis.step, h]
    omega
  · have zero : a.hold = 0 := by omega
    simp [Axis.step, zero, Config.cLim, saturate_eq_max_min]

/-- An axis at a substitute sample (R7, R9, R12 to R15). -/
theorem Axis.afterGap_spec (a : Axis) (m : MotionEngine) (g : Int) :
    (a.afterGap m g).hold = a.hold - 1 ∧
      (m.motion = .lost → (a.afterGap m g).c = a.c ∧ (a.afterGap m g).last = a.last ∧
        (a.afterGap m g).guardOn = a.guardOn) ∧
      (m.motion = .tracking → m.gapCount = 8 → (a.afterGap m g).c = 0 ∧ (a.afterGap m g).last = 0 ∧
        (a.afterGap m g).guardOn = false) ∧
      (m.motion = .tracking → m.gapCount < 8 → (a.afterGap m g).guardOn = a.guardOn ∧
        (0 < a.hold → (a.afterGap m g).c = a.c ∧ (a.afterGap m g).last = 0) ∧
        (a.hold = 0 → (a.afterGap m g).last = increment m.table g ∧
          (a.afterGap m g).c = max (-16777215) (min 16777215 (a.c + increment m.table g - a.leak m.table)))) := by
  obtain ⟨guard, hold, held, free⟩ := a.step_spec m.table g
  cases motion : m.motion
  · by_cases eighth : m.gapCount = 8
    · simp [Axis.afterGap, motion, eighth, Axis.lost]
    · simpa [Axis.afterGap, motion, eighth] using ⟨hold, fun _ => ⟨guard, held, free⟩⟩
  · simp [Axis.afterGap, motion, Axis.rest]

/-- The gap interval of one and a half periods (R5). -/
theorem gapInterval_eq (period : Nat) : gapInterval period = (3 * period + 1) / 2 := by
  unfold gapInterval roundNat
  omega

end Sys2Proof.Machine

open Sys2Proof.Machine

/-- Settles O29, by the three cases of a data-ready pulse. -/
theorem dataReadyStartsOneBurst : Obligations.DataReadyStartsOneBurst := by
  intro s on
  have pulse : exec .dataReady s = s.takeDataReady.settled := State.take_powered on _
  rw [pulse]
  refine ⟨fun reading none => ?_, fun reading busy => ?_, fun stopped => ?_⟩
  · rw [← gapInterval_eq, State.takeDataReady, if_pos reading, none]
    rfl
  · obtain ⟨b, burst⟩ := Option.isSome_iff_exists.mp busy
    simp only [State.takeDataReady, reading, burst, if_true]
    rfl
  · simp [State.takeDataReady, stopped]

/-- Settles O31: the gap timer's effects one after another, `substituteSample_me` for the engine. -/
theorem gapExpiryRunsASubstitute : Obligations.GapExpiryRunsASubstitute := by
  rintro s d T k on deadline rfl rfl
  -- the state in which the substitute is a sample event, and the event's state before the queue
  obtain ⟨v, v_def⟩ : ∃ v, v = ((((s.reach d).count .sampleGaps).restartGap).setMotion (fun m => { m with
      gapCount := raise 8 m.gapCount 1 })).takeMotionTable := ⟨_, rfl⟩
  obtain ⟨w, w_def⟩ : ∃ w, w = v.substituteSample s.me.lastGood := ⟨_, rfl⟩
  have effect : s.takeGap = w.queueSample s.me.lastGood true := by
    simp only [State.takeGap, deadline, w_def, v_def]
    rfl
  have v_me : v.me = { s.me with
      gapDeadline := some ((s.reach d).smn.partTime + BitVec.ofNat 48 ((3 * s.me.table.period + 1) / 2))
      gapCount := min 8 (s.me.gapCount + 1)
      table := s.me.pendingTable.getD s.me.table, pendingTable := none } := by
    rw [v_def, State.takeMotionTable_me, ← gapInterval_eq]
    rfl
  have v_smn : v.smn = (s.reach d).smn := by simp [v_def]
  have v_link : v.lp.sansNotices = ((s.reach d).count .sampleGaps).lp.sansNotices := by simp [v_def]
  have w_me : w.me = { v.me with
      motion := if min 8 (s.me.gapCount + 1) = 8 then .lost else s.me.motion
      yaw := s.me.yaw.afterGap v.me s.me.lastGood.yaw, pitch := s.me.pitch.afterGap v.me s.me.lastGood.pitch } := by
    rw [w_def, State.substituteSample_me, v_me]
  have queued := State.queueSample_trims w s.me.lastGood true
  rw [← effect] at queued
  have me := queued.me_eq
  have w_link : w.lp.sansNotices = ((s.reach d).count .sampleGaps).lp.sansNotices := by
    rw [w_def, State.substituteSample_sansNotices, v_link]
  simp only [State.setMotion_me, w_me, v_me] at me
  obtain ⟨sequence, lines, replies, sending, counters⟩ :=
    LinkPort.sansNotices_eq (queued.2.trans w_link)
  have axes := fun a : Axis => a.afterGap_spec v.me
  rw [v_me] at axes
  obtain ⟨powered, wu, sp, xm, cp, chg, pending⟩ := s.takeGap_frame
  have smn : s.takeGap.smn = (s.reach d).smn := by simp [effect, w_def, v_smn]
  refine ⟨s.takeGap, State.take_powered on _, smn, ?_, congrArg (·.gapCount) me, congrArg (·.table) me,
    congrArg (·.pendingTable) me, congrArg (·.reading) me, congrArg (·.burst) me, congrArg (·.lastGood) me,
    congrArg (·.detector) me, congrArg (·.motion) me, ?_, counters, fun idle => ?_, wu, sp, cp, chg, xm,
    powered.trans on, pending, lines, replies, sending, sequence⟩
  · rw [smn]
    exact congrArg (·.gapDeadline) me
  · rintro old new g (axis | axis) <;> obtain ⟨rfl, rfl, rfl⟩ := axis <;> rw [me] <;> exact axes _ _
  · have unqueued : s.takeGap = w := by
      rw [effect]
      exact State.queueSample_idle (by simpa [w_def, v_def] using idle) _ _
    refine ⟨by rw [unqueued, w_me, v_me], by simp [unqueued, w_def, v_def], by simp [unqueued, w_def, v_def], ?_⟩
    rw [counters, smn, unqueued, w_def, State.substituteSample_notices]
    have gaps : v.lp.counters.sampleGaps = min 65535 (s.lp.counters.sampleGaps + 1) := by
      rw [(LinkPort.sansNotices_eq v_link).2.2.2.2]
      rfl
    have notices : v.lp.notices = (if s.me.pendingTable.isSome then
        postNotice .tableTaken (.table .motion) (s.reach d).smn.partTime else id) s.lp.notices := by
      rw [v_def, State.takeMotionTable_notices]
      rfl
    rw [notices, gaps, v_smn, v_me]
    rfl
end

section
/-!
The good sample (R3 to R19, R57 to R62, R85): the engine after it, the motion record it forms, and the SHOCK it raises.
-/
set_option Elab.async false

namespace Sys2Proof.Machine

/-! ### The statements' records in the words of the model (R180) -/

/-- The bytes of a MOTION record of 32 entries. -/
theorem motionRecord_eq {es : List MotionEntry} (h : es.length = 32) (time : Time) {payload : List Byte}
    (hp : payload = es.flatMap (fun e => beSigned 2 e.sample.yaw ++ beSigned 2 e.sample.pitch ++
      beSigned 2 e.sample.ax ++ beSigned 2 e.sample.ay ++ beSigned 2 e.sample.az ++
      [0, if e.substitute then 1 else 0])) :
    beBytes 1 2 ++ beBytes 1 0 ++ beBytes 2 384 ++ beBytes 4 time.toNat ++ payload =
      recordBytes .motion 0 time (motionPayload es) := by
  have same : payload = motionPayload es := hp
  have length : (motionPayload es).length = 384 := by
    have entry : ∀ e, (motionEntryBytes e).length = 12 := fun e => by simp [motionEntryBytes]
    simp [motionPayload, entry, h]
  rw [same, recordBytes, length]
  simp [beBytes, codeByte, RecordKind.code]

/-- The bytes of a MARK record. -/
theorem markRecord_eq (time : Time) (peak count : Nat) :
    beBytes 1 4 ++ beBytes 1 0 ++ beBytes 2 16 ++ beBytes 4 time.toNat ++
        (beBytes 6 time.toNat ++ beBytes 4 peak ++ beBytes 1 count ++ [0, 0, 0, 0, 0]) =
      recordBytes .mark 0 time (markPayload time peak count) := by
  have length : (markPayload time peak count).length = 16 := by simp [markPayload]
  rw [recordBytes, length]
  simp [beBytes, codeByte, RecordKind.code, markPayload]

/-- A record's place and its append speak of the buffer, the mode and the time alone. -/
theorem State.receives_congr {s t : State} (sb : t.sb = s.sb) (clc : t.clc = s.clc) {length n : Nat} {r : SlotRecord}
    {ring : List Nat} (h : s.receives length n r ring) : t.receives length n r ring := by
  simpa only [State.receives, sb, clc] using h

theorem State.appends_congr {s t u v : State} (sb : t.sb = s.sb) (smn : t.smn = s.smn) (clc : t.clc = s.clc)
    (after : v.sb = u.sb) {n : Nat} {r : SlotRecord} {ring : List Nat} {bytes : List Byte} {sync : Bool}
    (h : t.appends u n r ring bytes sync) : s.appends v n r ring bytes sync := by
  simpa only [State.appends, sb, smn, clc, after] using h

theorem State.noSlot_congr {s t : State} (sb : t.sb = s.sb) (h : s.noSlot) : t.noSlot := by
  simpa only [State.noSlot, sb] using h

/-! ### Forming a motion record (R85) -/

section
variable {s y : State}

/-- With fewer than 32 entries no record is formed. -/
theorem State.pump_short (h : s.me.queue.length < 32) : s.pump = s := by
  rw [State.pump, Nat.div_eq_of_lt h]
  rfl

/-- One record is formed of 32 to 63 entries, where the buffer takes it. -/
theorem State.pump_appended (low : 32 ≤ s.me.queue.length) (high : s.me.queue.length < 64)
    (h : s.appendRecord .motion 0 false (motionPayload (s.me.queue.take 32)) = (y, true)) :
    s.pump = y.setMotion (fun m => { m with queue := m.queue.drop 32 }) := by
  have once : s.me.queue.length / 32 = 1 := by omega
  simp only [State.pump, once, State.pumpRecords, if_neg (Nat.not_lt.mpr low), h, if_true]

/-- The entries wait where a record meets an overrun. -/
theorem State.pump_overrun (low : 32 ≤ s.me.queue.length)
    (h : s.appendRecord .motion 0 false (motionPayload (s.me.queue.take 32)) = (y, false)) : s.pump = y := by
  obtain ⟨k, hk⟩ : ∃ k, s.me.queue.length / 32 = k + 1 := ⟨s.me.queue.length / 32 - 1, by omega⟩
  simp only [State.pump, hk, State.pumpRecords, if_neg (Nat.not_lt.mpr low), h]
  rfl

/-- The buffer after a record met an overrun (R83). -/
theorem State.overrunStart_sb (s : State) : s.overrunStart.sb = { s.sb with overrun := true } := by
  unfold State.overrunStart; split
  · next h => rw [← h]
  · rfl

end

/-! ### A good sample joins the motion queue (R19, R85) -/

section
variable {s : State} {x : Sample} {b : Bool} {q : List MotionEntry} (mode : s.clc.mode ≠ .idle)
  (joined : q = joinQueue s.me.queue ⟨x, b⟩)
include mode joined

/-- With fewer than 32 entries the sample joins the queue, and that is all. -/
theorem State.queueSample_short (short : q.length < 32) :
    s.queueSample x b = s.setMotion (fun m => { m with queue := joinQueue m.queue ⟨x, b⟩ }) := by
  rw [State.queueSample, if_neg mode]
  exact State.pump_short (by simpa [← joined] using short)

/-- The record of the oldest 32 entries where the buffer takes it. -/
theorem State.queueSample_appended (low : 32 ≤ q.length) (high : q.length < 64) {n : Nat} {r : SlotRecord}
    {ring : List Nat}
    (room : s.receives (recordBytes .motion 0 s.smn.partTime (motionPayload (q.take 32))).length n r ring) :
    (s.queueSample x b).me.queue = q.drop 32 ∧
      s.appends (s.queueSample x b) n r ring (recordBytes .motion 0 s.smn.partTime (motionPayload (q.take 32))) false ∧
      (s.queueSample x b).sb.overrun = s.sb.overrun ∧ (s.queueSample x b).clc = s.clc := by
  rw [length_recordBytes] at room
  obtain ⟨t, t_def⟩ : ∃ t, t = s.setMotion (fun m => { m with queue := joinQueue m.queue ⟨x, b⟩ }) := ⟨_, rfl⟩
  have queue : t.me.queue = q := by simp [t_def, joined]
  obtain ⟨y, append, appends, overrun, clc, -, out⟩ := State.appendRecord_receives (s := t) .motion 0 false _
    (State.receives_congr (by rw [t_def]; rfl) (by rw [t_def]; rfl) room)
  have pumped : s.queueSample x b = y.setMotion (fun m => { m with queue := m.queue.drop 32 }) := by
    rw [State.queueSample, if_neg mode, ← t_def]
    exact State.pump_appended (queue ▸ low) (queue ▸ high) (queue ▸ append)
  rw [pumped]
  refine ⟨by simp [out.1, queue], ?_, by simp [overrun, t_def], by simp [clc, t_def]⟩
  have time : t.smn.partTime = s.smn.partTime := by rw [t_def]; rfl
  rw [time] at appends
  exact State.appends_congr (by rw [t_def]; rfl) (by rw [t_def]; rfl) (by rw [t_def]; rfl) rfl appends

/-- The entries wait where their record meets an overrun. -/
theorem State.queueSample_overrun (low : 32 ≤ q.length) (full : s.noSlot) :
    (s.queueSample x b).me.queue = q ∧ (s.queueSample x b).sb = { s.sb with overrun := true } ∧
      (s.queueSample x b).clc = s.clc := by
  obtain ⟨t, t_def⟩ : ∃ t, t = s.setMotion (fun m => { m with queue := joinQueue m.queue ⟨x, b⟩ }) := ⟨_, rfl⟩
  have queue : t.me.queue = q := by simp [t_def, joined]
  have pumped : s.queueSample x b = t.overrunStart := by
    rw [State.queueSample, if_neg mode, ← t_def]
    exact State.pump_overrun (queue ▸ low) (State.appendRecord_noSlot .motion 0 false _
      (State.noSlot_congr (by rw [t_def]; rfl) full))
  rw [pumped, State.overrunStart_sb]
  simp [t_def, joined]

end

/-! ### The test of a sample, and a SHOCK (R57 to R63) -/

section
variable {s : State} {x : Sample} {peak count : Nat}

/-- A sample that raises no SHOCK changes the detector alone. -/
theorem State.testShock_none (h : (s.me.detector.test s.me.table x.magnitude).2 = none) :
    s.testShock x = s.setMotion (fun m => { m with detector := (s.me.detector.test s.me.table x.magnitude).1 }) := by
  simp [State.testShock, h]

/-- The state of a SHOCK at sample x before its MARK record: the detector is RAISED, the SHOCK is counted, and both hold
counters are set (R58, R61). -/
def State.struck (s : State) (x : Sample) : State :=
  ((s.setMotion (fun m => { m with detector := (s.me.detector.test s.me.table x.magnitude).1 })).count .shocks).holdAxes

theorem State.testShock_some (h : (s.me.detector.test s.me.table x.magnitude).2 = some (peak, count)) :
    ∃ v, s.testShock x = ((s.struck x).markShock peak count).shockAction.1.post .shock v := by
  simp only [State.testShock, h, State.handleShock]
  exact ⟨_, rfl⟩

/-- A SHOCK before its MARK record changes the engine and the Link Port alone. -/
@[simp] theorem State.struck_frame (s : State) (x : Sample) : (s.struck x).sb = s.sb ∧ (s.struck x).clc = s.clc ∧
    (s.struck x).xm = s.xm ∧ (s.struck x).smn = s.smn := ⟨rfl, rfl, rfl, rfl⟩

/-- An event that is counted changes the counters alone. -/
theorem State.count_sansNotices (s : State) (k : Counter) : (s.count k).lp.sansNotices =
    { s.lp.sansNotices with counters := s.lp.sansNotices.counters.add 1 k } := rfl

/-- A record that is handed over is appended, or discarded and counted (R83). -/
theorem State.handRecord_sansNotices (s : State) (k : RecordKind) (p : List Byte) :
    (s.handRecord k p).lp.sansNotices = s.lp.sansNotices ∨
      (s.handRecord k p).lp.sansNotices = (s.count .recordsDiscarded).lp.sansNotices := by
  have appended := State.appendRecord_sansNotices s k 0 false p
  simp only [State.handRecord]; split
  · exact .inl appended
  · right
    rw [State.discardRecord, (State.addGap_frame _ 1).2.2.2.2.1, State.count_sansNotices, appended,
      State.count_sansNotices]

/-- A discarded record leaves the mode as it was (R83). -/
theorem State.discardRecord_mode (s : State) : s.discardRecord.clc.mode = s.clc.mode := by
  unfold State.discardRecord State.addGap; split <;> rfl

/-- While IDLE the Clip Controller does not act on a SHOCK (R63). -/
theorem State.shockAction_idle (h : s.clc.mode = .idle) : s.shockAction.1 = s := by
  simp [State.shockAction, h]

/-- A SHOCK that starts no recording leaves the engine and the buffer as they were (R63, R65). -/
theorem State.shockAction_quiet (h : s.clc.mode = .armed → s.me.table.autoTrigger = false) :
    s.shockAction.1.me = s.me ∧ s.shockAction.1.sb = s.sb ∧ s.shockAction.1.lp.sansNotices = s.lp.sansNotices := by
  unfold State.shockAction; split
  · exact ⟨rfl, rfl, rfl⟩
  · next armed => simp [h armed]
  · split
    · split
      · exact ⟨rfl, rfl, rfl⟩
      · simp
    · exact ⟨rfl, rfl, rfl⟩

/-- An axis after the test of a sample: a SHOCK sets its hold counter (R61). -/
def Axis.afterTest (a : Axis) (m : MotionEngine) (x : Sample) : Axis :=
  { a with hold := if (m.detector.test m.table x.magnitude).2.isSome then m.table.hold else a.hold }

/-- The engine at a SHOCK. -/
theorem State.struck_me (s : State) (x : Sample) (h : (s.me.detector.test s.me.table x.magnitude).2.isSome) :
    (s.struck x).me = { s.me with detector := (s.me.detector.test s.me.table x.magnitude).1
                                  yaw := s.me.yaw.afterTest s.me x, pitch := s.me.pitch.afterTest s.me x } := by
  simp [State.struck, State.holdAxes, Axis.afterTest, h]

/-- The engine after the test of a sample (R57, R61, R64). -/
theorem State.testShock_me (s : State) (x : Sample) : ∃ k, (s.testShock x).me = { s.me with
    detector := (s.me.detector.test s.me.table x.magnitude).1
    yaw := s.me.yaw.afterTest s.me x, pitch := s.me.pitch.afterTest s.me x, queue := s.me.queue.drop (32 * k) } := by
  cases h : (s.me.detector.test s.me.table x.magnitude).2 with
  | none => exact ⟨0, by simp [State.testShock_none h, Axis.afterTest, h]⟩
  | some shock =>
    obtain ⟨v, hv⟩ := State.testShock_some h
    obtain ⟨⟨k, hk⟩, -⟩ := State.Trims.shockAction ((s.struck x).markShock shock.1 shock.2)
    refine ⟨k, ?_⟩
    rw [hv, State.post_me, hk, (State.markShock_frame _ _ _).2.1, State.struck_me s x (by simp [h])]

/-- The Link Port at a SHOCK, the notices aside: the SHOCK is counted, and its MARK record may be discarded (R61, R83). -/
theorem State.markShock_sansNotices (s : State) (p c : Nat) :
    (s.markShock p c).lp.sansNotices = s.lp.sansNotices ∨
      (s.markShock p c).lp.sansNotices = (s.count .recordsDiscarded).lp.sansNotices := by
  unfold State.markShock; split
  · exact .inl rfl
  · exact State.handRecord_sansNotices _ _ _

/-- The Link Port after the test of a sample: a SHOCK is counted (R61). -/
theorem State.testShock_link (s : State) (x : Sample) :
    (s.testShock x).lp.lines = s.lp.lines ∧ (s.testShock x).lp.replies = s.lp.replies ∧
      (s.testShock x).lp.sending = s.lp.sending ∧ (s.testShock x).lp.expectedSequence = s.lp.expectedSequence ∧
      ((s.me.detector.test s.me.table x.magnitude).2.isSome →
        (s.testShock x).lp.counters.shocks = min 65535 (s.lp.counters.shocks + 1)) := by
  cases h : (s.me.detector.test s.me.table x.magnitude).2 with
  | none => simp [State.testShock_none h]
  | some shock =>
    obtain ⟨v, hv⟩ := State.testShock_some h
    have action := (State.Trims.shockAction ((s.struck x).markShock shock.1 shock.2)).2
    have link : (s.testShock x).lp.sansNotices = (s.struck x).lp.sansNotices ∨
        (s.testShock x).lp.sansNotices = ((s.struck x).count .recordsDiscarded).lp.sansNotices := by
      rw [hv, State.post_sansNotices, action]
      exact State.markShock_sansNotices _ _ _
    rcases link with link | link <;>
      obtain ⟨sequence, lines, replies, sending, counters⟩ := LinkPort.sansNotices_eq link <;>
      exact ⟨lines, replies, sending, sequence, fun _ => by rw [counters]; rfl⟩

/-- While IDLE a SHOCK makes no record and starts nothing (R62, R63). -/
theorem State.testShock_idle (idle : s.clc.mode = .idle) : (s.testShock x).sb = s.sb ∧ (s.testShock x).clc = s.clc ∧
    (s.testShock x).xm = s.xm ∧ (s.testShock x).me.queue = s.me.queue := by
  cases h : (s.me.detector.test s.me.table x.magnitude).2 with
  | none => simp [State.testShock_none h]
  | some shock =>
    obtain ⟨v, hv⟩ := State.testShock_some h
    have struck_idle : (s.struck x).clc.mode = .idle := idle
    rw [hv, State.markShock, if_pos struck_idle, State.shockAction_idle struck_idle]
    exact ⟨rfl, rfl, rfl, rfl⟩

end

/-! ### A MARK record (R61, R62) -/

section
variable {s : State} {x : Sample} {peak count : Nat}
  (h : (s.me.detector.test s.me.table x.magnitude).2 = some (peak, count))
  (mode : s.clc.mode = .armed ∧ s.me.table.autoTrigger = false ∨ s.clc.mode = .recording)
include h mode

/-- A SHOCK that starts no recording: the Slot Buffer and the Link Port after its MARK record. -/
theorem State.testShock_quiet (after : ((s.struck x).handRecord .mark (markPayload s.smn.partTime peak count)).clc.mode =
      s.clc.mode) :
    (s.testShock x).sb = ((s.struck x).handRecord .mark (markPayload s.smn.partTime peak count)).sb ∧
      (s.testShock x).me.queue = s.me.queue ∧ (s.testShock x).lp.sansNotices =
        ((s.struck x).handRecord .mark (markPayload s.smn.partTime peak count)).lp.sansNotices := by
  obtain ⟨v, hv⟩ := State.testShock_some h
  have marked : (s.struck x).markShock peak count =
      (s.struck x).handRecord .mark (markPayload s.smn.partTime peak count) :=
    if_neg (by rcases mode with ⟨armed, -⟩ | recording <;> simp [*])
  have me : ((s.struck x).handRecord .mark (markPayload s.smn.partTime peak count)).me = (s.struck x).me :=
    (State.handRecord_frame _ _ _).2.1
  obtain ⟨act_me, sb, link⟩ := State.shockAction_quiet
    (s := (s.struck x).handRecord .mark (markPayload s.smn.partTime peak count)) fun armed => by
      rw [after] at armed
      rw [me]
      rcases mode with ⟨-, off⟩ | recording
      · exact off
      · simp [recording] at armed
  rw [hv, marked]
  exact ⟨sb, by rw [State.post_me, act_me, me]; rfl, link⟩

/-- The MARK record of a SHOCK where the buffer takes it. -/
theorem State.testShock_marked {n : Nat} {r : SlotRecord} {ring : List Nat}
    (room : s.receives (recordBytes .mark 0 s.smn.partTime (markPayload s.smn.partTime peak count)).length n r ring) :
    (s.testShock x).me.queue = s.me.queue ∧
      s.appends (s.testShock x) n r ring
        (recordBytes .mark 0 s.smn.partTime (markPayload s.smn.partTime peak count)) false ∧
      (s.testShock x).sb.overrun = s.sb.overrun ∧
      (s.testShock x).lp.counters.recordsDiscarded = s.lp.counters.recordsDiscarded := by
  rw [length_recordBytes] at room
  obtain ⟨u, append, appends, overrun, clc, lp, -⟩ := State.appendRecord_receives (s := s.struck x) .mark 0 false _
    (State.receives_congr rfl rfl room)
  have hand : (s.struck x).handRecord .mark (markPayload s.smn.partTime peak count) = u := by
    simp only [State.handRecord, append, if_true]
  obtain ⟨sb, queue, link⟩ := State.testShock_quiet h mode (by rw [hand, clc]; rfl)
  rw [hand] at sb link
  refine ⟨queue, State.appends_congr rfl rfl rfl sb appends, by rw [sb, overrun]; rfl, ?_⟩
  rw [(LinkPort.sansNotices_eq link).2.2.2.2, lp]
  rfl

/-- The MARK record of a SHOCK where it meets an overrun. -/
theorem State.testShock_discarded (full : s.noSlot) : (s.testShock x).me.queue = s.me.queue ∧
    (s.testShock x).sb = { s.sb with overrun := true } ∧
    (s.testShock x).lp.counters.recordsDiscarded = min 65535 (s.lp.counters.recordsDiscarded + 1) := by
  have hand : (s.struck x).handRecord .mark (markPayload s.smn.partTime peak count) =
      (s.struck x).overrunStart.discardRecord := by
    simp only [State.handRecord, State.appendRecord_noSlot .mark 0 false _ (State.noSlot_congr (t := s.struck x) rfl full),
      Bool.false_eq_true, if_false]
  obtain ⟨sb, queue, link⟩ := State.testShock_quiet h mode (by simp [hand, State.discardRecord_mode])
  rw [hand] at sb link
  refine ⟨queue, ?_, ?_⟩
  · rw [sb, (State.discardRecord_frame _).2.2.2.2.1, State.overrunStart_sb]
    rfl
  · have discard : ((s.struck x).overrunStart.discardRecord).lp.sansNotices =
        ((s.struck x).count .recordsDiscarded).lp.sansNotices := by
      rw [State.discardRecord, (State.addGap_frame _ 1).2.2.2.2.1, State.count_sansNotices,
        State.overrunStart_sansNotices, State.count_sansNotices]
    rw [(LinkPort.sansNotices_eq (link.trans discard)).2.2.2.2]
    rfl

end

/-! ### The axes at a good sample (R8, R12 to R16, R61) -/

/-- An axis at a good sample (R8, R12 to R15). -/
theorem Axis.afterGood_spec (a : Axis) (motion : MotionState) (t : MotionTable) (g : Int) :
    (a.afterGood motion t g).guardOn = a.guardOn ∧ (a.afterGood motion t g).hold = a.hold - 1 ∧
      (motion = .lost → (a.afterGood motion t g).c = a.c ∧ (a.afterGood motion t g).last = a.last) ∧
      (motion = .tracking → 0 < a.hold → (a.afterGood motion t g).c = a.c ∧ (a.afterGood motion t g).last = 0) ∧
      (motion = .tracking → a.hold = 0 → (a.afterGood motion t g).last = increment t g ∧
        (a.afterGood motion t g).c = max (-16777215) (min 16777215 (a.c + increment t g - a.leak t))) := by
  cases motion
  · simpa [Axis.afterGood] using a.step_spec t g
  · simp [Axis.afterGood, Axis.rest]

end Sys2Proof.Machine

open Sys2Proof.Machine

/-- Settles O30: the sample event's parts one after another, the engine by its equations, the records by the cases of the
motion queue and of a SHOCK. -/
theorem goodSampleRunsTheFilter : Obligations.GoodSampleRunsTheFilter := by
  rintro s bytes b T x shock on burst T_def x_def shock_def
  obtain ⟨v, v_def⟩ : ∃ v, v = (s.setMotion (fun m => { m with burst := none })).takeMotionTable := ⟨_, rfl⟩
  obtain ⟨g, g_def⟩ : ∃ g, g = v.goodSample x := ⟨_, rfl⟩
  obtain ⟨w, w_def⟩ : ∃ w, w = g.queueSample x false := ⟨_, rfl⟩
  have v_me : v.me = { s.me with burst := none, table := T, pendingTable := none } := by
    rw [v_def, State.takeMotionTable_me, T_def]
    rfl
  have effect : s.takeSample bytes = w.testShock x := by
    have table : v.me.table = T := by rw [v_me]
    simp only [State.takeSample, burst, ← v_def, table, ← x_def, w_def, g_def]
    rfl
  have g_me : g.me = { v.me with
      motion := .tracking, gapCount := 0, lastGood := x
      yaw := s.me.yaw.afterGood s.me.motion T x.yaw, pitch := s.me.pitch.afterGood s.me.motion T x.pitch } := by
    rw [g_def, State.goodSample_me, v_me]
  obtain ⟨g_sb, g_xm, g_clc, g_smn⟩ : g.sb = s.sb ∧ g.xm = s.xm ∧ g.clc = s.clc ∧ g.smn = s.smn := by
    simp [g_def, v_def]
  have g_queue : g.me.queue = s.me.queue := by rw [g_me, v_me]
  have g_link : g.lp.sansNotices = s.lp.sansNotices := by
    rw [g_def, State.goodSample_sansNotices, v_def, State.takeMotionTable_sansNotices]
    rfl
  obtain ⟨⟨i, w_me⟩, w_link⟩ := w_def ▸ State.queueSample_trims g x false
  simp only [State.setMotion_me, g_me, v_me, g_clc] at w_me
  have shock_eq : (w.me.detector.test w.me.table x.magnitude).2 = shock := by rw [w_me, shock_def]
  obtain ⟨j, u_me⟩ := State.testShock_me w x
  rw [← effect] at u_me
  obtain ⟨lines, replies, sending, sequence, shocks⟩ := State.testShock_link w x
  rw [← effect, shock_eq] at shocks
  rw [← effect] at lines replies sending sequence
  obtain ⟨w_sequence, w_lines, w_replies, w_sending, w_counters⟩ := LinkPort.sansNotices_eq (w_link.trans g_link)
  obtain ⟨powered, wu, sp, cp, chg, smn, pending⟩ := s.takeSample_frame bytes
  simp only [w_me] at u_me
  have w_xm : w.xm = s.xm := by rw [w_def, (g.queueSample_frame x false).2.2.2.1, g_xm]
  have quiet : shock = none → (s.takeSample bytes).me.queue = w.me.queue ∧ (s.takeSample bytes).sb = w.sb ∧
      (s.takeSample bytes).clc = w.clc ∧ (s.takeSample bytes).xm = w.xm ∧ (s.takeSample bytes).lp = w.lp := by
    intro calm
    rw [effect, State.testShock_none (shock_eq.trans calm)]
    exact ⟨rfl, rfl, rfl, rfl, rfl⟩
  refine ⟨s.takeSample bytes, State.take_powered on (fun t => t.takeSample bytes), congrArg (·.motion) u_me,
    congrArg (·.reading) u_me, congrArg (·.burst) u_me, congrArg (·.gapDeadline) u_me, congrArg (·.gapCount) u_me,
    congrArg (·.lastGood) u_me, congrArg (·.table) u_me, congrArg (·.pendingTable) u_me, congrArg (·.detector) u_me, ?_, ?_, ?_, ?_, ?_, ?_, wu, sp,
    cp, chg, smn, powered.trans on, pending, lines.trans w_lines, replies.trans w_replies, sending.trans w_sending,
    sequence.trans w_sequence⟩
  · rintro old new rate (axis | axis) <;> obtain ⟨rfl, rfl, rfl⟩ := axis <;> rw [u_me] <;>
      obtain ⟨guard, hold, rest⟩ := Axis.afterGood_spec _ s.me.motion T _ <;>
      exact ⟨guard, by simp only [Axis.afterTest, ← shock_def, hold], rest⟩
  · intro raised
    rw [shocks raised, w_counters]
  · intro calm
    obtain ⟨-, -, -, xm, lp⟩ := quiet calm
    exact ⟨by rw [lp, w_counters], xm.trans w_xm⟩
  · refine ⟨i + j, ?_⟩
    rw [u_me]
    simp only [List.drop_drop, Nat.mul_add]
  · intro idle
    have unqueued : w = g := by rw [w_def, State.queueSample_idle (g_clc ▸ idle)]
    obtain ⟨sb, clc, xm, queue⟩ := State.testShock_idle (s := w) (x := x) (by rw [unqueued, g_clc, idle])
    rw [effect, sb, clc, xm, queue, unqueued, g_queue, g_sb, g_clc, g_xm]
    exact ⟨rfl, rfl, rfl, rfl⟩
  · intro q mode joined
    have g_mode : g.clc.mode ≠ .idle := by rw [g_clc]; exact mode
    have g_joined : q = joinQueue g.me.queue ⟨x, false⟩ := by rw [g_queue]; exact joined
    have time : g.smn.partTime = s.smn.partTime := by rw [g_smn]
    refine ⟨fun calm short => ?_, fun n r ring payload record calm low high payload_eq record_eq room => ?_,
      fun calm low full => ?_, fun peak count struck short mode => ?_⟩
    · obtain ⟨queue, sb, clc, -, -⟩ := quiet calm
      rw [queue, sb, clc, w_def, State.queueSample_short g_mode g_joined short]
      exact ⟨g_joined.symm, g_sb, g_clc⟩
    · have length : (q.take 32).length = 32 := by simp [low]
      rw [record_eq, motionRecord_eq length _ payload_eq, ← time] at room ⊢
      obtain ⟨queue, appends, overrun, clc⟩ := State.queueSample_appended g_mode g_joined low high
        (State.receives_congr g_sb g_clc room)
      obtain ⟨u_queue, u_sb, u_clc, -, -⟩ := quiet calm
      rw [u_queue, u_sb, u_clc, w_def, queue, overrun, clc, g_sb]
      exact ⟨rfl, State.appends_congr g_sb g_smn g_clc (by rw [u_sb, w_def]) appends, rfl, g_clc⟩
    · obtain ⟨queue, sb, clc⟩ := State.queueSample_overrun g_mode g_joined low (State.noSlot_congr g_sb full)
      obtain ⟨u_queue, u_sb, u_clc, -, -⟩ := quiet calm
      rw [u_queue, u_sb, u_clc, w_def, queue, sb, clc, g_sb]
      exact ⟨rfl, rfl, g_clc⟩
    · have joined_w : w = g.setMotion (fun m => { m with queue := joinQueue m.queue ⟨x, false⟩ }) := by
        rw [w_def, State.queueSample_short g_mode g_joined short]
      obtain ⟨w_sb, w_clc, w_smn, w_queue⟩ : w.sb = s.sb ∧ w.clc = s.clc ∧ w.smn = s.smn ∧ w.me.queue = q := by
        rw [joined_w]
        exact ⟨g_sb, g_clc, g_smn, g_joined.symm⟩
      have table : w.me.table = T := by rw [w_me]
      have quiet_mode : w.clc.mode = .armed ∧ w.me.table.autoTrigger = false ∨ w.clc.mode = .recording := by
        rw [w_clc, table]
        exact mode
      have raised := shock_eq.trans struck
      rw [effect, ← w_counters, ← w_queue]
      refine ⟨fun n r ring record record_eq room => ?_, fun full => ?_⟩
      · rw [record_eq, markRecord_eq, ← w_smn] at room ⊢
        obtain ⟨queue, appends, overrun, discarded⟩ := State.testShock_marked raised quiet_mode
          (State.receives_congr w_sb w_clc room)
        exact ⟨queue, State.appends_congr w_sb w_smn w_clc rfl appends, by rw [overrun, w_sb], discarded⟩
      · rw [← w_sb]
        exact State.testShock_discarded raised quiet_mode (State.noSlot_congr w_sb full)
end

section
/-!
LOAD TABLE of each of the five tables (R20, R34 to R37, R138, R154).
-/
set_option Elab.async false

namespace Sys2Proof.Machine

/-- A command of the right length reaches its block, and the block's result is the reply (R170). -/
theorem State.take_control {s : State} (obeys : s.obeys) {tag code : Byte} {fits query : Bool} (right : fits = true)
    (body : State → State × CommandResult) :
    s.take (fun t => t.control tag code fits query body) = (body s).1.replied tag code (body s).2 := by
  obtain ⟨⟨on, room⟩, awake⟩ := obeys
  rw [State.take_powered on]
  simp [State.control, Nat.not_le.mpr room, right, awake, State.settled, State.replied]

section
variable {s : State} {fields : List Byte} {k : Nat}

/-! ### What each block answers to a load -/

theorem State.loadMotion_error (h : parseMotion fields = .error k) :
    s.loadMotion fields = (s, .refused (.badTable k)) := by
  simp [State.loadMotion, h, State.answered]

theorem State.loadMotion_ok {t : MotionTable} (h : parseMotion fields = .ok t) :
    s.loadMotion fields = (s.setMotion (fun m => { m with pendingTable := some t }), .done .plain) := by
  simp [State.loadMotion, h]

theorem State.loadLens_error (h : parseLens fields = .error k) :
    s.loadLens fields = (s, .refused (.badTable k)) := by
  simp [State.loadLens, h, State.answered]

theorem State.loadLens_ok {t : LensTable} (h : parseLens fields = .ok t) :
    s.loadLens fields = (s.setWindowUnit (fun w => { w with pendingLens := some t }), .done .plain) := by
  simp [State.loadLens, h]

theorem State.loadWindow_error (h : parseWindow fields = .error k) :
    s.loadWindow fields = (s, .refused (.badTable k)) := by
  simp [State.loadWindow, h, State.answered]

/-- The output-size test (R36). -/
theorem State.sizeRefused_iff (s : State) (t : WindowTable) : s.sizeRefused t = true ↔
    s.clc.mode ≠ .idle ∧ ∃ w, s.wu.window = some w ∧ (t.wout ≠ w.wout ∨ t.hout ≠ w.hout) := by
  simp [State.sizeRefused, Option.any_eq_true]

theorem State.loadWindow_ok {t : WindowTable} (h : parseWindow fields = .ok t) : s.loadWindow fields =
    if s.sizeRefused t then (s, .refused .recording)
    else (s.setWindowUnit (fun w => { w with pendingWindow := some t }), .done .plain) := by
  simp [State.loadWindow, h, State.answered]

theorem State.loadProfile_error (h : parseProfile fields = .error k) :
    s.loadProfile fields = (s, .refused (.badTable k)) := by
  simp [State.loadProfile, h, State.answered]

theorem State.loadProfile_ok {t : ProfileTable} (h : parseProfile fields = .ok t) :
    s.loadProfile fields = (s.setCharge (fun c => { c with pendingTable := some t }), .done .plain) := by
  simp [State.loadProfile, h]

theorem State.loadRecorder_error (h : parseRecorder fields = .error k) :
    s.loadRecorder fields = (s, .refused (.badTable k)) := by
  simp [State.loadRecorder, h, State.answered]

theorem State.loadRecorder_busy {t : RecorderTable} (h : parseRecorder fields = .ok t) (mode : s.clc.mode ≠ .idle) :
    s.loadRecorder fields = (s, .busy) := by
  simp [State.loadRecorder, h, mode, State.answered]

/-- A RECORDER table is in force at once, with TABLE TAKEN and then perhaps EXTENT LOW (R96, R138). -/
theorem State.loadRecorder_idle {t : RecorderTable} (h : parseRecorder fields = .ok t) (mode : s.clc.mode = .idle) :
    s.loadRecorder fields = ({ s with
      clc := { s.clc with table := t }
      lp := { s.lp with
        notices := (if s.clc.table.lowMark ≤ remainingOf s.xm.extents ∧ remainingOf s.xm.extents < t.lowMark then
          postNotice .extentLow (.number (remainingOf s.xm.extents)) s.smn.partTime else id)
            (postNotice .tableTaken (.table .recorder) s.smn.partTime s.lp.notices) } }, .done .plain) := by
  by_cases low : s.clc.table.lowMark ≤ remainingOf s.xm.extents ∧ remainingOf s.xm.extents < t.lowMark
  · simp [State.loadRecorder, h, mode, State.newMark, low, State.post, State.setRecorder]
  · simp [State.loadRecorder, h, mode, State.newMark, low, State.post, State.setRecorder]

end

end Sys2Proof.Machine

open Sys2Proof.Machine

/-- Settles O41: the load reaches its block (`State.take_control`), which answers by the result of the validation. -/
theorem loadTableTakesValidLoads : Obligations.LoadTableTakesValidLoads := by
  intro s tag fields obeys
  refine ⟨fun length => ?_, fun length => ?_, fun length => ?_, fun length => ?_, fun length => ?_⟩
  · have load : exec (.loadTableMotion tag fields) s = _ := State.take_control obeys (decide_eq_true length) _
    exact ⟨fun k h => by rw [load, State.loadMotion_error h], fun t h => by rw [load, State.loadMotion_ok h]; rfl⟩
  · have load : exec (.loadTableLens tag fields) s = _ := State.take_control obeys (decide_eq_true length) _
    exact ⟨fun k h => by rw [load, State.loadLens_error h], fun t h => by rw [load, State.loadLens_ok h]; rfl⟩
  · have load : exec (.loadTableWindow tag fields) s = _ := State.take_control obeys (decide_eq_true length) _
    refine ⟨fun k h => by rw [load, State.loadWindow_error h], fun t resized h meaning => ?_⟩
    rw [load, State.loadWindow_ok h, meaning, ← State.sizeRefused_iff]
    exact ⟨fun refused => by rw [if_pos refused], fun fits => by rw [if_neg fits]; rfl⟩
  · have load : exec (.loadTableProfile tag fields) s = _ := State.take_control obeys (decide_eq_true length) _
    exact ⟨fun k h => by rw [load, State.loadProfile_error h], fun t h => by rw [load, State.loadProfile_ok h]; rfl⟩
  · have load : exec (.loadTableRecorder tag fields) s = _ := State.take_control obeys (decide_eq_true length) _
    refine ⟨fun k h => by rw [load, State.loadRecorder_error h], fun t h mode => by
      rw [load, State.loadRecorder_busy h mode], fun t low h mode low_def => ?_⟩
    rw [load, State.loadRecorder_idle h mode, low_def]
end

section
/-!
RESTART (R22, R40, R55, R88, R104, R119, R139, R162, R177): the state its first steps leave, and the power close test
after them.
-/
set_option Elab.async false

namespace Sys2Proof.Machine

/-! ### The blocks at RESTART -/

/-- CLIP ABORTED for each clip of a list, in the list's order (R139). -/
theorem State.postAborted_eq (s : State) (clips : List Nat) : s.postAborted clips = { s with lp := { s.lp with
    notices := clips.foldl (fun q n => postNotice .clipAborted (.number n) s.smn.partTime q) s.lp.notices } } := by
  induction clips generalizing s with
  | nil => rfl
  | cons n rest ih => rw [State.postAborted, ih]; rfl

/-- The Card Port after RESTART at a part time: a present card is attached afresh (R106, R119). -/
def CardPort.restarted (c : CardPort) (now : Time) : CardPort :=
  let stopped := { c with
    write := none, writer := .stopped, capacity := none, maxGrade := none, gradeInUse := none, wait := none
    card := .absent }
  if c.detect then { stopped with
    card := .attaching, gradeInUse := some .g0, sent := some .reset, wait := some ⟨.resetDone, now + 1000⟩ }
  else stopped

theorem State.restartCard_eq (s : State) : s.restartCard = { s with cp := s.cp.restarted s.smn.partTime } := by
  cases h : s.cp.detect
  · simp [State.restartCard, CardPort.restarted, h, State.setCard]
  · simp [State.restartCard, CardPort.restarted, h, State.setCard, State.startAttach, State.sendCard, State.deadlineIn,
      Config.resetWait]

/-- What RESTART keeps of the Card Port, and where it ends the writer and the wait of a part without a card (R119). -/
theorem CardPort.restarted_spec (c : CardPort) (now : Time) :
    (c.restarted now).setGrade = c.setGrade ∧ (c.restarted now).detect = c.detect ∧
      (c.restarted now).rawDetect = c.rawDetect ∧ (c.restarted now).settle = c.settle ∧
      (c.restarted now).writer = .stopped ∧ (c.restarted now).write = none ∧ (c.restarted now).capacity = none ∧
      (c.restarted now).maxGrade = none := by
  cases h : c.detect <;> simp [CardPort.restarted, h]

theorem CardPort.restarted_absent {c : CardPort} (now : Time) (h : c.detect = false) :
    (c.restarted now).card = .absent ∧ (c.restarted now).gradeInUse = none ∧ (c.restarted now).wait = none := by
  simp [CardPort.restarted, h]

theorem CardPort.restarted_present {c : CardPort} (now : Time) (h : c.detect = true) :
    (c.restarted now).card = .attaching ∧ (c.restarted now).gradeInUse = some .g0 ∧
      (c.restarted now).sent = some .reset ∧ (c.restarted now).wait = some ⟨.resetDone, now + 1000⟩ := by
  simp [CardPort.restarted, h]

/-- The part after RESTART up to its notices, before the power close test (R177, steps 1 to 5). -/
def State.restarted (s : State) (tag : Byte) : State := { s with
  me := s.me.cleared true, wu := { s.wu with frame := none }, sp := s.sp.cleared true, sb := SlotBuffer.powerOn
  xm := { s.xm with extents := [] }, cp := s.cp.restarted s.smn.partTime, clc := s.clc.restarted
  lp := { s.lp with
    lines := [], replies := [⟨tag, 0x13, .done .plain⟩], counters := Counters.zero, expectedSequence := none
    notices := s.clc.unfinished.foldl (fun q n => postNotice .clipAborted (.number n) s.smn.partTime q) [] } }

/-- RESTART in ACTIVE: its steps 1 to 5, then the power close test (R177). -/
theorem State.takeRestart_active {s : State} (room : s.lp.replies.length < 8) (active : s.smn.standby = .active)
    (tag : Byte) : s.takeRestart tag [] = (s.restarted tag).powerCloseTest.endPowerClose := by
  have replied : s.control tag 0x13 (decide (([] : List Byte).length = 0)) false State.restart =
      s.restartNow.reply tag 0x13 (.done .plain) := by
    simp [State.control, Nat.not_le.mpr room, active, State.restart, State.inStandby]
  have steps : (s.restartNow.reply tag 0x13 (.done .plain)).postAborted s.clc.unfinished = s.restarted tag := by
    rw [State.postAborted_eq, State.restartNow, State.restartBlocks, State.restartCard_eq]
    rfl
  have accepted : s.restartAccepted [] = true := by simp [State.restartAccepted, room, active, State.inStandby]
  simp only [State.takeRestart, accepted, replied, steps, if_true]

/-! ### The power close test of a part with nothing to close (R136, R137, R162) -/

section
variable {s : State} (fresh : s.clc = s.clc.restarted) (active : s.smn.standby = .active)

include fresh in
/-- Without a CRITICAL level to close for the part stays as it is. -/
theorem State.powerCloseTest_calm (calm : s.smn.battery = .critical → s.chg.switchClosed = true)
    (cool : s.smn.die ≠ .critical) : s.powerCloseTest.endPowerClose = s := by
  have alive : s.batteryDying = false := by
    by_cases h : s.smn.battery = .critical
    · simp [State.batteryDying, calm h]
    · simp [State.batteryDying, h]
  have absent : s.clc.powerClose = none := by rw [fresh]; rfl
  simp [State.powerCloseTest, alive, cool, State.endPowerClose, absent]

include fresh active in
/-- A power close that finds nothing to close ends at once: the part enters standby with its reason. -/
theorem State.powerClose_atOnce (why : PowerReason) : (s.startPowerClose why).endPowerClose =
    (s.setSupply (fun m => { m with standby := .standby, reason := some why.standbyReason })).parkBlocks := by
  have closing : s.startPowerClose why = s.setRecorder (fun c => { c with powerClose := some why }) := by
    rw [State.startPowerClose, State.closeForPower, fresh]
    rfl
  have ended : (s.setRecorder (fun c => { c with powerClose := some why })).clc.allEnded = true := by
    rw [State.setRecorder_clc, fresh]
    rfl
  have back : (s.setRecorder (fun c => { c with powerClose := some why })).setRecorder
      (fun c => { c with powerClose := none }) = s := by
    have same : ({ s.clc with powerClose := none } : ClipController) = s.clc := by rw [fresh]; rfl
    simpa [State.setRecorder] using congrArg (fun c => { s with clc := c }) same
  have drained : s.clc.drain = none := by rw [fresh]; rfl
  simp only [closing, State.endPowerClose, ended, back, if_true]
  simp [active, State.enterStandby, State.endDrain, drained]

include fresh active in
/-- A CRITICAL battery with the input switch open. -/
theorem State.powerCloseTest_power (critical : s.smn.battery = .critical) (opened : s.chg.switchClosed = false) :
    s.powerCloseTest.endPowerClose =
      (s.setSupply (fun m => { m with standby := .standby, reason := some .power })).parkBlocks := by
  rw [State.powerCloseTest, if_pos (by simp [State.batteryDying, critical, opened])]
  exact State.powerClose_atOnce fresh active .power

include fresh active in
/-- A CRITICAL die, the battery not closing. -/
theorem State.powerCloseTest_heat (calm : s.smn.battery = .critical → s.chg.switchClosed = true)
    (hot : s.smn.die = .critical) : s.powerCloseTest.endPowerClose =
      (s.setSupply (fun m => { m with standby := .standby, reason := some .heat })).parkBlocks := by
  have alive : s.batteryDying = false := by
    by_cases h : s.smn.battery = .critical
    · simp [State.batteryDying, calm h]
    · simp [State.batteryDying, h]
  rw [State.powerCloseTest, alive, if_neg (by simp), if_pos hot]
  exact State.powerClose_atOnce fresh active .heat

end

end Sys2Proof.Machine

open Sys2Proof.Machine

/-- Settles O28: the steps of RESTART give `State.restarted`, and the power close test parks it or leaves it. -/
theorem restartKeepsTablesAndEmptiesTheRest : Obligations.RestartKeepsTablesAndEmptiesTheRest := by
  rintro s tag ⟨on, room⟩
  have effect : exec (.restart tag []) s = (s.takeRestart tag []).settled :=
    State.take_powered on (fun t => t.takeRestart tag [])
  refine ⟨fun standby => ?_, fun active => ?_⟩
  · rw [effect]
    simp [State.takeRestart, State.restartAccepted, State.inStandby, standby, State.control, Nat.not_le.mpr room,
      State.restart, State.answered, State.settled, State.replied]
  · rw [effect, State.takeRestart_active room active]
    obtain ⟨grade, detect, raw, settle, writer, write, capacity, maxGrade⟩ := s.cp.restarted_spec s.smn.partTime
    have parked : Writer.stopped.atStandby = .stopped := rfl
    refine ⟨_, rfl, ?_⟩
    by_cases calm : s.smn.battery = .critical → s.chg.switchClosed = true
    · by_cases hot : s.smn.die = .critical
      · rw [State.powerCloseTest_heat (s := s.restarted tag) rfl active calm hot]
        simp [State.restarted, State.parkBlocks, CardPort.standby, SlotBuffer.standby, SlotBuffer.powerOn,
          SensorPort.cleared, MotionEngine.cleared, ClipController.restarted, ClipController.powerOn, State.setSupply,
          on, hot, grade, detect, raw, settle, writer, parked, capacity, maxGrade]
        exact calm
      · rw [State.powerCloseTest_calm (s := s.restarted tag) rfl calm hot]
        simp [State.restarted, SlotBuffer.powerOn, SensorPort.cleared, MotionEngine.cleared, ClipController.restarted,
          ClipController.powerOn, on, hot, grade, detect, raw, settle, writer, write, capacity, maxGrade]
        exact ⟨fun _ => ⟨⟨rfl, rfl, rfl⟩, rfl, CardPort.restarted_absent _, CardPort.restarted_present _⟩,
          fun critical opened => absurd (calm critical) (by simp [opened])⟩
    · obtain ⟨critical, opened⟩ : s.smn.battery = .critical ∧ s.chg.switchClosed = false := by simpa using calm
      rw [State.powerCloseTest_power (s := s.restarted tag) rfl active critical opened]
      simp [State.restarted, State.parkBlocks, CardPort.standby, SlotBuffer.standby, SlotBuffer.powerOn,
        SensorPort.cleared, MotionEngine.cleared, ClipController.restarted, ClipController.powerOn, State.setSupply,
        on, critical, opened, grade, detect, raw, settle, writer, parked, capacity, maxGrade]
end

section
/-!
FRAME START with no frame open (R18, R24 to R33, R38 to R44): the tables it takes, and the frame record it opens.
-/
set_option Elab.async false

namespace Sys2Proof.Machine

/-! ### From angle to pixels (R18, R27, R28) -/

/-- The predicted correction, by its bounds (R18). -/
theorem Axis.predicted_eq (a : Axis) (t : MotionTable) :
    a.predicted t = max (-16777215) (min 16777215 (a.c + t.lead * a.last)) := by
  simp [Axis.predicted, saturate_eq_max_min, Config.cLim]

/-- The clamp, by its bounds (R27). -/
theorem clampOffset_eq (margin : Nat) (p : Int) : clampOffset margin p = max (-(margin : Int)) (min (margin : Int) p) := by
  rw [clampOffset, saturate_eq_max_min (by omega)]

/-- CLAMPED BANDS after a clamp (R27). -/
theorem State.countClamped_eq (s : State) (clamped : Bool) : s.countClamped clamped = { s with
    lp := { s.lp with counters := { s.lp.counters with
      clampedBands := if clamped then min 65535 (s.lp.counters.clampedBands + 1) else s.lp.counters.clampedBands } } } := by
  cases clamped <;> rfl

/-! ### The tables at a frame start (R38) -/

theorem State.takeLens_eq (s : State) : s.takeLens = { s with
    wu := { s.wu with lens := s.wu.pendingLens.getD s.wu.lens, pendingLens := none }
    lp := { s.lp with notices := (if s.wu.pendingLens.isSome then
      postNotice .tableTaken (.table .lens) s.smn.partTime else id) s.lp.notices } } := by
  unfold State.takeLens; split
  · next h => simp only [h]; rfl
  · next h =>
    have none_pending : s.wu = { s.wu with pendingLens := none } := by rw [← h]
    rw [h]
    exact congrArg (fun u => { s with wu := u }) none_pending

theorem State.takeWindow_eq (s : State) : s.takeWindow = { s with
    wu := { s.wu with window := s.wu.pendingWindow.or s.wu.window, pendingWindow := none }
    lp := { s.lp with notices := (if s.wu.pendingWindow.isSome then
      postNotice .tableTaken (.table .window) s.smn.partTime else id) s.lp.notices } } := by
  unfold State.takeWindow; split
  · next h => simp only [h]; rfl
  · next h =>
    have none_pending : s.wu = { s.wu with pendingWindow := none } := by rw [← h]
    rw [h]
    exact congrArg (fun u => { s with wu := u }) none_pending

/-! ### The lift and the frame record (R30, R31, R33) -/

/-- The lift of a TRACKING answer, by its parts (R25, R27, R28, R30). -/
theorem liftOf_eq (m : MotionEngine) (l : LensTable) (w : WindowTable) {py dy : Int} {beyond : Bool}
    (offset : (py, beyond) = lensOffset l.vShift l.vPoints (m.pitch.predicted m.table))
    (clamp : dy = clampOffset w.mv py) :
    liftOf m l w = ⟨dy, py, decide (dy ≠ py), beyond, guardDecision w.mv m.table.guardRatio py, false⟩ := by
  simp only [liftOf, ← offset, ← clamp]

section
variable {s : State} {w : WindowTable}

theorem State.startRecordFrame_none (h : s.wu.window = none) :
    s.startRecordFrame = s.setPort (fun p => { p with lineLimit := none }) := by
  simp only [State.startRecordFrame, h]

theorem State.startRecordFrame_lost (h : s.wu.window = some w) (lost : s.me.motion = .lost) :
    s.startRecordFrame = (s.openRecord w Lift.centred).setPort (fun p => { p with lineLimit := some w.hin }) := by
  simp only [State.startRecordFrame, h, State.openFrame, lost]

theorem State.startRecordFrame_tracking (h : s.wu.window = some w) (tracking : s.me.motion = .tracking) {l : Lift}
    (lift : liftOf s.me s.wu.lens w = l) :
    s.startRecordFrame = (((s.writePitchGuard l.guardOn).countClamped l.clamped).openRecord w l).setPort
      (fun p => { p with lineLimit := some w.hin }) := by
  simp only [State.startRecordFrame, h, State.openFrame, tracking, lift]

end

/-- The part at a frame start before the frame record is opened (R38, R43). -/
def State.frameStarting (s : State) : State := { s with
  sp := { s.sp with frameNumber := (s.sp.frameNumber + 1) % 4294967296, expectedLine := 0, frameOpen := true }
  wu := { s.wu with
    lens := s.wu.pendingLens.getD s.wu.lens, pendingLens := none
    window := s.wu.pendingWindow.or s.wu.window, pendingWindow := none }
  lp := { s.lp with
    notices := (if s.wu.pendingWindow.isSome then postNotice .tableTaken (.table .window) s.smn.partTime else id)
      ((if s.wu.pendingLens.isSome then postNotice .tableTaken (.table .lens) s.smn.partTime else id) s.lp.notices) } }

/-- A frame start with no frame open, while the stream runs (R43). -/
theorem State.takeFrameStart_eq {s : State} (running : s.sp.running = true) (closed : s.sp.frameOpen = false) :
    s.takeFrameStart = s.frameStarting.startRecordFrame := by
  simp only [State.takeFrameStart, running, closed, if_true, Bool.false_eq_true, if_false, State.takeLens_eq,
    State.takeWindow_eq]
  rfl

end Sys2Proof.Machine

open Sys2Proof.Machine

/-- Settles O37, by the three cases of a frame start: no WINDOW table, LOST, and TRACKING. -/
theorem frameStartOpensTheRecord : Obligations.FrameStartOpensTheRecord := by
  rintro s L W on closed rfl W_def
  have effect : exec .frameStart s = s.takeFrameStart.settled := State.take_powered on _
  refine ⟨fun stopped => ?_, fun running => ?_⟩
  · rw [effect, State.takeFrameStart, stopped]
    rfl
  · rw [effect, State.takeFrameStart_eq running closed]
    have window : s.frameStarting.wu.window = W := W_def.symm
    cases W with
    | none =>
      rw [State.startRecordFrame_none window]
      refine ⟨_, rfl, ?_⟩
      simp [State.frameStarting, State.setPort, running, on, ← W_def]
    | some w =>
      cases motion : s.me.motion with
      | lost =>
        rw [State.startRecordFrame_lost window motion]
        refine ⟨_, rfl, ?_⟩
        simp [State.frameStarting, State.setPort, State.openRecord, State.setWindowUnit, FrameRecord.opened, Lift.centred,
          running, on, ← W_def]
      | tracking =>
        obtain ⟨⟨py, beyond⟩, offset⟩ : ∃ o, o = lensOffset s.frameStarting.wu.lens.vShift s.frameStarting.wu.lens.vPoints
          (s.me.pitch.predicted s.me.table) := ⟨_, rfl⟩
        rw [State.startRecordFrame_tracking window motion (liftOf_eq _ _ w offset rfl), State.countClamped_eq]
        have port : s.frameStarting.sp = ⟨(s.sp.frameNumber + 1) % 4294967296, true, 0, s.sp.lineLimit, true⟩ := by
          simp [State.frameStarting, running]
        refine ⟨_, rfl, congrArg (fun p => { p with lineLimit := some w.hin }) port, rfl, rfl, window, rfl, nofun, ?_, ?_,
          rfl, rfl, rfl, rfl, rfl, rfl, rfl, rfl, rfl, rfl, rfl, on, rfl⟩
        · rintro w' - ⟨⟩
        · rintro w' py' dy beyond' same - offset' clamp
          obtain rfl : w = w' := Option.some.inj same
          obtain ⟨rfl, rfl⟩ : py' = py ∧ beyond' = beyond := by
            rw [Axis.predicted_eq] at offset
            exact Prod.mk.inj (offset'.trans offset.symm)
          obtain rfl : dy = clampOffset w.mv py' := by rw [clamp, clampOffset_eq]; rfl
          refine ⟨guardDecision w.mv s.me.table.guardRatio py', decide_eq_true_iff, rfl, rfl, ?_⟩
          by_cases unclamped : clampOffset w.mv py' = py' <;>
            simp [State.openRecord, State.writePitchGuard, State.frameStarting, unclamped]
end

section
/-!
A TAKEN line (R18, R27, R28, R32, R33, R45 to R50): its band's entry, the line fitted to the window, and its cell.
-/
set_option Elab.async false

namespace Sys2Proof.Machine

/-! ### A line fitted to a width (R48) -/

/-- The fitted line, column by column. -/
theorem fitLine_eq {width : Nat} {pixels fit : List Pixel} (length : fit.length = width)
    (columns : ∀ j, j < width → fit.getD j 0 = if pixels = [] then 0 else pixels.getD (min j (pixels.length - 1)) 0) :
    fitLine width pixels = (fit, decide (pixels.length ≠ width)) := by
  have columns : ∀ j (h : j < fit.length), fit[j] =
      if pixels = [] then 0 else pixels.getD (min j (pixels.length - 1)) 0 := by
    intro j h
    rw [← columns j (length ▸ h), List.getD_eq_getElem _ _ h]
  unfold fitLine
  split
  · next equal =>
    refine congrArg₂ Prod.mk (List.ext_getElem (equal.trans length.symm) fun j h h' => ?_) (by simp [equal])
    have column : min j (pixels.length - 1) = j := by omega
    rw [columns j h', if_neg (List.ne_nil_of_length_pos (by omega)), column, List.getD_eq_getElem _ _ h]
  · next misfit =>
    split
    · next short =>
      refine congrArg₂ Prod.mk (List.ext_getElem (by simp; omega) fun j h h' => ?_) (by simp [misfit])
      rw [columns j h', List.getElem_append]
      split
      · next inside =>
        have column : min j (pixels.length - 1) = j := by omega
        rw [if_neg (List.ne_nil_of_length_pos (by omega)), column, List.getD_eq_getElem _ _ inside]
      · next beyond =>
        rw [List.getElem_replicate]
        split
        · next empty => simp [empty]
        · next nonempty =>
          have column : min j (pixels.length - 1) = pixels.length - 1 := by omega
          rw [column, List.getLastD_eq_getLast?, List.getLast?_eq_getElem?, List.getD_eq_getElem?_getD]
    · next long =>
      refine congrArg₂ Prod.mk (List.ext_getElem (by simp; omega) fun j h h' => ?_) (by simp [misfit])
      have column : min j (pixels.length - 1) = j := by omega
      rw [columns j h', if_neg (List.ne_nil_of_length_pos (by omega)), column, List.getElem_take,
        List.getD_eq_getElem _ _ (by omega)]

/-! ### The band's entry (R32, R33, R47) -/

/-- The entry of a TRACKING answer, by its parts (R25, R27, R28, R32). -/
theorem eq_entryOf {m : MotionEngine} {l : LensTable} {w : WindowTable} {e : BandEntry}
    (px : e.px = (lensOffset l.hShift l.hPoints (m.yaw.predicted m.table)).1) (found : e.lost = false)
    (dx : e.dx = clampOffset w.mh e.px) (clamped : e.clamped = decide (e.dx ≠ e.px))
    (guard : e.guardOn = guardDecision w.mh m.table.guardRatio e.px)
    (beyond : e.beyondCurve = (lensOffset l.hShift l.hPoints (m.yaw.predicted m.table)).2) : e = entryOf m l w := by
  obtain ⟨edx, epx, eclamped, ebeyond, eguard, elost⟩ := e
  simp only at px found dx clamped guard beyond
  rw [BandEntry.mk.injEq]
  rw [px] at dx guard clamped
  rw [dx] at clamped
  exact ⟨dx, px, clamped, beyond, guard, found⟩

/-- Entering an entry in a frame record. -/
theorem State.enterBand_eq {s : State} {f : FrameRecord} (frame : s.wu.frame = some f) (b : Nat) (e : BandEntry) :
    s.enterBand b e = { s with wu := { s.wu with frame := some { f with entries := f.entries.set b (some e) } } } := by
  simp [State.enterBand, State.setFrame, State.setWindowUnit, frame]

/-- Setting an entry that is there already changes nothing. -/
theorem List.set_getD_self {α : Type} {l : List (Option α)} {b : Nat} {e : α} (h : l.getD b none = some e) :
    l.set b (some e) = l := by
  refine List.ext_getElem (by simp) fun j hj hj' => ?_
  rw [List.getElem_set]
  split
  · next same => rw [same, List.getD_eq_getElem _ _ hj'] at h; exact h.symm
  · rfl

/-- The part after a TAKEN line's band has its entry: an entry there is used, a new one is formed (R47). -/
theorem State.startBand_eq {s : State} {w : WindowTable} {f : FrameRecord} {b : Nat} {e : BandEntry} {new : Bool}
    (frame : s.wu.frame = some f)
    (present : ∀ g, f.entries.getD b none = some g → e = g)
    (lost : f.entries.getD b none = none → s.me.motion = .lost → e = BandEntry.centred)
    (tracking : f.entries.getD b none = none → s.me.motion = .tracking → e = entryOf s.me s.wu.lens w)
    (fresh : new = true ↔ f.entries.getD b none = none ∧ s.me.motion = .tracking) :
    s.startBand w b = { s with
      wu := { s.wu with frame := some { f with entries := f.entries.set b (some e) } }
      me := { s.me with yaw := { s.me.yaw with guardOn := if new then e.guardOn else s.me.yaw.guardOn } }
      lp := { s.lp with counters := { s.lp.counters with
        clampedBands := if new && e.clamped then min 65535 (s.lp.counters.clampedBands + 1)
          else s.lp.counters.clampedBands } } } := by
  cases entry : f.entries.getD b none with
  | some g =>
    obtain rfl := present g entry
    have old : new = false := Bool.eq_false_iff.mpr fun h => nomatch entry.symm.trans (fresh.mp h).1
    have same : s.wu = { s.wu with frame := some f } := by rw [← frame]
    simp only [State.startBand, frame, entry, Option.isNone_some, Bool.false_eq_true, if_false, old,
      List.set_getD_self entry, Bool.false_and]
    exact congrArg (fun u => { s with wu := u }) same
  | none =>
    obtain motion | motion : s.me.motion = .lost ∨ s.me.motion = .tracking := by cases s.me.motion <;> simp
    · obtain rfl := lost entry motion
      have old : new = false := Bool.eq_false_iff.mpr fun h => nomatch motion.symm.trans (fresh.mp h).2
      simp only [State.startBand, frame, entry, Option.isNone_none, if_true, State.formBand, motion,
        State.enterBand_eq frame, old, Bool.false_and, Bool.false_eq_true, if_false]
      rw [← motion]
    · obtain rfl := tracking entry motion
      obtain rfl : new = true := fresh.mpr ⟨entry, motion⟩
      simp only [State.startBand, frame, entry, Option.isNone_none, if_true, State.formBand, motion]
      rw [State.enterBand_eq (f := f) (by rw [State.countClamped_eq]; exact frame), State.countClamped_eq]
      simp only [← motion, Bool.true_and]
      rfl

/-! ### The line's cell (R48 to R50) -/

/-- LINES MALFORMED after a fit (R48). -/
theorem State.countAdjusted_eq (s : State) (adjusted : Bool) : s.countAdjusted adjusted = { s with
    lp := { s.lp with counters := { s.lp.counters with
      linesMalformed :=
        if adjusted then min 65535 (s.lp.counters.linesMalformed + 1) else s.lp.counters.linesMalformed } } } := by
  cases adjusted <;> rfl

/-- A line inside the window is placed or dropped; another one is left (R49, R50). -/
theorem State.outputLine_eq {s : State} {w : WindowTable} {f : FrameRecord} {l b : Nat} {fitted : List Pixel}
    {adjusted inside room : Bool} (frame : s.wu.frame = some f)
    (within : inside = true ↔ w.topEdge f.lift ≤ l ∧ (l : Int) < w.topEdge f.lift + w.hout)
    (waiting : room = true ↔ s.lp.lines.countP PictureCell.isLine < 8) :
    s.outputLine w l b fitted adjusted = { s with
      wu := { s.wu with frame := some { f with
        linesSent := if inside && room then f.linesSent + 1 else f.linesSent
        linesDropped := if inside && !room then f.linesDropped + 1 else f.linesDropped } }
      lp := { s.lp with
        lines := s.lp.lines ++ (if inside && room then [.line f.number (l - w.topEdge f.lift).toNat b adjusted
          (cutLine (w.leftEdge (f.entries.getD b none)).toNat w.wout fitted)] else [])
        counters := { s.lp.counters with
          linesDropped :=
            if inside && !room then min 65535 (s.lp.counters.linesDropped + 1) else s.lp.counters.linesDropped } } } := by
  cases inside with
  | false =>
    have same : s.wu = { s.wu with frame := some f } := by rw [← frame]
    have outside : ¬(w.topEdge f.lift ≤ l ∧ (l : Int) < w.topEdge f.lift + w.hout) := by rw [← within]; simp
    simp only [State.outputLine, frame, if_neg outside, Bool.false_and, Bool.false_eq_true, if_false, List.append_nil]
    exact congrArg (fun u => { s with wu := u }) same
  | true =>
    cases room with
    | true =>
      simp only [State.outputLine, frame, if_pos (within.mp rfl), State.placeLine, if_pos (waiting.mp rfl)]
      simp [State.setFrame, State.pushCell, State.setWindowUnit, State.setLink, frame]
    | false =>
      have full : ¬s.lp.lines.countP PictureCell.isLine < 8 := by rw [← waiting]; simp
      simp only [State.outputLine, frame, if_pos (within.mp rfl), State.placeLine, if_neg full]
      simp [State.setFrame, State.setWindowUnit, frame]
      rfl

/-- A line that is TAKEN (R45, R46). -/
theorem State.takeLine_taken {s : State} {index : BitVec 12} {limit : Nat} {w : WindowTable} (running : s.sp.running = true)
    (opened : s.sp.frameOpen = true) (below : s.sp.lineLimit = some limit) (low : index.toNat < limit)
    (next : s.sp.expectedLine ≤ index.toNat) (window : s.wu.window = some w) (pixels : List Pixel) :
    s.takeLine index pixels =
      (s.setPort (fun p => { p with expectedLine := index.toNat + 1 })).takenLine w index.toNat pixels := by
  simp [State.takeLine, running, opened, below, Nat.not_le.mpr low, State.sortLine, Nat.not_lt.mpr next, window]

end Sys2Proof.Machine

open Sys2Proof.Machine

/-- Settles O40: the line is TAKEN (`State.takeLine_taken`), its band has its entry (`State.startBand_eq`), and its cell is
placed, dropped or left (`State.outputLine_eq`). -/
theorem takenLineIsCutAndPlaced : Obligations.TakenLineIsCutAndPlaced := by
  rintro s l pixels fit limit b w f e px adj inside on running opened below low next window frame b_def b_lt length columns
    rfl px_def present lost tracking within
  rw [← Axis.predicted_eq] at px_def
  have effect : exec (.line l pixels) s = (s.takeLine l pixels).settled :=
    State.take_powered on (fun t => t.takeLine l pixels)
  -- the part when the WU has counted the line
  obtain ⟨t, t_def⟩ : ∃ t, t = { s with
      sp := { s.sp with expectedLine := l.toNat + 1 }
      wu := { s.wu with frame := some { f with linesSeen := f.linesSeen + 1 } } } := ⟨_, rfl⟩
  have taken : s.takeLine l pixels =
      ((t.startBand w b).countAdjusted (decide (pixels.length ≠ w.win))).outputLine w l.toNat b fit
        (decide (pixels.length ≠ w.win)) := by
    have seen : (s.setPort (fun p => { p with expectedLine := l.toNat + 1 })).setFrame
        (fun f => { f with linesSeen := f.linesSeen + 1 }) = t := by
      simp [State.setPort, State.setFrame, State.setWindowUnit, frame, t_def]
    rw [State.takeLine_taken running opened below low next window, State.takenLine, fitLine_eq length columns, seen, b_def]
    rfl
  obtain ⟨new, fresh⟩ : ∃ new : Bool, new = true ↔ f.entries.getD b none = none ∧ s.me.motion = .tracking :=
    ⟨_, decide_eq_true_iff⟩
  obtain ⟨room, waiting⟩ : ∃ room : Bool, room = true ↔ s.lp.lines.countP PictureCell.isLine < 8 :=
    ⟨_, decide_eq_true_iff⟩
  have entry : t.startBand w b = _ := State.startBand_eq (e := e) (new := new)
    (f := { f with linesSeen := f.linesSeen + 1 }) (by rw [t_def]) present (by rw [t_def]; exact lost)
    (fun absent motion => by
      rw [t_def] at motion
      obtain ⟨px_eq, found, dx, clamped, guard, beyond⟩ := tracking absent motion
      rw [← px_eq] at dx clamped guard
      rw [t_def]
      exact eq_entryOf (px_eq.trans px_def) found (by rw [dx, clampOffset_eq]; rfl) clamped guard
        (by rw [beyond, Axis.predicted_eq]))
    (by rw [t_def]; exact fresh)
  have entered : (f.entries.set b (some e)).getD b none = some e := by simp [b_lt]
  rw [effect, taken, entry, State.countAdjusted_eq,
    State.outputLine_eq (f := { f with entries := f.entries.set b (some e), linesSeen := f.linesSeen + 1 })
      (inside := inside) (room := room) rfl within (by rw [t_def]; exact waiting)]
  simp only [t_def, entered]
  refine ⟨_, rfl, rfl, fun new' room' fresh' waiting' => ?_, rfl, rfl, rfl, rfl, rfl, rfl, on, rfl⟩
  obtain rfl : new' = new := Bool.eq_iff_iff.mpr (fresh'.trans fresh.symm)
  obtain rfl : room' = room := Bool.eq_iff_iff.mpr (waiting'.trans waiting.symm)
  exact ⟨rfl, rfl, rfl⟩
end

section
/-!
The fields that a load's bytes hold, and the first bad one among them, as the statements write them (R171, R178, R179).
-/
set_option Elab.async false

namespace Sys2Proof.Machine

/-! ### Bytes of fields, and fields of bytes (R178, R179) -/

theorem beNat_cons (b : Byte) (bs : List Byte) : beNat (b :: bs) = b.toNat * 256 ^ bs.length + beNat bs := by
  induction bs using List.reverseRecOn with
  | nil => simp [beNat]
  | append_singleton bs c ih =>
    rw [← List.cons_append, beNat_concat, ih, beNat_concat, List.length_append, List.length_singleton, Nat.pow_succ]
    ring

/-- w bytes of a number hold it up to 256^w. -/
theorem beNat_beBytes_mod (w n : Nat) : beNat (beBytes w n) = n % 256 ^ w := by
  induction w with
  | zero => simp [beBytes, beNat, Nat.mod_one]
  | succ w ih =>
    have high : (BitVec.ofNat 8 (n / 256 ^ w)).toNat = n / 256 ^ w % 256 := BitVec.toNat_ofNat _ _
    rw [beBytes, beNat_cons, high, length_beBytes, ih, Nat.pow_succ, Nat.mod_mul, Nat.mul_comm, Nat.add_comm]

theorem beNat_beBytes {w n : Nat} (h : n < 256 ^ w) : beNat (beBytes w n) = n := by
  rw [beNat_beBytes_mod, Nat.mod_eq_of_lt h]

/-- A field's bytes at the head are that field. -/
theorem fieldsOf_append {w n : Nat} (h : n < 256 ^ w) (ws : List Nat) (rest : List Byte) :
    fieldsOf (w :: ws) (beBytes w n ++ rest) = n :: fieldsOf ws rest := by
  simp [fieldsOf, beNat_beBytes h]

/-- The last field's bytes are that field. -/
theorem fieldsOf_last {w n : Nat} (h : n < 256 ^ w) : fieldsOf [w] (beBytes w n) = [n] := by
  have run := fieldsOf_append h [] []
  rwa [List.append_nil] at run

/-- A run of fields of one width. -/
theorem fieldsOf_run {w : Nat} {ns : List Nat} (h : ∀ n ∈ ns, n < 256 ^ w) (ws : List Nat) (rest : List Byte) :
    fieldsOf (List.replicate ns.length w ++ ws) (ns.flatMap (beBytes w) ++ rest) = ns ++ fieldsOf ws rest := by
  induction ns with
  | nil => rfl
  | cons n ns ih =>
    rw [List.forall_mem_cons] at h
    rw [List.length_cons, List.replicate_succ, List.cons_append, List.flatMap_cons, List.append_assoc,
      fieldsOf_append h.1, ih h.2]
    rfl

/-! ### The first bad field (R171) -/

theorem validated_cons {α : Type} (k : Nat) (b : Bool) (cs : List (Nat × Bool)) (t : α) :
    validated ((k, b) :: cs) t = if b = false then .error k else validated cs t := by
  simp only [validated, firstBad_cons]
  cases b <;> rfl

theorem validated_nil {α : Type} (t : α) : validated [] t = .ok t := rfl

/-- A condition that fails is its failing case. -/
theorem decide_fails {p q : Prop} [Decidable p] (h : ¬p ↔ q) : decide p = false ↔ q := by
  rw [decide_eq_false_iff_not, h]

/-- Of conditions in rising order the first bad one is the least. -/
theorem firstBad_least {cs : List (Nat × Bool)} {k : Nat} (rising : (cs.map (·.1)).Pairwise (· < ·))
    (bad : (k, false) ∈ cs) (least : ∀ j, j < k → (j, false) ∉ cs) : firstBad cs = some k := by
  induction cs with
  | nil => cases bad
  | cons c cs ih =>
    obtain ⟨j, good⟩ := c
    rw [List.map_cons, List.pairwise_cons] at rising
    rw [firstBad_cons]
    rcases List.mem_cons.mp bad with head | tail
    · obtain ⟨rfl, rfl⟩ := Prod.mk.inj head
      rfl
    · have below : j < k := rising.1 k (List.mem_map_of_mem (f := (·.1)) tail)
      have passes : good ≠ false := by
        rintro rfl
        exact least j below (List.mem_cons_self ..)
      rw [if_neg passes]
      exact ih rising.2 tail (fun i hi mem => least i hi (List.mem_cons_of_mem _ mem))

/-- A load whose conditions stand in rising order: the least bad field, or the table. -/
theorem validated_least {α : Type} {cs : List (Nat × Bool)} {bad : Nat → Prop}
    (rising : (cs.map (·.1)).Pairwise (· < ·)) (meaning : ∀ k, bad k ↔ (k, false) ∈ cs) (t : α) :
    (∀ k, bad k → (∀ j, j < k → ¬bad j) → validated cs t = .error k) ∧ ((∀ k, ¬bad k) → validated cs t = .ok t) := by
  refine ⟨fun k isBad least => ?_, fun good => ?_⟩
  · rw [validated, firstBad_least rising ((meaning k).mp isBad) (fun j hj mem => least j hj ((meaning j).mpr mem))]
  · refine validated_eq_ok.mpr ⟨fun c mem => ?_, rfl⟩
    by_contra fails
    have mem : (c.1, false) ∈ cs := by
      rw [← Bool.eq_false_iff.mpr fails]
      exact mem
    exact good c.1 ((meaning c.1).mpr mem)

/-! ### RECORDER and WINDOW (R35, R138) -/

theorem parseRecorder_fields {a b c d e : Nat} (ha : a < 65536) (hb : b < 65536) (hc : c < 65536) (hd : d < 65536)
    (he : e < 65536) :
    parseRecorder (beBytes 2 a ++ beBytes 2 b ++ beBytes 2 c ++ beBytes 2 d ++ beBytes 2 e) =
      if 512 < a then .error 1 else if b < 256 then .error 2 else if 2000 < c then .error 3
      else if d < 50 ∨ 1000 < d then .error 4 else if 4096 < e then .error 5 else .ok ⟨a, b, c, d, e⟩ := by
  have fields : fieldsOf recorderWidths (beBytes 2 a ++ beBytes 2 b ++ beBytes 2 c ++ beBytes 2 d ++ beBytes 2 e) =
      [a, b, c, d, e] := by
    simp only [List.append_assoc, recorderWidths]
    rw [fieldsOf_append ha, fieldsOf_append hb, fieldsOf_append hc, fieldsOf_append hd, fieldsOf_last he]
  simp only [parseRecorder, fields, recorderConditions, validated_cons, validated_nil]
  refine if_congr (decide_fails ?_) rfl (if_congr (decide_fails ?_) rfl (if_congr (decide_fails ?_) rfl
    (if_congr (decide_fails ?_) rfl (if_congr (decide_fails ?_) rfl rfl)))) <;>
    simp only [fieldAt_cons_zero, fieldAt_cons_succ] <;> omega

theorem parseWindow_fields {win hin wout hout b : Nat} (hwin : win < 65536) (hhin : hin < 65536) (hwout : wout < 65536)
    (hhout : hout < 65536) (hb : b < 256) :
    parseWindow (beBytes 2 win ++ beBytes 2 hin ++ beBytes 2 wout ++ beBytes 2 hout ++ beBytes 1 b) =
      if win < 64 ∨ 4096 < win ∨ win % 2 = 1 then .error 1
      else if hin < 64 ∨ 3072 < hin then .error 2
      else if wout < 64 ∨ win < wout ∨ (win - wout) % 2 = 1 then .error 3
      else if hout < 64 ∨ hin < hout ∨ (hin - hout) % 2 = 1 then .error 4
      else if (b ≠ 1 ∧ b ≠ 2 ∧ b ≠ 4 ∧ b ≠ 8 ∧ b ≠ 16) ∨ hin % b ≠ 0 then .error 5
      else .ok ⟨win, hin, wout, hout, b⟩ := by
  have fields : fieldsOf windowWidths (beBytes 2 win ++ beBytes 2 hin ++ beBytes 2 wout ++ beBytes 2 hout ++
      beBytes 1 b) = [win, hin, wout, hout, b] := by
    simp only [List.append_assoc, windowWidths]
    rw [fieldsOf_append hwin, fieldsOf_append hhin, fieldsOf_append hwout, fieldsOf_append hhout, fieldsOf_last hb]
  simp only [parseWindow, fields, windowConditions, validated_cons, validated_nil]
  refine if_congr (decide_fails ?_) rfl (if_congr (decide_fails ?_) rfl (if_congr (decide_fails ?_) rfl
    (if_congr (decide_fails ?_) rfl (if_congr (decide_fails ?_) rfl rfl)))) <;>
    simp only [fieldAt_cons_zero, fieldAt_cons_succ] <;> omega

end Sys2Proof.Machine
end

section
/-!
Loads of MOTION, LENS and PROFILE by their fields (R20, R34, R154, R171).
-/
set_option Elab.async false

namespace Sys2Proof.Machine

/-! ### MOTION (R20) -/

section
variable {start order yaw pitch scale leak lead guardRatio period hold thr count auto : Nat}

/-- The first bad field of a MOTION load. -/
theorem firstBad_motion (start_lt : start < 256) (scale_lt : scale < 65536) :
    firstBad (motionConditions [start, order, yaw, pitch, scale, leak, lead, guardRatio, period, hold, thr, count, auto]) =
      if 1 < order then some 2 else if 5 < yaw then some 3
        else if 5 < pitch ∨ pitch / 2 = yaw / 2 then some 4 else if scale < 1 then some 5
        else if leak < 3 ∨ 15 < leak then some 6 else if 15 < lead then some 7
        else if guardRatio < 8 ∨ 16 < guardRatio then some 8 else if period < 250 ∨ 4000 < period then some 9
        else if 4095 < hold then some 10 else if thr < 1 ∨ 32767 < thr then some 11
        else if count < 1 ∨ 15 < count then some 12 else if 1 < auto then some 13 else none := by
  simp only [motionConditions, fieldAt_cons_zero, fieldAt_cons_succ, firstBad_cons]
  refine (if_neg ((decide_fails Nat.not_le).not.mpr (by omega))).trans ?_
  refine if_congr (decide_fails ?_) rfl (if_congr (decide_fails ?_) rfl (if_congr (decide_fails ?_) rfl
    (if_congr (decide_fails ?_) rfl (if_congr (decide_fails ?_) rfl (if_congr (decide_fails ?_) rfl
    (if_congr (decide_fails ?_) rfl (if_congr (decide_fails ?_) rfl (if_congr (decide_fails ?_) rfl
    (if_congr (decide_fails ?_) rfl (if_congr (decide_fails ?_) rfl (if_congr (decide_fails ?_) rfl rfl))))))))))) <;>
    omega

/-- The codes of a MOTION table that good fields give are those fields. -/
theorem motionFields_motionTableOf (horder : order ≤ 1) (hyaw : yaw ≤ 5) (hpitch : pitch ≤ 5) (hauto : auto ≤ 1) :
    motionFields (motionTableOf [start, order, yaw, pitch, scale, leak, lead, guardRatio, period, hold, thr, count, auto]) =
      beBytes 1 start ++ beBytes 1 order ++ beBytes 1 yaw ++ beBytes 1 pitch ++ beBytes 2 scale ++
      beBytes 1 leak ++ beBytes 1 lead ++ beBytes 1 guardRatio ++ beBytes 2 period ++ beBytes 2 hold ++
      beBytes 2 thr ++ beBytes 1 count ++ beBytes 1 auto := by
  obtain ⟨fs, fs_eq⟩ : ∃ fs, fs = [start, order, yaw, pitch, scale, leak, lead, guardRatio, period, hold, thr, count,
    auto] := ⟨_, rfl⟩
  have orders : (motionTableOf fs).byteOrder.code = order := by
    rw [fs_eq]
    interval_cases order <;> rfl
  have yaws : (motionTableOf fs).yawSource.code = yaw := by
    rw [fs_eq]
    exact RateSource.code_ofCode hyaw _
  have pitches : (motionTableOf fs).pitchSource.code = pitch := by
    rw [fs_eq]
    exact RateSource.code_ofCode hpitch _
  have autos : [flagByte (motionTableOf fs).autoTrigger] = beBytes 1 auto := by
    rw [fs_eq]
    interval_cases auto <;> rfl
  rw [← fs_eq, motionFields, orders, yaws, pitches, autos, fs_eq]
  rfl

end

/-! ### LENS (R34) -/

/-- The bad fields of a curve (R34). -/
theorem mem_curveConditions {fs : List Nat} {base k : Nat} : (k, false) ∈ curveConditions fs base ↔
    k = base + 1 ∧ (fieldAt fs base < 8 ∨ 20 < fieldAt fs base) ∨ k = base + 2 ∧ fieldAt fs (base + 1) ≠ 0 ∨
      ∃ i, i < 16 ∧ k = base + 3 + i ∧ fieldAt fs (base + 1 + (i + 1)) < fieldAt fs (base + 1 + i) := by
  simp only [curveConditions, List.mem_cons, List.mem_map, List.mem_range, Prod.mk.injEq]
  refine or_congr (and_congr_right fun _ => ?_) (or_congr (and_congr_right fun _ => ?_) (exists_congr fun i => ?_))
  · rw [eq_comm, decide_fails]; omega
  · rw [eq_comm, decide_fails Iff.rfl]
  · rw [decide_fails Nat.not_le, eq_comm, show base + 2 + i = base + 1 + (i + 1) by omega]

/-- The order numbers of the LENS conditions. -/
theorem lensConditions_rising (fs : List Nat) : ((lensConditions fs).map (·.1)).Pairwise (· < ·) := by
  have orders : (lensConditions fs).map (·.1) = List.range' 1 36 := rfl
  rw [orders]
  exact List.pairwise_lt_range'

/-- Point i of the first curve, and of the second, among the fields. -/
theorem fieldAt_lens {h v : Nat} {hs vs : List Nat} (hlen : hs.length = 17) {i : Nat} (hi : i < 17) :
    fieldAt (h :: (hs ++ v :: vs)) (0 + 1 + i) = hs.getD i 0 ∧
      fieldAt (h :: (hs ++ v :: vs)) (18 + 1 + i) = vs.getD i 0 := by
  have low : 0 + 1 + i = i + 1 := by omega
  have high : 18 + 1 + i = (17 + 1 + i) + 1 := by omega
  rw [low, high]
  simp only [fieldAt_cons_succ]
  constructor
  · rw [fieldAt, List.getD_append _ _ _ _ (by omega)]
  · rw [fieldAt, List.getD_append_right _ _ _ _ (by omega), show 17 + 1 + i - hs.length = i + 1 by omega]
    rfl

theorem parseLens_fields {h v : Nat} {hs vs : List Nat} {bytes : List Byte} (hh : h < 256) (hv : v < 256)
    (hlen : hs.length = 17) (vlen : vs.length = 17) (hsmall : ∀ x ∈ hs, x < 65536) (vsmall : ∀ x ∈ vs, x < 65536)
    (bytes_eq : bytes = beBytes 1 h ++ hs.flatMap (beBytes 2) ++ (beBytes 1 v ++ vs.flatMap (beBytes 2)))
    {bad : Nat → Prop}
    (meaning : ∀ k, bad k ↔ k = 1 ∧ (h < 8 ∨ 20 < h) ∨ k = 2 ∧ hs.getD 0 0 ≠ 0 ∨
        (∃ i, i < 16 ∧ k = 3 + i ∧ hs.getD (i + 1) 0 < hs.getD i 0) ∨
        k = 19 ∧ (v < 8 ∨ 20 < v) ∨ k = 20 ∧ vs.getD 0 0 ≠ 0 ∨
        ∃ i, i < 16 ∧ k = 21 + i ∧ vs.getD (i + 1) 0 < vs.getD i 0) :
    (∀ k, bad k → (∀ j, j < k → ¬bad j) → parseLens bytes = .error k) ∧
      ((∀ k, ¬bad k) → parseLens bytes = .ok ⟨h, hs, v, vs⟩) := by
  have fields : fieldsOf lensWidths bytes = h :: (hs ++ v :: vs) := by
    have first := fieldsOf_run (w := 2) hsmall (1 :: List.replicate 17 2) (beBytes 1 v ++ vs.flatMap (beBytes 2))
    have second := fieldsOf_run (w := 2) vsmall [] []
    rw [List.append_nil, List.append_nil, vlen] at second
    rw [hlen, fieldsOf_append hv, second] at first
    rw [bytes_eq, List.append_assoc, lensWidths, List.cons_append, fieldsOf_append hh, first]
    simp [fieldsOf]
  obtain ⟨fs, fs_eq⟩ : ∃ fs, fs = h :: (hs ++ v :: vs) := ⟨_, rfl⟩
  have points : ∀ i, i < 17 → fieldAt fs (0 + 1 + i) = hs.getD i 0 ∧ fieldAt fs (18 + 1 + i) = vs.getD i 0 :=
    fun i hi => by rw [fs_eq]; exact fieldAt_lens hlen hi
  have hshift : fieldAt fs 0 = h := by rw [fs_eq]; rfl
  have vshift : fieldAt fs 18 = v := by
    rw [fs_eq, fieldAt_cons_succ, fieldAt, List.getD_append_right _ _ _ _ (by omega), hlen]
    rfl
  have table : lensTableOf fs = ⟨h, hs, v, vs⟩ := by
    have first : (List.range 17).map (fun i => fieldAt fs (0 + 1 + i)) = hs :=
      List.ext_getElem (by simp [hlen]) fun i hi hi' => by
        rw [List.getElem_map, List.getElem_range, (points i (by omega)).1, List.getD_eq_getElem _ _ hi']
    have second : (List.range 17).map (fun i => fieldAt fs (18 + 1 + i)) = vs :=
      List.ext_getElem (by simp [vlen]) fun i hi hi' => by
        rw [List.getElem_map, List.getElem_range, (points i (by omega)).2, List.getD_eq_getElem _ _ hi']
    simp only [Nat.zero_add] at first second
    rw [lensTableOf, hshift, vshift, first, second]
  rw [parseLens, fields, ← fs_eq, ← table]
  refine validated_least (lensConditions_rising _) (fun k => ?_) _
  rw [meaning, lensConditions, List.mem_append, mem_curveConditions, mem_curveConditions, hshift, vshift, or_assoc,
    or_assoc]
  refine or_congr Iff.rfl (or_congr (and_congr_right fun _ => ?_) (or_congr (exists_congr fun i => and_congr_right
    fun hi => ?_) (or_congr Iff.rfl (or_congr (and_congr_right fun _ => ?_) (exists_congr fun i => and_congr_right
    fun hi => ?_)))))
  · rw [← (points 0 (by omega)).1]
  · rw [(points i (by omega)).1, (points (i + 1) (by omega)).1]
  · rw [← (points 0 (by omega)).2]
  · rw [(points i (by omega)).2, (points (i + 1) (by omega)).2]

end Sys2Proof.Machine
end

section
/-!
A load of PROFILE by its fields (R154, R171), and the first bad field of a load of each table.
-/
set_option Elab.async false

namespace Sys2Proof.Machine

/-! ### The rows of a PROFILE load (R154, R179) -/

/-- The fields of a row as numbers of 16 bits. -/
def ProfileRow.numbers (r : ProfileRow) : List Nat :=
  [(r.tLow % 65536).toNat, (r.tHigh % 65536).toNat, r.current, r.voltage]

/-- The fields of a row hold 16 bits each. -/
def ProfileRow.fits (r : ProfileRow) : Prop :=
  (-32768 ≤ r.tLow ∧ r.tLow < 32768) ∧ (-32768 ≤ r.tHigh ∧ r.tHigh < 32768) ∧ r.current < 65536 ∧ r.voltage < 65536

/-- The bytes of a row are those of its numbers. -/
theorem ProfileRow.bytes_eq (r : ProfileRow) : beSigned 2 r.tLow ++ beSigned 2 r.tHigh ++ beBytes 2 r.current ++
    beBytes 2 r.voltage = r.numbers.flatMap (beBytes 2) := by
  simp [ProfileRow.numbers, beSigned]

theorem ProfileRow.numbers_lt {r : ProfileRow} (h : r.fits) : ∀ n ∈ r.numbers, n < 256 ^ 2 := by
  obtain ⟨-, -, current, voltage⟩ := h
  simp only [ProfileRow.numbers, List.forall_mem_cons]
  exact ⟨by omega, by omega, by omega, by omega, by simp⟩

/-- A number in two's complement reads back. -/
theorem signed16_emod {t : Int} (h : -32768 ≤ t ∧ t < 32768) : signed16 (t % 65536).toNat = t := by
  unfold signed16; split <;> omega

/-- Number j of row i among the numbers of all rows. -/
theorem fieldAt_rows {rows : List ProfileRow} {i j : Nat} {r : ProfileRow} (h : rows[i]? = some r) (hj : j < 4)
    (rest : List Nat) : fieldAt (rows.flatMap ProfileRow.numbers ++ rest) (4 * i + j) = fieldAt r.numbers j := by
  have four : ∀ q : ProfileRow, q.numbers.length = 4 := fun _ => rfl
  induction rows generalizing i with
  | nil => cases h
  | cons q rows ih =>
    rw [List.flatMap_cons, List.append_assoc]
    cases i with
    | zero =>
      obtain rfl : q = r := by simpa using h
      rw [Nat.mul_zero, Nat.zero_add, fieldAt, List.getD_append _ _ _ _ (by rw [four]; exact hj)]
      rfl
    | succ i =>
      rw [fieldAt, List.getD_append_right _ _ _ _ (by rw [four]; omega), four,
        show 4 * (i + 1) + j - 4 = 4 * i + j by omega]
      exact ih (by simpa using h)

/-- The numbers of rows, four of each. -/
theorem length_rows (rows : List ProfileRow) : (rows.flatMap ProfileRow.numbers).length = 4 * rows.length := by
  induction rows with
  | nil => rfl
  | cons r rows ih => rw [List.flatMap_cons, List.length_append, ih, List.length_cons, Nat.mul_succ, Nat.add_comm]; rfl

/-- Row i of the fields is row i of the load. -/
theorem profileRowOf_eq {n : Nat} {rows : List ProfileRow} {rest : List Nat} {i : Nat} {r : ProfileRow}
    (h : rows[i]? = some r) (fits : r.fits) :
    profileRowOf (n :: (rows.flatMap ProfileRow.numbers ++ rest)) i = r := by
  have field : ∀ j, j < 4 → fieldAt (n :: (rows.flatMap ProfileRow.numbers ++ rest)) (1 + j + 4 * i) =
      fieldAt r.numbers j := by
    intro j hj
    rw [show 1 + j + 4 * i = (4 * i + j) + 1 by omega, fieldAt_cons_succ, fieldAt_rows h hj]
  obtain ⟨low, high, -⟩ := fits
  rw [profileRowOf, field 0 (by omega), field 1 (by omega), field 2 (by omega), field 3 (by omega)]
  simp only [ProfileRow.numbers, fieldAt_cons_zero, fieldAt_cons_succ, signed16_emod low, signed16_emod high]

/-- The settings behind the six rows. -/
theorem fieldAt_settings {n : Nat} {rows : List ProfileRow} (length : rows.length = 6) (rest : List Nat) (j : Nat) :
    fieldAt (n :: (rows.flatMap ProfileRow.numbers ++ rest)) (25 + j) = fieldAt rest j := by
  rw [show 25 + j = (24 + j) + 1 by omega, fieldAt_cons_succ, fieldAt,
    List.getD_append_right _ _ _ _ (by rw [length_rows]; omega), length_rows, length,
    show 24 + j - 4 * 6 = j by omega]
  rfl

/-! ### The conditions of a PROFILE load (R154) -/

/-- The order numbers of the PROFILE conditions rise. -/
theorem profileConditions_rising (fs : List Nat) : ((profileConditions fs).map (·.1)).Pairwise (· < ·) := by
  have orders : (profileConditions fs).map (·.1) = 1 :: ((List.range (min (fieldAt fs 0) 6)).flatMap (fun i =>
      [2 + 4 * i, 3 + 4 * i, 4 + 4 * i, 5 + 4 * i]) ++ [26, 27, 28, 29, 30, 31, 32]) := by
    simp [profileConditions, profileRowConditions, List.map_flatMap]
  rw [orders]
  have bound : min (fieldAt fs 0) 6 ≤ 6 := Nat.min_le_right _ _
  generalize min (fieldAt fs 0) 6 = m at bound
  interval_cases m <;> decide

/-- Order number k is that of a bad field of row i of some rows (R154): a row that an earlier one meets has a bad T LOW. -/
def ProfileRow.faulty (r : ProfileRow) (rows : List ProfileRow) (i k : Nat) : Prop :=
  k = 2 + 4 * i ∧ (r.tLow < -400 ∨ 1250 < r.tLow ∨ ∃ j q x, j < i ∧ rows[j]? = some q ∧
      q.tLow ≤ x ∧ x ≤ q.tHigh ∧ (x = r.tLow ∨ r.tLow ≤ x ∧ x ≤ r.tHigh)) ∨
    k = 3 + 4 * i ∧ (r.tHigh < r.tLow ∨ 1250 < r.tHigh) ∨
    k = 4 + 4 * i ∧ (3000 < r.current ∨ r.current % 25 ≠ 0) ∨
    k = 5 + 4 * i ∧ (r.voltage < 3600 ∨ 4400 < r.voltage ∨ r.voltage % 10 ≠ 0)

/-- The bad fields of row i, where the fields hold the rows given (R154). -/
theorem mem_profileRowConditions {fs : List Nat} {rows : List ProfileRow} {i k : Nat} {r : ProfileRow}
    (read : ∀ j q, rows[j]? = some q → profileRowOf fs j = q) (h : rows[i]? = some r) :
    (k, false) ∈ profileRowConditions fs i ↔ r.faulty rows i k := by
  have met : (List.range i).all (fun j => !(profileRowOf fs j).meets r.tLow r.tHigh) = false ↔
      ∃ j q x, j < i ∧ rows[j]? = some q ∧ q.tLow ≤ x ∧ x ≤ q.tHigh ∧ (x = r.tLow ∨ r.tLow ≤ x ∧ x ≤ r.tHigh) := by
    simp only [List.all_eq_false, List.mem_range, Bool.not_eq_true, Bool.not_eq_false']
    constructor
    · rintro ⟨j, hj, meets⟩
      have earlier : j < rows.length := hj.trans (List.getElem?_eq_some_iff.mp h).1
      rw [read j _ (List.getElem?_eq_getElem earlier), ProfileRow.meets_iff] at meets
      obtain ⟨x, common⟩ := meets
      exact ⟨j, _, x, hj, List.getElem?_eq_getElem earlier, common⟩
    · rintro ⟨j, q, x, hj, hq, common⟩
      exact ⟨j, hj, by rw [read j q hq, ProfileRow.meets_iff]; exact ⟨x, common⟩⟩
  simp only [profileRowConditions, read i r h, List.mem_cons, List.not_mem_nil, or_false, Prod.mk.injEq]
  refine or_congr (and_congr_right fun _ => ?_) (or_congr (and_congr_right fun _ => ?_)
    (or_congr (and_congr_right fun _ => ?_) (and_congr_right fun _ => ?_)))
  · rw [eq_comm, Bool.and_eq_false_iff, met, decide_fails (q := r.tLow < -400 ∨ 1250 < r.tLow) (by omega), or_assoc]
  · rw [eq_comm, decide_fails]; omega
  · rw [eq_comm, decide_fails]; omega
  · rw [eq_comm, decide_fails]; omega

/-- The bad fields of a PROFILE load whose fields hold six rows and the settings (R154). -/
theorem mem_profileConditions {n pre term slow fast low crit cut k : Nat} {rows : List ProfileRow}
    (length : rows.length = 6)
    (fits : ∀ r ∈ rows, r.fits) :
    (k, false) ∈ profileConditions (n :: (rows.flatMap ProfileRow.numbers ++ [pre, term, slow, fast, low, crit, cut])) ↔
      k = 1 ∧ (n < 1 ∨ 6 < n) ∨
        (∃ i r, i < n ∧ rows[i]? = some r ∧ r.faulty rows i k) ∨
        k = 26 ∧ (pre < 25 ∨ 500 < pre ∨ pre % 25 ≠ 0) ∨ k = 27 ∧ (term < 25 ∨ 500 < term) ∨
        k = 28 ∧ (slow < 1 ∨ 120 < slow) ∨ k = 29 ∧ (fast < 30 ∨ 1200 < fast) ∨
        k = 30 ∧ (low < 3000 ∨ 3900 < low ∨ low ≤ crit) ∨ k = 31 ∧ (crit < 2900 ∨ 3800 < crit ∨ crit ≤ cut) ∨
        k = 32 ∧ (cut < 2800 ∨ 3600 < cut) := by
  obtain ⟨fs, fs_eq⟩ : ∃ fs, fs = n :: (rows.flatMap ProfileRow.numbers ++ [pre, term, slow, fast, low, crit, cut]) :=
    ⟨_, rfl⟩
  have read : ∀ i r, rows[i]? = some r → profileRowOf fs i = r := fun i r h => by
    rw [fs_eq]
    exact profileRowOf_eq h (fits r (List.mem_of_getElem? h))
  have setting : ∀ j, fieldAt fs (25 + j) = fieldAt [pre, term, slow, fast, low, crit, cut] j := fun j => by
    rw [fs_eq]
    exact fieldAt_settings length _ j
  have count : fieldAt fs 0 = n := by rw [fs_eq]; rfl
  rw [← fs_eq]
  simp only [profileConditions, count, setting 0, setting 1, setting 2, setting 3, setting 4, setting 5, setting 6,
    List.mem_cons, List.mem_append, List.mem_flatMap, List.mem_range, List.not_mem_nil, or_false, Prod.mk.injEq]
  have within : (∃ i, i < min n 6 ∧ (k, false) ∈ profileRowConditions fs i) ↔
      ∃ i r, i < n ∧ rows[i]? = some r ∧ r.faulty rows i k := by
    constructor
    · rintro ⟨i, hi, mem⟩
      have h := List.getElem?_eq_getElem (l := rows) (i := i) (by omega)
      exact ⟨i, _, by omega, h, (mem_profileRowConditions read h).mp mem⟩
    · rintro ⟨i, r, hi, h, bad⟩
      have := (List.getElem?_eq_some_iff.mp h).1
      exact ⟨i, by omega, (mem_profileRowConditions read h).mpr bad⟩
  refine or_congr (and_congr_right fun _ => eq_comm.trans (decide_fails (by omega))) (or_congr within ?_)
  refine or_congr (and_congr_right fun _ => ?_) (or_congr (and_congr_right fun _ => ?_)
    (or_congr (and_congr_right fun _ => ?_) (or_congr (and_congr_right fun _ => ?_)
    (or_congr (and_congr_right fun _ => ?_) (or_congr (and_congr_right fun _ => ?_) (and_congr_right fun _ => ?_)))))) <;>
    refine eq_comm.trans (decide_fails ?_) <;> simp only [fieldAt_cons_zero, fieldAt_cons_succ] <;> omega

/-- The table that a PROFILE load without a bad field gives. -/
theorem profileTableOf_eq {n pre term slow fast low crit cut : Nat} {rows : List ProfileRow} (length : rows.length = 6)
    (fits : ∀ r ∈ rows, r.fits) (count : n ≤ 6) :
    profileTableOf (n :: (rows.flatMap ProfileRow.numbers ++ [pre, term, slow, fast, low, crit, cut])) =
      ⟨rows.take n, pre, term, slow, fast, low, crit, cut⟩ := by
  obtain ⟨fs, fs_eq⟩ : ∃ fs, fs = n :: (rows.flatMap ProfileRow.numbers ++ [pre, term, slow, fast, low, crit, cut]) :=
    ⟨_, rfl⟩
  have setting : ∀ j, fieldAt fs (25 + j) = fieldAt [pre, term, slow, fast, low, crit, cut] j := fun j => by
    rw [fs_eq]
    exact fieldAt_settings length _ j
  have first : fieldAt fs 0 = n := by rw [fs_eq]; rfl
  have read : (List.range n).map (profileRowOf fs) = rows.take n :=
    List.ext_getElem (by simp; omega) fun i hi hi' => by
      have h := List.getElem?_eq_getElem (l := rows) (i := i) (by simp at hi'; omega)
      rw [List.getElem_map, List.getElem_range, List.getElem_take, fs_eq]
      exact profileRowOf_eq h (fits _ (List.mem_of_getElem? h))
  rw [← fs_eq, profileTableOf, first, read, setting 0, setting 1, setting 2, setting 3, setting 4, setting 5, setting 6]
  rfl

/-- The fields of a PROFILE load. -/
theorem fieldsOf_profile {n pre term slow fast low crit cut : Nat} {rows : List ProfileRow} (hn : n < 256)
    (hpre : pre < 65536) (hterm : term < 65536) (hslow : slow < 256) (hfast : fast < 65536) (hlow : low < 65536)
    (hcrit : crit < 65536) (hcut : cut < 65536) (length : rows.length = 6) (fits : ∀ r ∈ rows, r.fits) :
    fieldsOf profileWidths (beBytes 1 n ++ rows.flatMap (fun r => beSigned 2 r.tLow ++ beSigned 2 r.tHigh ++
      beBytes 2 r.current ++ beBytes 2 r.voltage) ++ (beBytes 2 pre ++ beBytes 2 term ++ beBytes 1 slow ++
      beBytes 2 fast ++ beBytes 2 low ++ beBytes 2 crit ++ beBytes 2 cut)) =
      n :: (rows.flatMap ProfileRow.numbers ++ [pre, term, slow, fast, low, crit, cut]) := by
  have numbers : ∀ m ∈ rows.flatMap ProfileRow.numbers, m < 256 ^ 2 := fun m mem => by
    obtain ⟨r, hr, hm⟩ := List.mem_flatMap.mp mem
    exact ProfileRow.numbers_lt (fits r hr) m hm
  have settings : fieldsOf [2, 2, 1, 2, 2, 2, 2] (beBytes 2 pre ++ beBytes 2 term ++ beBytes 1 slow ++
      beBytes 2 fast ++ beBytes 2 low ++ beBytes 2 crit ++ beBytes 2 cut) = [pre, term, slow, fast, low, crit, cut] := by
    simp only [List.append_assoc]
    rw [fieldsOf_append hpre, fieldsOf_append hterm, fieldsOf_append hslow, fieldsOf_append hfast, fieldsOf_append hlow,
      fieldsOf_append hcrit, fieldsOf_last hcut]
  have run := fieldsOf_run numbers [2, 2, 1, 2, 2, 2, 2] (beBytes 2 pre ++ beBytes 2 term ++ beBytes 1 slow ++
      beBytes 2 fast ++ beBytes 2 low ++ beBytes 2 crit ++ beBytes 2 cut)
  rw [length_rows, length, settings] at run
  simp only [ProfileRow.bytes_eq, ← List.flatMap_assoc]
  rw [List.append_assoc, profileWidths, List.cons_append, fieldsOf_append hn]
  exact congrArg (n :: ·) run

end Sys2Proof.Machine

open Sys2Proof.Machine

/-- Settles O42: the fields of the bytes (`fieldsOf_append`, `fieldsOf_run`), and the first bad one of each table. -/
theorem firstBadFieldIsNamed : Obligations.FirstBadFieldIsNamed := by
  refine ⟨fun a b c d e => parseRecorder_fields, fun win hin wout hout b => parseWindow_fields, ?_, ?_, ?_⟩
  · rintro start order yaw pitch scale leak lead guardRatio period hold thr count auto bytes hstart horder hyaw hpitch
      hscale hleak hlead hratio hperiod hhold hthr hcount hauto bytes_eq bad bad_eq
    have fields : fieldsOf motionWidths bytes =
        [start, order, yaw, pitch, scale, leak, lead, guardRatio, period, hold, thr, count, auto] := by
      simp only [bytes_eq, List.append_assoc, motionWidths]
      rw [fieldsOf_append hstart, fieldsOf_append horder, fieldsOf_append hyaw, fieldsOf_append hpitch,
        fieldsOf_append hscale, fieldsOf_append hleak, fieldsOf_append hlead, fieldsOf_append hratio,
        fieldsOf_append hperiod, fieldsOf_append hhold, fieldsOf_append hthr, fieldsOf_append hcount, fieldsOf_last hauto]
    rw [parseMotion, fields]
    rw [← firstBad_motion hstart hscale] at bad_eq
    refine ⟨fun k isBad => ?_, fun good => ?_⟩
    · rw [validated, ← bad_eq, isBad]
    · rw [bad_eq] at good
      have conditions := firstBad_eq_none.mp good
      refine ⟨_, by rw [validated, good], ?_⟩
      simp only [motionConditions, List.forall_mem_cons, decide_eq_true_eq] at conditions
      obtain ⟨-, order_ok, yaw_ok, ⟨pitch_ok, -⟩, -, -, -, -, -, -, -, -, auto_ok, -⟩ := conditions
      refine (motionFields_motionTableOf ?_ ?_ ?_ ?_).trans bytes_eq.symm
      exacts [order_ok, yaw_ok, pitch_ok, auto_ok]
  · rintro h v hs vs bytes hh hv hlen vlen hsmall vsmall bytes_eq bad meaning
    exact parseLens_fields hh hv hlen vlen hsmall vsmall bytes_eq meaning
  · rintro n pre term slow fast low crit cut rows bytes hn hpre hterm hslow hfast hlow hcrit hcut length fits bytes_eq bad
      meaning
    have fields := fieldsOf_profile hn hpre hterm hslow hfast hlow hcrit hcut length fits
    have meaning := fun k => (meaning k).trans (mem_profileConditions length fits).symm
    obtain ⟨named, taken⟩ := validated_least (profileConditions_rising _) meaning (profileTableOf _)
    rw [parseProfile, bytes_eq, fields]
    refine ⟨named, fun good => ?_⟩
    have count : n ≤ 6 := by
      by_contra many
      exact good 1 ((meaning 1).mpr ((mem_profileConditions length fits).mpr (.inl ⟨rfl, .inr (by omega)⟩)))
    rw [taken good, profileTableOf_eq length fits count]
end

section
/-!
The lens curves: the size and the sign of a pixel offset (R24, R25).
-/
set_option Elab.async false

namespace Sys2Proof.Machine

variable {shift a : Nat} {points : List Nat}

/-! ### The rounded quotient -/

theorem roundNat_zero {d : Nat} (hd : 0 < d) : roundNat 0 d = 0 := Nat.div_eq_of_lt (by omega)

/-- A rounded quotient does not exceed a whole number that its dividend, rounded up by a half, does not reach past. -/
theorem roundNat_le {n d m : Nat} (h : 2 * n + d < 2 * d * (m + 1)) : roundNat n d ≤ m :=
  Nat.lt_succ_iff.mp (Nat.div_lt_of_lt_mul h)

/-! ### The size of an offset -/

/-- Inside the curve: the point at the segment's start and the part of its rise (R24). -/
theorem curveOffset_inside (h : a / 2 ^ shift < 16) : curveOffset shift points a =
    (roundNat (points.getD (a / 2 ^ shift) 0 * 2 ^ shift +
      (points.getD (a / 2 ^ shift + 1) 0 - points.getD (a / 2 ^ shift) 0) * (a % 2 ^ shift)) (2 ^ (shift + 4)), false) :=
  if_pos h

/-- Beyond the curve: its last point (R25). -/
theorem curveOffset_beyond (h : 16 ≤ a / 2 ^ shift) :
    curveOffset shift points a = (roundNat (points.getD 16 0) 16, true) :=
  if_neg (by omega)

theorem curveInRange.getD_le (h : curveInRange shift points) (i : Nat) : points.getD i 0 ≤ 65535 := by
  obtain ⟨-, -, -, small, -⟩ := h
  rw [List.getD_eq_getElem?_getD]
  cases e : points[i]? with
  | none => exact Nat.zero_le _
  | some p => exact small p (List.mem_of_getElem? e)

/-- A point on a rising segment lies no higher than the segment's end. -/
theorem interpolated_le {p q f d : Nat} (rising : p ≤ q) (hf : f ≤ d) : p * d + (q - p) * f ≤ q * d :=
  calc p * d + (q - p) * f ≤ p * d + (q - p) * d := Nat.add_le_add_left (Nat.mul_le_mul_left _ hf) _
    _ = q * d := by rw [← Nat.add_mul, Nat.add_sub_cancel' rising]

/-- No point exceeds 65,535 sixteenths, so no offset exceeds 4,096 pixels. -/
theorem curveOffset_le (h : curveInRange shift points) (a : Nat) : (curveOffset shift points a).1 ≤ 4096 := by
  rcases Nat.lt_or_ge (a / 2 ^ shift) 16 with inside | beyond
  · have top := Nat.mul_le_mul_right (2 ^ shift) (curveInRange.getD_le h (a / 2 ^ shift + 1))
    obtain ⟨-, -, -, -, rising⟩ := h
    have width : 0 < 2 ^ shift := Nat.two_pow_pos shift
    have rise := interpolated_le (rising _ inside) (Nat.mod_lt a width).le
    rw [curveOffset_inside inside]
    refine roundNat_le ?_
    rw [Nat.pow_add]
    omega
  · have top := curveInRange.getD_le h 16
    rw [curveOffset_beyond beyond]
    exact roundNat_le (by omega)

/-- No correction, no offset: the curve starts at 0 (R34). -/
theorem curveOffset_zero (h : curveInRange shift points) : curveOffset shift points 0 = (0, false) := by
  obtain ⟨-, -, start, -⟩ := h
  rw [curveOffset_inside (by simp)]
  simp only [Nat.zero_div, Nat.zero_mod, start, Nat.zero_mul, Nat.mul_zero, Nat.add_zero]
  rw [roundNat_zero (Nat.two_pow_pos _)]

/-! ### The sign of an offset -/

theorem lensOffset_natAbs (shift : Nat) (points : List Nat) (c : Int) :
    (lensOffset shift points c).1.natAbs = (curveOffset shift points c.natAbs).1 := by
  unfold lensOffset; dsimp only; split
  · exact Int.natAbs_neg _ |>.trans (Int.natAbs_natCast _)
  · exact Int.natAbs_natCast _

theorem lensOffset_of_nonneg {c : Int} (h : 0 ≤ c) :
    (lensOffset shift points c).1 = (curveOffset shift points c.natAbs).1 :=
  if_neg (by omega)

/-- An offset takes the correction's sign; the offset of 0 is 0, which has none. -/
theorem lensOffset_of_nonpos (h : curveInRange shift points) {c : Int} (hc : c ≤ 0) :
    (lensOffset shift points c).1 = -((curveOffset shift points c.natAbs).1 : Int) := by
  rcases hc.lt_or_eq with negative | rfl
  · exact if_pos negative
  · rw [lensOffset_of_nonneg (le_refl _), Int.natAbs_zero, curveOffset_zero h]
    rfl

/-- Corrections of opposite sign give opposite offsets (R24). -/
theorem lensOffset_neg (h : curveInRange shift points) (c : Int) :
    (lensOffset shift points (-c)).1 = -(lensOffset shift points c).1 := by
  rcases le_total 0 c with nonneg | nonpos
  · rw [lensOffset_of_nonneg nonneg, lensOffset_of_nonpos h (by omega), Int.natAbs_neg]
  · rw [lensOffset_of_nonpos h nonpos, lensOffset_of_nonneg (by omega), Int.natAbs_neg, Int.neg_neg]

end Sys2Proof.Machine

open Sys2Proof.Machine

/-- Settles O36: sign and size of an offset apart, the size by the nearest quotient (`roundNat_nearest`). -/
theorem lensCurveConvertsAngles : Obligations.LensCurveConvertsAngles := by
  intro shift points c i f px inRange segment rest offset
  have size : px.natAbs = (curveOffset shift points c.natAbs).1 := by rw [offset, lensOffset_natAbs]
  have part : f = c.natAbs % 2 ^ shift := by rw [rest, segment, Nat.mod_eq_sub_div_mul]
  subst segment part
  refine ⟨size ▸ curveOffset_le inRange _, fun nonneg => ?_, fun nonpos => ?_, ?_, fun inside => ?_, fun beyond => ?_⟩
  · rw [offset, lensOffset_of_nonneg nonneg]
    omega
  · rw [offset, lensOffset_of_nonpos inRange nonpos]
    omega
  · rw [offset, lensOffset_neg inRange]
  · rw [curveOffset_inside inside] at size
    obtain ⟨below, above⟩ := roundNat_nearest (points.getD (c.natAbs / 2 ^ shift) 0 * 2 ^ shift +
      (points.getD (c.natAbs / 2 ^ shift + 1) 0 - points.getD (c.natAbs / 2 ^ shift) 0) * (c.natAbs % 2 ^ shift))
      (Nat.two_pow_pos (shift + 4))
    exact ⟨_, rfl, size ▸ below, size ▸ above, congrArg Prod.snd (curveOffset_inside inside)⟩
  · rw [curveOffset_beyond beyond] at size
    obtain ⟨below, above⟩ := roundNat_nearest (points.getD 16 0) (d := 16) (by decide)
    exact ⟨size ▸ below, size ▸ above, congrArg Prod.snd (curveOffset_beyond beyond)⟩
end

section
/-!
The first law (R27): under an active WINDOW table the lift and every band entry of the open frame record lie within the
margins of that table. The law reads the Window Unit alone, which only a frame's start, a band's start and the end of a
frame record change.
-/
set_option Elab.async false

namespace Sys2Proof.Machine

/-- The offsets of a frame record lie within the margins of a WINDOW table (R27). -/
def FrameRecord.within (f : FrameRecord) (w : WindowTable) : Prop :=
  (-(w.mv : Int) ≤ f.lift.dy ∧ f.lift.dy ≤ w.mv) ∧ ∀ e, some e ∈ f.entries → -(w.mh : Int) ≤ e.dx ∧ e.dx ≤ w.mh

variable {s t : State} {w : WindowTable}

theorem State.cropOk_iff : s.cropOk ↔ ∀ f w, s.wu.frame = some f → s.wu.window = some w → f.within w := Iff.rfl

/-! ### Offsets within the margins -/

/-- A clamped offset lies within its margin (R27). -/
theorem clampOffset_bounds (margin : Nat) (p : Int) :
    -(margin : Int) ≤ clampOffset margin p ∧ clampOffset margin p ≤ margin :=
  saturate_bounds (by omega) p

/-- A new frame record has a lift within the margin, and no band entry (R31). -/
theorem FrameRecord.within_opened {l : Lift} (h : -(w.mv : Int) ≤ l.dy ∧ l.dy ≤ w.mv) (number bands : Nat) :
    (FrameRecord.opened number bands l).within w :=
  ⟨h, fun _ mem => nomatch List.eq_of_mem_replicate mem⟩

/-- A band entry within the margin is entered (R32). -/
theorem FrameRecord.within.set {f : FrameRecord} (h : f.within w) {e : BandEntry}
    (he : -(w.mh : Int) ≤ e.dx ∧ e.dx ≤ w.mh) (b : Nat) :
    ({ f with entries := f.entries.set b (some e) } : FrameRecord).within w := by
  obtain ⟨lift, entries⟩ := h
  refine ⟨lift, fun g mem => ?_⟩
  rcases List.mem_or_eq_of_mem_set mem with old | new
  · exact entries g old
  · cases new
    exact he

/-! ### The rules of the law -/

/-- With no frame record open the law says nothing. -/
theorem State.cropOk_of_closed (h : s.wu.frame = none) : s.cropOk := fun f w frame => by simp [h] at frame

namespace State.cropOk

/-- An operation that leaves the frame record and the active WINDOW table as they were keeps the law. -/
theorem same (h : s.cropOk) (frame : t.wu.frame = s.wu.frame := by simp) (window : t.wu.window = s.wu.window := by simp) :
    t.cropOk := by
  rw [State.cropOk_iff, frame, window]
  exact h

/-- A change of the frame record that keeps its offsets within the margins of the active table. -/
theorem setFrame (h : s.cropOk) {g : FrameRecord → FrameRecord}
    (hg : ∀ f w, s.wu.window = some w → f.within w → (g f).within w) : (s.setFrame g).cropOk := by
  intro f w frame window
  obtain ⟨old, opened, rfl⟩ := Option.map_eq_some_iff.mp frame
  exact hg old w window (h old w opened window)

/-! ### Lines (R32, R47 to R50) -/

/-- A band entry is formed with its offset clamped (R27, R32), or centred (R33). -/
theorem formBand (h : s.cropOk) (window : s.wu.window = some w) (b : Nat) : (s.formBand w b).cropOk := by
  have entered : ∀ t : State, t.wu = s.wu → ∀ e : BandEntry, -(w.mh : Int) ≤ e.dx ∧ e.dx ≤ w.mh →
      (t.enterBand b e).cropOk := by
    intro t unit e he
    refine State.cropOk.setFrame (h.same (by rw [unit]) (by rw [unit])) fun f v active inside => ?_
    cases (unit ▸ active).symm.trans window
    exact inside.set he b
  unfold State.formBand; split
  · exact entered s rfl _ (by simp [BandEntry.centred])
  · exact entered _ (by simp) _ (clampOffset_bounds _ _)

theorem startBand (h : s.cropOk) (window : s.wu.window = some w) (b : Nat) : (s.startBand w b).cropOk := by
  unfold State.startBand; split
  · split
    · exact h.formBand window b
    · exact h
  · exact h

theorem placeLine (h : s.cropOk) (c : PictureCell) : (s.placeLine c).cropOk := by
  unfold State.placeLine; split
  · exact State.cropOk.setFrame h.same fun _ _ _ inside => inside
  · exact State.cropOk.setFrame h.same fun _ _ _ inside => inside

theorem outputLine (h : s.cropOk) (w : WindowTable) (l b : Nat) (p : List Pixel) (adjusted : Bool) :
    (s.outputLine w l b p adjusted).cropOk := by
  unfold State.outputLine; split
  · exact h
  · dsimp only; split
    · exact h.placeLine _
    · exact h

theorem takenLine (h : s.cropOk) (window : s.wu.window = some w) (l : Nat) (p : List Pixel) :
    (s.takenLine w l p).cropOk := by
  have seen : (s.setFrame (fun f => { f with linesSeen := f.linesSeen + 1 })).cropOk :=
    h.setFrame fun _ _ _ inside => inside
  have banded := seen.startBand window (w.bandOf l)
  exact State.cropOk.outputLine banded.same _ _ _ _ _

theorem takeLine (h : s.cropOk) (index : BitVec 12) (p : List Pixel) : (s.takeLine index p).cropOk := by
  unfold State.takeLine State.sortLine; split
  · split
    · exact h
    · split
      · exact h.same
      · split
        · exact h.same
        · split
          · next w window => exact State.cropOk.takenLine (s := s.setPort _) h.same window _ _
          · exact h.same
  · exact h

/-! ### Frames (R30, R43, R51) -/

/-- The Window Unit's frame record is gone at a frame's end (R51). -/
theorem closeFrame (s : State) (forced : Bool) : (s.closeFrame forced).cropOk := by
  refine State.cropOk_of_closed ?_
  unfold State.closeFrame; split
  · assumption
  · rfl

/-- A frame record is opened under the active table, its lift clamped (R27, R30), or centred (R33). -/
theorem openFrame (window : s.wu.window = some w) : (s.openFrame w).cropOk := by
  have opened : ∀ t : State, t.wu = s.wu → ∀ l : Lift, -(w.mv : Int) ≤ l.dy ∧ l.dy ≤ w.mv → (t.openRecord w l).cropOk := by
    intro t unit l hl f v frame active
    cases (unit ▸ active : s.wu.window = some v).symm.trans window
    cases frame
    exact FrameRecord.within_opened hl _ _
  unfold State.openFrame; split
  · exact opened s rfl _ (by simp [Lift.centred])
  · exact opened _ (by simp) _ (clampOffset_bounds _ _)

/-- A frame's start brings the law about, whichever table was taken: with one, the record is new; without, the law says
nothing (R39, R44). -/
theorem startRecordFrame (s : State) : s.startRecordFrame.cropOk := by
  unfold State.startRecordFrame; split
  · next w window => exact (openFrame window).same
  · next absent => exact fun f w _ window => nomatch absent.symm.trans window

theorem takeFrameStart (h : s.cropOk) : s.takeFrameStart.cropOk := by
  unfold State.takeFrameStart; split
  · exact startRecordFrame _
  · exact h

theorem takeFrameEnd (h : s.cropOk) : s.takeFrameEnd.cropOk := by
  unfold State.takeFrameEnd; split
  · exact closeFrame _ _
  · exact h

theorem loadLens (h : s.cropOk) (fields : List Byte) : (s.loadLens fields).1.cropOk := by
  unfold State.loadLens; split
  · exact h
  · exact h.same rfl rfl

/-- A loaded WINDOW table waits for a frame's start (R37). -/
theorem loadWindow (h : s.cropOk) (fields : List Byte) : (s.loadWindow fields).1.cropOk := by
  unfold State.loadWindow; split
  · exact h
  · split
    · exact h
    · exact h.same rfl rfl

/-! ### Standby, wake and RESTART close the frame record (R40, R41, R164) -/

theorem endPowerClose (h : s.cropOk) : s.endPowerClose.cropOk := by
  unfold State.endPowerClose; split
  · exact h
  · split
    · dsimp only; split
      · exact State.cropOk_of_closed rfl
      · exact h.same
    · exact h

theorem checkPowerClose (h : s.cropOk) (old : State) : (s.checkPowerClose old).cropOk := by
  unfold State.checkPowerClose; split
  · exact h.endPowerClose
  · exact h

theorem standbyCommand (h : s.cropOk) : s.standbyCommand.1.cropOk := by
  unfold State.standbyCommand; split
  · split
    · exact State.cropOk.endPowerClose (State.cropOk_of_closed rfl)
    · exact h
  · exact h
  · exact h

theorem wakeExpires (h : s.cropOk) : s.wakeExpires.cropOk := by
  unfold State.wakeExpires; split
  · exact State.cropOk.checkPowerClose h.same _
  · exact h

theorem drainExpires (h : s.cropOk) : s.drainExpires.cropOk := by
  unfold State.drainExpires; split
  · exact State.cropOk.endPowerClose h.same
  · exact h

theorem abortClip (h : s.cropOk) (clip : Nat) : (s.abortClip clip).1.cropOk := by
  unfold State.abortClip; split
  · exact h
  · split
    · exact h
    · exact h
    · exact h
    · split
      · exact h
      · exact State.cropOk.endPowerClose h.same

theorem takeReady (h : s.cropOk) (moment : ReportMoment) (ecc : EccRead) : (s.takeReady moment ecc).cropOk := by
  unfold State.takeReady State.finishWrite; split
  · split
    · split
      · exact State.cropOk.endPowerClose h.same
      · exact h.same
    · split
      · exact h.same
      · exact h
  · exact h

theorem takeSweep (h : s.cropOk) (r : Readings) : (s.takeSweep r).cropOk := by
  unfold State.takeSweep State.sweepWith State.endSweep; split
  · exact State.cropOk_of_closed rfl
  · exact State.cropOk.checkPowerClose h.same _

theorem takeSweepIf (h : s.cropOk) (happens : Bool) (r : Readings) : (s.takeSweepIf happens r).cropOk := by
  unfold State.takeSweepIf; split
  · exact h.takeSweep r
  · exact h

theorem restart (h : s.cropOk) : s.restart.1.cropOk := by
  unfold State.restart; split
  · exact h
  · exact State.cropOk_of_closed (by simp [State.restartNow, State.restartBlocks])

/-! ### Commands and steps -/

/-- A CONTROL cell keeps the law where its block does. -/
theorem control (h : s.cropOk) {tag code : Byte} {ok query : Bool} {body : State → State × CommandResult}
    (kept : (body s).1.cropOk) : (s.control tag code ok query body).cropOk := by
  rcases s.control_cases tag code ok query body with ⟨-, e⟩ | ⟨-, -, e⟩ | ⟨-, -, -, -, e⟩ | ⟨-, -, -, e⟩ <;> rw [e]
  · exact h.same
  · exact h.same
  · exact h.same
  · exact kept.same

theorem takeUnknown (h : s.cropOk) (tag code : Byte) (params : List Byte) : (s.takeUnknown tag code params).cropOk := by
  unfold State.takeUnknown; split
  · exact h.control h
  · split
    · exact h.control h
    · split
      · exact h.control h
      · exact h

theorem takeRestart (h : s.cropOk) (tag : Byte) (params : List Byte) : (s.takeRestart tag params).cropOk := by
  have taken := h.control (tag := tag) (code := 0x13) (ok := decide (params.length = 0)) (query := false) h.restart
  simp only [State.takeRestart]; split
  · exact State.cropOk.endPowerClose taken.same
  · exact taken

/-- An event keeps the law where its effect does; a dark part takes nothing. -/
theorem event (h : s.cropOk) {f : State → State} (e : s.take f = .next t) (kept : (f s).cropOk) : t.cropOk := by
  rcases s.take_cases f with ⟨-, d⟩ | ⟨-, d⟩ <;> rw [d] at e <;> cases e
  · exact kept.same
  · exact h

/-- A command keeps the law where its block does. -/
theorem command (h : s.cropOk) {tag code : Byte} {ok query : Bool} {body : State → State × CommandResult}
    (e : s.take (fun u => u.control tag code ok query body) = .next t) (kept : (body s).1.cropOk) : t.cropOk :=
  h.event e (h.control kept)

/-- Every command keeps the first law. -/
theorem exec {i : Instr} (h : s.cropOk) (e : exec i s = .next t) : t.cropOk := by
  cases i with
  | powerOn b => cases e; exact State.cropOk_of_closed rfl
  | frameStart => exact h.event e h.takeFrameStart
  | line index pixels => exact h.event e (h.takeLine index pixels)
  | frameEnd => exact h.event e h.takeFrameEnd
  | clipCell flags sequence payload => exact h.event e (State.cropOk.checkPowerClose h.same s)
  | drainTimeout => exact h.event e h.drainExpires
  | unknownCommand tag code params =>
    exact h.event (f := fun u => u.takeUnknown tag code params) e (h.takeUnknown tag code params)
  | loadTableLens tag fields => exact h.command e (h.loadLens fields)
  | loadTableWindow tag fields => exact h.command e (h.loadWindow fields)
  | abortClip tag params => exact h.command e (h.abortClip _)
  | standby tag params => exact h.command e h.standbyCommand
  | restart tag params => exact h.event (f := fun u => u.takeRestart tag params) e (h.takeRestart tag params)
  | readyReport report =>
    exact h.event (f := fun u => u.takeReady report.moment report.ecc) e (h.takeReady _ _)
  | sweep readings => exact h.event (f := fun u => u.takeSweep readings) e (h.takeSweep readings)
  | qualifyEnd readings => exact h.event e (h.takeSweepIf _ readings)
  | terminationCountReached readings => exact h.event e (h.takeSweepIf _ readings)
  | safetyTimerExpiry readings => exact h.event e (h.takeSweepIf _ readings)
  | criticalCountReached readings => exact h.event e (h.takeSweepIf _ readings)
  | wakeTimerExpiry => exact h.event e h.wakeExpires
  | dataReady | gapExpiry | cellSent | detectLineChange | detectAsserted | detectReleased | resetWaitExpiry
  | identifyTimeout | setGradeTimeout | blockAnswerTimeout | busyTimerExpiry | stopTimeout =>
    exact h.event e h.same
  | sampleArrival bytes => exact h.event (f := fun u => u.takeSample bytes) e h.same
  | cellBadCheck => exact h.event (f := fun u => u.count .cellsBadCheck) e h.same
  | identifyAnswer answer => exact h.event (f := fun u => u.takeIdentify answer) e h.same
  | setGradeAnswer ecc => exact h.event (f := fun u => u.takeGradeAnswer ecc) e h.same
  | slotWriteStart ecc => exact h.event (f := fun u => u.writeStarts ecc) e h.same
  | blockAnswer result ecc => exact h.event (f := fun u => u.takeBlockAnswer result ecc) e h.same
  | loadTableMotion | loadTableRecorder | loadTableProfile | appendExtent | clearExtents | addProtect | removeProtect
  | arm | disarm | startRecord | stopRecord | setCardGrade | setInputLimit | chargeReset | wake | clearCounters =>
    exact h.command e h.same
  | setTime tag params => exact h.command e (h.same rfl rfl)
  | queryStatus | queryClip | queryExtents | queryProtect | queryCounters | queryTable => exact h.command e h

end State.cropOk

end Sys2Proof.Machine

open Sys2Proof.Machine

/-- Settles O12: only a frame's start, a band's start and the end of a frame record touch what the first law reads, and
an offset enters a record clamped (`clampOffset_bounds`). -/
theorem cropStaysInsideTheFrame : Obligations.CropStaysInsideTheFrame := by
  intro s t h e
  unfold step at e; split at e
  · next c rest _ =>
    have popped : State.cropOk { s with pending := rest } := h.same rfl rfl
    exact popped.exec e
  · cases e
    unfold State.idle; split
    · exact h.same
    · exact h
end

section
/-!
LINE, the lines that are not TAKEN (R42, R45, R46).
-/
set_option Elab.async false

namespace Sys2Proof.Machine

variable {s : State} {index : BitVec 12} {pixels : List Pixel}

/-- A line is discarded without a count while the stream is stopped, no frame is open or there is no line limit (R42,
R45). -/
theorem State.takeLine_ignored (h : s.sp.running = false ∨ s.sp.frameOpen = false ∨ s.sp.lineLimit = none) :
    s.takeLine index pixels = s := by
  rcases h with stopped | closed | unlimited
  · simp [State.takeLine, stopped]
  · simp [State.takeLine, closed]
  · simp [State.takeLine, unlimited]

/-- A line that is OUT OF RANGE or PASSED is counted, and nothing else changes (R45, R46). -/
theorem State.takeLine_malformed {limit : Nat} (running : s.sp.running = true) (opened : s.sp.frameOpen = true)
    (limited : s.sp.lineLimit = some limit) (stray : limit ≤ index.toNat ∨ index.toNat < s.sp.expectedLine) :
    s.takeLine index pixels = s.count .linesMalformed := by
  by_cases out : limit ≤ index.toNat
  · simp [State.takeLine, running, opened, limited, out]
  · have passed : index.toNat < s.sp.expectedLine := stray.resolve_left out
    simp [State.takeLine, running, opened, limited, out, State.sortLine, passed]

end Sys2Proof.Machine

open Sys2Proof.Machine

/-- Settles O39: a stray line is ignored (`State.takeLine_ignored`) or counted (`State.takeLine_malformed`). -/
theorem strayLinesAreDiscarded : Obligations.StrayLinesAreDiscarded := by
  intro s l pixels on
  have effect : exec (.line l pixels) s = (s.takeLine l pixels).settled :=
    State.take_powered on (fun t => t.takeLine l pixels)
  refine ⟨fun ignored => ?_, fun limit running opened limited stray => ?_⟩
  · rw [effect, State.takeLine_ignored ignored]
  · rw [effect, State.takeLine_malformed running opened limited stray]
    rfl
end

section
/-!
STANDBY, WAKE and the wake timer (R56, R89, R90, R120, R163, R164, R166): the blocks at standby entry, the powered
quarters of the buffer, and the end of a buffer wake.
-/
set_option Elab.async false

namespace Sys2Proof.Machine

/-! ### The Slot Buffer at standby entry (R89) -/

/-- A quarter keeps its power where it holds a slot that is not FREE. -/
theorem SlotBuffer.standby_quarters (b : SlotBuffer) {k : Nat} (hk : k < 4) :
    b.standby.quarters[k]? = some true ↔ ∃ p ∈ b.slots, p.1 / 256 = k := by
  simp [SlotBuffer.standby, hk, SlotBuffer.quarterUsed, Config.quarterSlots]

/-- Quarters that are powered off lose their own bytes only. -/
theorem read_eraseQuarters {m : List Host.Cell} {lost : List Nat} {a : Nat} (h : a / 16777216 ∉ lost) :
    Memory.read (eraseQuarters m lost) a = Memory.read m a :=
  Memory.read_filter (p := fun x => !lost.contains (x / 16777216)) (by simpa using h)

/-- The bytes of a slot that is not FREE stay. -/
theorem SlotBuffer.read_standby (b : SlotBuffer) {p : Nat × SlotRecord} (hp : p ∈ b.slots) {i : Nat} (hi : i < 65536) :
    Memory.read b.standby.mem (65536 * p.1 + i) = Memory.read b.mem (65536 * p.1 + i) := by
  have quarter : (65536 * p.1 + i) / 16777216 = p.1 / 256 := by omega
  refine read_eraseQuarters fun idle => ?_
  obtain ⟨-, unused⟩ := List.mem_filter.mp idle
  have used : b.quarterUsed ((65536 * p.1 + i) / 16777216) = true :=
    List.any_eq_true.mpr ⟨p, hp, by simp [quarter, Config.quarterSlots]⟩
  simp [used] at unused

/-! ### STANDBY (R163, R164) -/

/-- The Card Port at standby entry, in the words of the statements (R120). -/
theorem CardPort.standby_eq (c : CardPort) : c.standby = { c with
    write := none, wait := none, gradeInUse := none, supplyOn := false
    card := if c.card = .absent then .absent else .off
    writer := c.writer.atStandby } := by
  have card : c.card.atStandby = if c.card = .absent then .absent else .off := by cases c.card <;> rfl
  rw [CardPort.standby, card]

section
variable {s : State}

/-- With no power close there is none to end (R137). -/
theorem State.endPowerClose_absent (h : s.clc.powerClose = none) : s.endPowerClose = s := by
  simp [State.endPowerClose, h]

/-- STANDBY is refused in ACTIVE outside IDLE, with an OPEN clip or with a write in flight (R163). -/
theorem State.standbyCommand_busy (active : s.smn.standby = .active)
    (h : s.clc.mode ≠ .idle ∨ s.clc.openClip ≠ none ∨ s.cp.writing = true) : s.standbyCommand = (s, .busy) := by
  have held : s.canPark = false := by
    rcases h with mode | opened | writing
    · simp [State.canPark, mode]
    · simp [State.canPark, opened]
    · simp [State.canPark, writing]
  simp [State.standbyCommand, active, held, State.answered]

/-- STANDBY in ACTIVE where nothing holds it, with no drain and no power close to end: the blocks park (R163, R164). -/
theorem State.standbyCommand_parks (active : s.smn.standby = .active) (mode : s.clc.mode = .idle)
    (closed : s.clc.openClip = none) (quiet : s.cp.writing = false) (drained : s.clc.drain = none)
    (calm : s.clc.powerClose = none) : s.standbyCommand =
      ((s.setSupply (fun m => { m with standby := .standby, reason := some .command })).parkBlocks, .done .plain) := by
  have free : s.canPark = true := by simp [State.canPark, mode, closed, quiet]
  have entry : s.enterStandby .command =
      (s.setSupply (fun m => { m with standby := .standby, reason := some .command })).parkBlocks := by
    simp [State.enterStandby, State.endDrain, drained]
  have absent : (s.enterStandby .command).clc.powerClose = none := by rw [entry]; exact calm
  simp only [State.standbyCommand, active, free, if_true, State.endPowerClose_absent absent]
  rw [entry]

/-! ### WAKE and the wake timer (R166) -/

/-- The levels that forbid a wake (R166). -/
theorem State.wakeRefused_iff : s.wakeRefused = true ↔
    s.smn.battery = .critical ∧ s.chg.switchClosed = false ∨ s.smn.die = .critical := by
  simp [State.wakeRefused, State.batteryDying]

/-- Without a CRITICAL level to close for, the power close test changes nothing (R162). -/
theorem State.powerCloseTest_eq_self (h : s.wakeRefused = false) : s.powerCloseTest = s := by
  obtain ⟨alive, cool⟩ : s.batteryDying = false ∧ s.smn.die ≠ .critical := by simpa [State.wakeRefused] using h
  simp [State.powerCloseTest, alive, cool]

/-- The Card Port at the end of a buffer wake: a present card is attached afresh (R106, R120). -/
theorem State.wakeCard_eq (s : State) : s.wakeCard = { s with cp := if s.cp.detect then { s.cp with
      supplyOn := true, card := .attaching, gradeInUse := some .g0, sent := some .reset
      wait := some ⟨.resetDone, s.smn.partTime + 1000⟩ }
    else { s.cp with supplyOn := true, card := .absent } } := by
  cases h : s.cp.detect <;>
    simp [State.wakeCard, h, State.setCard, State.startAttach, State.sendCard, State.deadlineIn, Config.resetWait]

/-- The wake timer expires with no level CRITICAL and no power close: the part is ACTIVE again (R166). -/
theorem State.wakeExpires_eq {d : Time} (deadline : s.smn.wakeDeadline = some d) (allowed : s.wakeRefused = false)
    (calm : s.clc.powerClose = none) :
    s.wakeExpires = ((s.reach d).setSupply SupplyMonitor.awake).wakeCard.runStreams := by
  have ended : (s.reach d).endWake = ((s.reach d).setSupply SupplyMonitor.awake).wakeCard.runStreams := by
    refine State.powerCloseTest_eq_self ?_
    rw [State.wakeCard_eq]
    exact allowed
  have absent : ((s.reach d).setSupply SupplyMonitor.awake).wakeCard.runStreams.clc.powerClose = none := by
    rw [State.wakeCard_eq]
    exact calm
  simp only [State.wakeExpires, deadline, State.checkPowerClose, ended, State.endPowerClose_absent absent, ite_self]

end

end Sys2Proof.Machine

open Sys2Proof.Machine

/-- Settles O60, command by command: the parked blocks are those of `State.standbyCommand_parks`, the woken ones those of
`State.wakeExpires_eq`. -/
theorem standbyParksAndWakeResumes : Obligations.StandbyParksAndWakeResumes := by
  intro s tag
  have standby_effect : s.obeys → exec (.standby tag []) s =
      s.standbyCommand.1.replied tag 0x0F s.standbyCommand.2 :=
    fun obeys => State.take_control obeys rfl State.standbyCommand
  have wake_effect : s.obeys → exec (.wake tag []) s = s.wakeCommand.1.replied tag 0x10 s.wakeCommand.2 :=
    fun obeys => State.take_control obeys rfl State.wakeCommand
  refine ⟨fun obeys standby => ?_, fun obeys active held => ?_,
    fun obeys active mode closed quiet drained calm => ?_, fun obeys active => ?_,
    fun obeys standby refused refused_iff => ⟨fun forbidden => ?_, fun allowed => ?_⟩,
    fun d r on deadline r_def cool alive calm => ?_⟩
  · rw [standby_effect obeys, State.standbyCommand, standby]
  · rw [standby_effect obeys, State.standbyCommand_busy active held]
  · have on : s.powered = true := obeys.1.1
    rw [standby_effect obeys, State.standbyCommand_parks active mode closed quiet drained calm]
    exact ⟨_, rfl, rfl, rfl, rfl, rfl, rfl, s.cp.standby_eq, rfl, rfl, rfl,
      fun k hk => s.sb.standby_quarters hk, fun p hp i _ hi => s.sb.read_standby hp hi, rfl, rfl, rfl, on, rfl⟩
  · rw [wake_effect obeys, State.wakeCommand, active]
  · have forbids : s.wakeRefused = true := State.wakeRefused_iff.mpr (refused_iff.mp forbidden)
    rw [wake_effect obeys, State.wakeCommand, standby, forbids]
    rfl
  · have allows : s.wakeRefused = false :=
      Bool.eq_false_iff.mpr fun forbids => allowed (refused_iff.mpr (State.wakeRefused_iff.mp forbids))
    rw [wake_effect obeys, State.wakeCommand, standby, allows]
    rfl
  · have allows : s.wakeRefused = false := by
      refine Bool.eq_false_iff.mpr fun forbids => ?_
      rcases State.wakeRefused_iff.mp forbids with ⟨critical, opened⟩ | hot
      · simp [alive critical] at opened
      · exact cool hot
    have effect : exec .wakeTimerExpiry s = s.wakeExpires.settled := State.take_powered on State.wakeExpires
    rw [effect, State.wakeExpires_eq deadline allows calm, State.wakeCard_eq, r_def]
    rfl
end

section
/-!
FRAME END, and a frame start that finds a frame open (R42, R43, R50 to R53, R83, R180): the record that is closed, its
bytes, and its way to the Slot Buffer.
-/
set_option Elab.async false

namespace Sys2Proof.Machine

/-! ### The FRAME record in the words of the statements (R180) -/

/-- A flag's weight in a byte of flags. -/
theorem ite_eq_mul_toNat (b : Bool) (k : Nat) : (if b then k else 0) = k * b.toNat := by
  cases b <;> simp

/-- The bytes of a present band entry. -/
theorem bandEntryBytes_some (e : BandEntry) : bandEntryBytes (some e) = beSigned 2 e.dx ++ beSigned 2 e.px ++
    beBytes 1 (1 + (if e.clamped then 2 else 0) + (if e.beyondCurve then 4 else 0) + (if e.guardOn then 8 else 0) +
      (if e.lost then 16 else 0)) ++ [0, 0, 0] := by
  have flags : beBytes 1 (1 + (if e.clamped then 2 else 0) + (if e.beyondCurve then 4 else 0) +
      (if e.guardOn then 8 else 0) + (if e.lost then 16 else 0)) =
      [flagBits [true, e.clamped, e.beyondCurve, e.guardOn, e.lost]] := by
    simp only [beBytes, flagBits, ite_eq_mul_toNat, List.foldr, Bool.toNat_true, Nat.pow_zero, Nat.div_one]
    congr 2
    ring
  rw [flags]
  simp [bandEntryBytes]

/-- The flags byte of a lift. -/
theorem liftFlags_eq (l : Lift) : beBytes 1 ((if l.clamped then 1 else 0) + (if l.lost then 2 else 0) +
      (if l.beyondCurve then 4 else 0) + (if l.guardOn then 8 else 0)) =
    [flagBits [l.clamped, l.lost, l.beyondCurve, l.guardOn]] := by
  simp only [beBytes, flagBits, ite_eq_mul_toNat, List.foldr, Nat.pow_zero, Nat.div_one]
  congr 2
  ring

/-- The payload of a FRAME record, for any function that gives the bytes of its band entries. -/
theorem framePayload_eq (f : FrameRecord) {entryBytes : Option BandEntry → List Byte}
    (absent : entryBytes none = [0, 0, 0, 0, 0, 0, 0, 0])
    (present : ∀ e, entryBytes (some e) = beSigned 2 e.dx ++ beSigned 2 e.px ++
      beBytes 1 (1 + (if e.clamped then 2 else 0) + (if e.beyondCurve then 4 else 0) + (if e.guardOn then 8 else 0) +
        (if e.lost then 16 else 0)) ++ [0, 0, 0]) :
    beBytes 4 f.number ++ beSigned 2 f.lift.dy ++ beSigned 2 f.lift.py ++
        beBytes 1 ((if f.lift.clamped then 1 else 0) + (if f.lift.lost then 2 else 0) +
          (if f.lift.beyondCurve then 4 else 0) + (if f.lift.guardOn then 8 else 0)) ++
        beBytes 1 f.bands ++ [0, 0] ++ f.entries.flatMap entryBytes = framePayload f := by
  have entries : entryBytes = bandEntryBytes := by
    funext entry
    cases entry with
    | none => exact absent
    | some e => rw [present, bandEntryBytes_some]
  have bands : beBytes 1 f.bands = [codeByte f.bands] := by simp [beBytes, codeByte]
  rw [liftFlags_eq, entries, bands]
  simp [framePayload]

/-- The bytes of a FRAME record. -/
theorem frameRecord_eq (time : Time) (payload : List Byte) :
    beBytes 1 3 ++ beBytes 1 0 ++ beBytes 2 payload.length ++ beBytes 4 time.toNat ++ payload =
      recordBytes .frame 0 time payload := by
  simp [recordBytes, beBytes, codeByte, RecordKind.code]

/-! ### A record handed to the buffer (R72, R83) -/

section
variable {s : State}

/-- A record that a slot receives is appended, and nothing is discarded (R72, R73). -/
theorem State.handRecord_receives {k : RecordKind} {payload : List Byte} {n : Nat} {r : SlotRecord} {ring : List Nat}
    (room : s.receives (recordBytes k 0 s.smn.partTime payload).length n r ring) :
    s.appends (s.handRecord k payload) n r ring (recordBytes k 0 s.smn.partTime payload) false ∧
      (s.handRecord k payload).sb.overrun = s.sb.overrun ∧ (s.handRecord k payload).clc = s.clc ∧
      (s.handRecord k payload).lp = s.lp := by
  rw [length_recordBytes] at room
  obtain ⟨u, append, appends, overrun, clc, lp, -⟩ := State.appendRecord_receives k 0 false payload room
  have hand : s.handRecord k payload = u := by simp only [State.handRecord, append, if_true]
  rw [hand]
  exact ⟨appends, overrun, clc, lp⟩

/-- The recorder after the receiving clip lost n records, in the words of the statements (R83, R121). -/
theorem State.addGap_clc (s : State) (n : Nat) : (s.addGap n).clc = s.gapped n := by
  cases receiving : s.clc.receiving with
  | none => simp [State.addGap, State.gapped, receiving]
  | some k => simp [State.addGap, State.gapped, receiving, State.modifyClip, raise, lim32, Nat.min_comm]

/-- The notices after a record met an overrun, in the words of the statements (R83). -/
theorem State.overrunStart_notices (s : State) : s.overrunStart.lp.notices = s.overrunNotices s.lp.notices := by
  unfold State.overrunStart State.overrunNotices; split <;> rfl

/-- A record that finds no slot is discarded and counted, and OVERRUN is posted at an episode's start (R83). -/
theorem State.handRecord_noSlot (full : s.noSlot) (k : RecordKind) (payload : List Byte) :
    (s.handRecord k payload).sb = { s.sb with overrun := true } ∧ (s.handRecord k payload).clc = s.gapped 1 ∧
      (s.handRecord k payload).lp.notices = s.overrunNotices s.lp.notices ∧
      (s.handRecord k payload).lp.counters.recordsDiscarded = min 65535 (s.lp.counters.recordsDiscarded + 1) := by
  have hand : s.handRecord k payload = (s.overrunStart.count .recordsDiscarded).addGap 1 := by
    simp only [State.handRecord, State.appendRecord_noSlot k 0 false payload full, Bool.false_eq_true, if_false,
      State.discardRecord]
  have clc : (s.overrunStart.count .recordsDiscarded).clc = s.clc := by simp
  have counters : s.overrunStart.lp.counters = s.lp.counters :=
    (LinkPort.sansNotices_eq s.overrunStart_sansNotices).2.2.2.2
  obtain ⟨-, -, -, -, lp, sb, -⟩ := State.addGap_frame (s.overrunStart.count .recordsDiscarded) 1
  rw [hand, State.addGap_clc, lp, sb]
  refine ⟨s.overrunStart_sb, ?_, s.overrunStart_notices, ?_⟩
  · simp only [State.gapped, clc]
  · rw [State.count_counters, counters]
    rfl

/-! ### Closing a frame (R50 to R52) -/

/-- FRAMES SHORT and the FRAME END cell of a closing record, before the record goes to the buffer (R50, R51). -/
def State.frameCounted (s : State) (f : FrameRecord) (short : Bool) : State := { s with
  sp := { s.sp with frameOpen := false }
  lp := { s.lp with
    lines := s.lp.lines ++ (if s.lp.lines.countP (fun c => !c.isLine) < 4 then
      [.frameEnd f.number f.linesSent f.linesDropped short] else [])
    counters := { s.lp.counters with
      framesShort := if short then min 65535 (s.lp.counters.framesShort + 1) else s.lp.counters.framesShort } } }

/-- A frame end with no frame record clears frame open, and that is all. -/
theorem State.endFrame_none (h : s.wu.frame = none) (forced : Bool) :
    s.endFrame forced = { s with sp := { s.sp with frameOpen := false } } := by
  have closed : (s.setPort (fun p => { p with frameOpen := false })).wu.frame = none := h
  simp only [State.endFrame, State.closeFrame, closed]
  rfl

/-- FRAMES SHORT after a frame end (R51). -/
theorem State.countShort_eq (s : State) (short : Bool) : s.countShort short = { s with
    lp := { s.lp with counters := { s.lp.counters with
      framesShort := if short then min 65535 (s.lp.counters.framesShort + 1) else s.lp.counters.framesShort } } } := by
  cases short <;> rfl

/-- The line queue after a FRAME END cell (R50). -/
theorem State.placeFrameEnd_eq (s : State) (c : PictureCell) : s.placeFrameEnd c = { s with
    lp := { s.lp with
      lines := s.lp.lines ++ if s.lp.lines.countP (fun x => !x.isLine) < 4 then [c] else [] } } := by
  unfold State.placeFrameEnd; split
  · rfl
  · simp

/-- A frame end with a frame record: it is counted, handed over and closed, in that order (R51, R52). -/
theorem State.endFrame_some {f : FrameRecord} {forced short : Bool} (frame : s.wu.frame = some f)
    (h : short = true ↔ forced = true ∨ ∃ w, s.wu.window = some w ∧ f.linesSeen < w.hin) :
    s.endFrame forced =
      ((s.frameCounted f short).handFrame f).setWindowUnit (fun w => { w with frame := none }) := by
  have size : (∃ w, s.wu.window = some w ∧ f.linesSeen < w.hin) ↔ f.linesSeen < s.wu.window.elim 0 (·.hin) := by
    cases s.wu.window <;> simp
  have short_eq : (forced || decide (f.linesSeen < s.wu.window.elim 0 (·.hin))) = short :=
    Bool.eq_iff_iff.mpr (by rw [h, size]; simp)
  have opened : (s.setPort (fun p => { p with frameOpen := false })).wu = s.wu := rfl
  simp only [State.endFrame, State.closeFrame, opened, frame, short_eq, State.countShort_eq, State.placeFrameEnd_eq]
  rfl

/-- A frame end clears frame open; it leaves the rest of the Sensor Port. -/
theorem State.endFrame_sp (s : State) (forced : Bool) :
    (s.endFrame forced).sp = { s.sp with frameOpen := false } := by
  simp [State.endFrame]

/-- A start that finds a frame open ends it first, forced (R43, R52). -/
theorem State.exec_frameStart_open (on : s.powered = true) (running : s.sp.running = true)
    (opened : s.sp.frameOpen = true) : exec .frameStart s = exec .frameStart (s.endFrame true) := by
  have still_on : (s.endFrame true).powered = true := by simp [on]
  have started : s.takeFrameStart = (s.endFrame true).takeFrameStart := by
    simp [State.takeFrameStart, State.endFrame_sp, running, opened]
  calc exec .frameStart s
    _ = s.takeFrameStart.settled := State.take_powered on _
    _ = (s.endFrame true).takeFrameStart.settled := by rw [started]
    _ = exec .frameStart (s.endFrame true) := (State.take_powered still_on _).symm

/-- While IDLE the record of a closing frame goes nowhere (R53). -/
theorem State.handFrame_idle (idle : s.clc.mode = .idle) (f : FrameRecord) : s.handFrame f = s := if_pos idle

/-- While ARMED or RECORDING it is handed to the buffer (R53). -/
theorem State.handFrame_busy (busy : s.clc.mode ≠ .idle) (f : FrameRecord) :
    s.handFrame f = s.handRecord .frame (framePayload f) := if_neg busy

/-- Of the Link Port it changes the notices and RECORDS DISCARDED alone (R83). -/
theorem State.handFrame_link (s : State) (f : FrameRecord) :
    (s.handFrame f).lp.lines = s.lp.lines ∧ (s.handFrame f).lp.replies = s.lp.replies ∧
      (s.handFrame f).lp.sending = s.lp.sending ∧ (s.handFrame f).lp.expectedSequence = s.lp.expectedSequence ∧
      (s.handFrame f).lp.counters =
        { s.lp.counters with recordsDiscarded := (s.handFrame f).lp.counters.recordsDiscarded } := by
  have link : (s.handFrame f).lp.sansNotices = s.lp.sansNotices ∨
      (s.handFrame f).lp.sansNotices = (s.count .recordsDiscarded).lp.sansNotices := by
    unfold State.handFrame; split
    · exact .inl rfl
    · exact State.handRecord_sansNotices s .frame (framePayload f)
  rcases link with kept | discarded
  · obtain ⟨sequence, lines, replies, sending, counters⟩ := LinkPort.sansNotices_eq kept
    exact ⟨lines, replies, sending, sequence, by rw [counters]⟩
  · obtain ⟨sequence, lines, replies, sending, counters⟩ := LinkPort.sansNotices_eq discarded
    exact ⟨lines, replies, sending, sequence, by rw [counters]; rfl⟩

end

end Sys2Proof.Machine

open Sys2Proof.Machine

/-- Settles O38: the frame ends by `State.endFrame_none` or `State.endFrame_some`, and the record is appended
(`State.handRecord_receives`) or discarded (`State.handRecord_noSlot`). -/
theorem frameEndClosesTheRecord : Obligations.FrameEndClosesTheRecord := by
  intro s on
  have end_effect : exec .frameEnd s = s.takeFrameEnd.settled := State.take_powered on _
  have ends : s.sp.frameOpen = true → s.sp.running = true → exec .frameEnd s = (s.endFrame false).settled := by
    intro opened running
    rw [end_effect, State.takeFrameEnd, if_pos ⟨running, opened⟩]
  refine ⟨⟨_, end_effect⟩, fun ignored => ?_, fun opened running absent => ⟨?_, ?_⟩,
    fun f forced short opened running frame short_iff => ?_⟩
  · have stays : s.takeFrameEnd = s := by
      rcases ignored with closed | stopped
      · simp [State.takeFrameEnd, closed]
      · simp [State.takeFrameEnd, stopped]
    rw [end_effect, stays]
  · rw [ends opened running, State.endFrame_none absent]
  · rw [State.exec_frameStart_open on running opened, State.endFrame_none absent]
  · -- the part when the frame end is counted and its cell placed
    obtain ⟨v, v_def⟩ : ∃ v, v = s.frameCounted f short := ⟨_, rfl⟩
    have ended : s.endFrame forced = (v.handFrame f).setWindowUnit (fun w => { w with frame := none }) := by
      rw [State.endFrame_some frame short_iff, v_def]
    obtain ⟨v_sb, v_clc, v_smn⟩ : v.sb = s.sb ∧ v.clc = s.clc ∧ v.smn = s.smn := by rw [v_def]; exact ⟨rfl, rfl, rfl⟩
    obtain ⟨v_notices, v_counters⟩ : v.lp.notices = s.lp.notices ∧
        v.lp.counters.recordsDiscarded = s.lp.counters.recordsDiscarded := by rw [v_def]; exact ⟨rfl, rfl⟩
    have wu : (v.handFrame f).wu = s.wu := by
      obtain ⟨-, -, kept, -⟩ := v.handFrame_frame f
      rw [kept, v_def]
      rfl
    obtain ⟨lines, replies, sending, sequence, counters⟩ := v.handFrame_link f
    obtain ⟨powered, me, xm, cp, chg, smn, pending⟩ := s.endFrame_frame forced
    refine ⟨s.endFrame forced, fun free => by rw [ends opened running, free],
      fun hit => by rw [State.exec_frameStart_open on running opened, hit], s.endFrame_sp forced, ?_⟩
    simp only [me, xm, cp, chg, smn, powered, pending, on]
    simp only [ended, State.setWindowUnit_wu, State.setWindowUnit_lp, State.setWindowUnit_sb, State.setWindowUnit_clc, wu,
      true_and]
    refine ⟨by rw [lines, v_def]; rfl, counters.trans (by rw [v_def]; rfl),
      by rw [replies, v_def]; rfl, by rw [sending, v_def]; rfl, by rw [sequence, v_def]; rfl, fun idle => ?_,
      fun n r ring payload record busy payload_def record_def room => ?_, fun busy full => ?_⟩
    · rw [State.handFrame_idle (v_clc ▸ idle)]
      exact ⟨v_sb, v_clc, v_notices, v_counters⟩
    · obtain rfl : payload = framePayload f := payload_def.trans (framePayload_eq f rfl (fun _ => rfl))
      rw [frameRecord_eq, ← v_smn] at record_def
      subst record_def
      obtain ⟨appends, overrun, clc, lp⟩ := State.handRecord_receives (State.receives_congr v_sb v_clc room)
      rw [State.handFrame_busy (v_clc ▸ busy)]
      exact ⟨State.appends_congr v_sb v_smn v_clc rfl appends, by rw [overrun, v_sb], clc.trans v_clc,
        by rw [lp, v_notices], by rw [lp, v_counters]⟩
    · obtain ⟨sb, clc, notices, discarded⟩ :=
        State.handRecord_noSlot (State.noSlot_congr v_sb full) .frame (framePayload f)
      rw [State.handFrame_busy (v_clc ▸ busy), sb, clc, notices, discarded]
      simp only [State.gapped, State.overrunNotices, v_sb, v_clc, v_smn, v_notices, v_counters, and_self]
end

section
/-!
The protect table and the clips that are LOCKED (R65 to R68, R102): what a LOCK range that is added, lengthened or refused
does to the table and to its clip.
-/
set_option Elab.async false

namespace Sys2Proof.Machine

/-! ### Blocks that are locked -/

/-- A range locks a block for a clip (R99). -/
def ProtectRange.locks (p : ProtectRange) (clip x : Nat) : Prop :=
  p.origin = .lock ∧ p.clip = some clip ∧ p.first ≤ x ∧ x < p.first + p.count

/-- A block lies in a LOCK range of a clip. -/
def locksBlock (places : List (Option ProtectRange)) (clip x : Nat) : Prop := ∃ p, some p ∈ places ∧ p.locks clip x

/-- A block is in the range list or in the trailer of a clip. -/
def ClipRecord.lists (r : ClipRecord) (x : Nat) : Prop :=
  ∃ g ∈ r.ranges ++ r.trailerPosition.toList.map (fun f => (f, 128)), g.1 ≤ x ∧ x < g.1 + g.2

theorem State.lockedOk_iff {s : State} : s.lockedOk ↔ ∀ r ∈ s.clc.clips, r.locked = true → r.lockPartial = false →
    ∀ x, r.lists x → locksBlock s.xm.protect r.number x := by
  constructor
  · rintro h r mem locked whole x ⟨g, listed, low, high⟩
    exact h r mem locked whole g listed x low high
  · intro h r mem locked whole g listed x low high
    exact h r mem locked whole x ⟨g, listed, low, high⟩

section
variable {places : List (Option ProtectRange)} {clip x i : Nat} {v : Option ProtectRange} {p : ProtectRange}

/-- A place that is set locks its blocks. -/
theorem locksBlock_set_self (hi : i < places.length) (h : p.locks clip x) : locksBlock (places.set i (some p)) clip x :=
  ⟨p, List.mem_set hi _, h⟩

/-- A place that is set leaves the blocks locked that the range before it did not lock, or that are locked anew. -/
theorem locksBlock.set (h : locksBlock places clip x)
    (old : ∀ q, places[i]? = some (some q) → q.locks clip x → locksBlock (places.set i v) clip x) :
    locksBlock (places.set i v) clip x := by
  obtain ⟨p, mem, locks⟩ := h
  obtain ⟨j, hj⟩ := List.mem_iff_getElem?.mp mem
  by_cases same : i = j
  · exact old p (same ▸ hj) locks
  · exact ⟨p, List.mem_of_getElem? ((List.getElem?_set_ne same).trans hj), locks⟩

/-- A range may give way to one of the same clip that locks its blocks. -/
theorem locksBlock.lengthen (h : locksBlock places clip x) {q r : ProtectRange} (hq : places[i]? = some (some q))
    (longer : q.locks clip x → r.locks clip x) : locksBlock (places.set i (some r)) clip x := by
  refine h.set fun q' at_i locks => ?_
  cases hq.symm.trans at_i
  exact locksBlock_set_self (List.getElem?_eq_some_iff.mp hq).1 (longer locks)

/-- A range changed in its place. -/
theorem modify_place (h : places[i]? = some (some p)) (f : ProtectRange → ProtectRange) :
    places.modify i (Option.map f) = places.set i (some (f p)) := by
  rw [List.modify_eq_set, h, Option.getD_some, Option.map_some]

/-- What the searches of R67 look for at a place. -/
theorem any_lock_iff (P : ProtectRange → Prop) [DecidablePred P] :
    (v.any fun r => isLockOf clip r && decide (P r)) = true ↔
      ∃ r, v = some r ∧ r.origin = .lock ∧ r.clip = some clip ∧ P r := by
  simp [Option.any_eq_true, isLockOf, and_assoc]

/-- The place that a search of R67 finds. -/
theorem findLock_eq_some (P : ProtectRange → Prop) [DecidablePred P] :
    places.findIdx? (fun v => v.any (fun r => isLockOf clip r && decide (P r))) = some i ↔
      ∃ r, firstLock places clip P i r := by
  simp only [List.findIdx?_eq_some_iff_getElem, any_lock_iff]
  constructor
  · rintro ⟨hi, ⟨r, at_i, origin, of, holds⟩, first⟩
    refine ⟨r, List.getElem?_eq_some_iff.mpr ⟨hi, at_i⟩, origin, of, holds, fun j q before at_j q_lock q_of q_holds => ?_⟩
    exact first j before ⟨q, (List.getElem?_eq_some_iff.mp at_j).2, q_lock, q_of, q_holds⟩
  · rintro ⟨r, at_i, origin, of, holds, first⟩
    obtain ⟨hi, at_i⟩ := List.getElem?_eq_some_iff.mp at_i
    refine ⟨hi, ⟨r, at_i, origin, of, holds⟩, ?_⟩
    rintro j before ⟨q, at_j, q_lock, q_of, q_holds⟩
    exact first j q before (List.getElem?_eq_some_iff.mpr ⟨by omega, at_j⟩) q_lock q_of q_holds

/-- A search of R67 that finds no place. -/
theorem findLock_eq_none (P : ProtectRange → Prop) [DecidablePred P] :
    places.findIdx? (fun v => v.any (fun r => isLockOf clip r && decide (P r))) = none ↔ noLock places clip P := by
  rw [List.findIdx?_eq_none_iff]
  constructor
  · intro h q mem origin of holds
    have missed := h (some q) mem
    rw [← Bool.not_eq_true, any_lock_iff] at missed
    exact missed ⟨q, rfl, origin, of, holds⟩
  · intro h v mem
    rw [← Bool.not_eq_true, any_lock_iff]
    rintro ⟨q, rfl, origin, of, holds⟩
    exact h q mem origin of holds

end

/-! ### Marking a clip LOCK PARTIAL (R66) -/

/-- The Clip Controller after a clip was marked LOCK PARTIAL, or not. -/
def ClipController.marked (c : ClipController) (clip : Nat) (partly : Bool) : ClipController :=
  { c with clips := c.clips.map (fun r => if r.number = clip then { r with lockPartial := r.lockPartial || partly } else r) }

theorem ClipController.marked_false (c : ClipController) (clip : Nat) : c.marked clip false = c := by
  have same : ∀ r : ClipRecord, (if r.number = clip then { r with lockPartial := r.lockPartial || false } else r) = r := by
    intro r; split <;> simp
  simp only [ClipController.marked, same, List.map_id']

theorem ClipController.marked_marked (c : ClipController) (clip : Nat) (a b : Bool) :
    (c.marked clip a).marked clip b = c.marked clip (a || b) := by
  have same : ∀ r : ClipRecord, r.number = clip → (if r.number = clip then
      { r with lockPartial := r.lockPartial || a || b } else r) = { r with lockPartial := r.lockPartial || (a || b) } := by
    intro r h; simp [h, Bool.or_assoc]
  simp only [ClipController.marked, List.map_map]
  congr 1
  refine List.map_congr_left fun r _ => ?_
  by_cases h : r.number = clip <;> simp [h, Bool.or_assoc]

/-- Clip records stand in rising order of their numbers (R122). -/
def ClipController.ordered (c : ClipController) : Prop := c.clips.Pairwise (fun r q => r.number < q.number)

section
variable {c : ClipController} {r q : ClipRecord} {clip : Nat}

/-- A number names one record at most. -/
theorem ClipController.ordered.unique (h : c.ordered) (hr : r ∈ c.clips) (hq : q ∈ c.clips)
    (same : r.number = q.number) : r = q := by
  have nodup : (c.clips.map (·.number)).Nodup := List.pairwise_map.mpr (h.imp fun lt => Nat.ne_of_lt lt)
  exact List.inj_on_of_nodup_map nodup hr hq same

theorem ClipController.ordered.marked (h : c.ordered) (clip : Nat) (partly : Bool) : (c.marked clip partly).ordered := by
  refine List.pairwise_map.mpr (h.imp fun {a b} lt => ?_)
  have number : ∀ r : ClipRecord, (if r.number = clip then { r with lockPartial := r.lockPartial || partly } else r).number =
      r.number := by intro r; split <;> rfl
  rw [number, number]
  exact lt

/-- The record held for a clip number (R122). -/
theorem ClipController.clip_eq_some (h : c.ordered) : c.clip clip = some r ↔ r ∈ c.clips ∧ r.number = clip := by
  constructor
  · intro e
    exact ⟨List.mem_of_find?_eq_some e, by simpa using List.find?_some e⟩
  · rintro ⟨mem, rfl⟩
    cases e : c.clip r.number with
    | none =>
      have missed : r.number ≠ r.number := by simpa using List.find?_eq_none.mp e r mem
      exact absurd rfl missed
    | some q =>
      have found : q.number = r.number := by simpa using List.find?_some e
      rw [h.unique (List.mem_of_find?_eq_some e) mem found]

theorem ClipController.clip_eq_none : c.clip clip = none ↔ ∀ r ∈ c.clips, r.number ≠ clip := by
  simp [ClipController.clip]

end

variable {s t : State} {k : Nat}

/-- A clip is marked LOCK PARTIAL, with the notice the first time (R66). -/
theorem State.lockPartial_eq (order : s.clc.ordered) : s.lockPartial k = { s with
    clc := s.clc.marked k true
    lp := { s.lp with notices := (if (s.clc.clip k).any (fun r => !r.lockPartial) then
      postNotice .lockPartial (.number k) s.smn.partTime else id) s.lp.notices } } := by
  cases held : s.clc.clip k with
  | none =>
    have marked : s.clc.marked k true = s.clc := by
      have same : s.clc.clips.map (fun r => if r.number = k then { r with lockPartial := r.lockPartial || true } else r) =
          s.clc.clips.map id :=
        List.map_congr_left fun r mem => if_neg (ClipController.clip_eq_none.mp held r mem)
      simp only [ClipController.marked, same, List.map_id]
    simp only [State.lockPartial, held, marked]
    rfl
  | some r =>
    obtain ⟨mem, number⟩ := (ClipController.clip_eq_some order).mp held
    by_cases already : r.lockPartial = true
    · have marked : s.clc.marked k true = s.clc := by
        have same : s.clc.clips.map (fun r => if r.number = k then { r with lockPartial := r.lockPartial || true } else r) =
            s.clc.clips.map id := by
          refine List.map_congr_left fun q mem_q => ?_
          split
          · next h =>
            cases order.unique mem_q mem (h.trans number.symm)
            simp [← already]
          · rfl
        simp only [ClipController.marked, same, List.map_id]
      simp [State.lockPartial, held, already, marked]
    · simp only [State.lockPartial, held, already, Bool.false_eq_true, if_false]
      simp [already, State.modifyClip, State.setRecorder, State.post, ClipController.marked]

/-! ### Places and clashes (R99, R100, R102) -/

section
variable {m : ExtentMap} {f n i : Nat}

theorem overlaps_iff {f n g m : Nat} : overlaps f n g m = true ↔ ∃ x, f ≤ x ∧ x < f + n ∧ g ≤ x ∧ x < g + m := by
  simp only [overlaps, decide_eq_true_eq]
  constructor
  · intro h
    exact ⟨max f g, by omega, by omega, by omega, by omega⟩
  · rintro ⟨x, h1, h2, h3, h4⟩
    omega

/-- The two overlap tests of R100 and R102, in the words of the statements. -/
theorem ExtentMap.clash_iff : (m.unusedMeets f n || m.protectMeets f n) = true ↔ ∃ x, f ≤ x ∧ x < f + n ∧
    ((∃ e ∈ m.extents, e.first + e.used ≤ x ∧ x < e.first + e.used + (e.count - e.used)) ∨
      ∃ r, some r ∈ m.protect ∧ r.first ≤ x ∧ x < r.first + r.count) := by
  have unused : m.unusedMeets f n = true ↔ ∃ x, f ≤ x ∧ x < f + n ∧
      ∃ e ∈ m.extents, e.first + e.used ≤ x ∧ x < e.first + e.used + (e.count - e.used) := by
    simp only [ExtentMap.unusedMeets, Extent.unusedMeets, List.any_eq_true, overlaps_iff]
    exact ⟨fun ⟨e, mem, x, h1, h2, h3⟩ => ⟨x, h1, h2, e, mem, h3⟩, fun ⟨x, h1, h2, e, mem, h3⟩ => ⟨e, mem, x, h1, h2, h3⟩⟩
  have placed : m.protectMeets f n = true ↔ ∃ x, f ≤ x ∧ x < f + n ∧
      ∃ r, some r ∈ m.protect ∧ r.first ≤ x ∧ x < r.first + r.count := by
    simp only [ExtentMap.protectMeets, List.any_eq_true, Option.any_eq_true, overlaps_iff]
    exact ⟨fun ⟨_, mem, r, e, x, h1, h2, h3⟩ => ⟨x, h1, h2, r, e ▸ mem, h3⟩,
      fun ⟨x, h1, h2, r, mem, h3⟩ => ⟨some r, mem, r, rfl, x, h1, h2, h3⟩⟩
  rw [Bool.or_eq_true, unused, placed, ← exists_or]
  simp only [and_or_left]

/-- The lowest empty place (R99). -/
theorem ExtentMap.emptyPlace_eq_some :
    m.emptyPlace = some i ↔ m.protect[i]? = some none ∧ ∀ j, j < i → m.protect[j]? ≠ some none := by
  simp only [ExtentMap.emptyPlace, List.findIdx?_eq_some_iff_getElem, Option.isNone_iff_eq_none]
  constructor
  · rintro ⟨hi, empty, first⟩
    exact ⟨List.getElem?_eq_some_iff.mpr ⟨hi, empty⟩, fun j before at_j =>
      first j before (List.getElem?_eq_some_iff.mp at_j).2⟩
  · rintro ⟨at_i, first⟩
    obtain ⟨hi, empty⟩ := List.getElem?_eq_some_iff.mp at_i
    exact ⟨hi, empty, fun j before at_j => first j before (List.getElem?_eq_some_iff.mpr ⟨by omega, at_j⟩)⟩

theorem ExtentMap.emptyPlace_eq_none : m.emptyPlace = none ↔ none ∉ m.protect := by
  simp only [ExtentMap.emptyPlace, List.findIdx?_eq_none_iff]
  constructor
  · intro h mem
    simpa using h none mem
  · intro h v mem
    cases v with
    | none => exact absurd mem h
    | some _ => rfl

end

/-! ### Blocks handed to the protect table for a clip (R65 to R67) -/

/-- t is s after blocks were handed to the protect table for clip k: the table locks what it locked, and it locks those
blocks too, or the clip is marked LOCK PARTIAL. -/
def State.LocksTo (s t : State) (k : Nat) (blocks : Nat → Prop) : Prop :=
  ∃ partly, t.clc = s.clc.marked k partly ∧
    (∀ clip x, locksBlock s.xm.protect clip x → locksBlock t.xm.protect clip x) ∧
    (partly = false → ∀ x, blocks x → locksBlock t.xm.protect k x)

section
variable {s t u : State} {k f n : Nat}

/-- The clip is marked, and the table is as it was. -/
theorem State.LocksTo.of_partial (order : s.clc.ordered) (blocks : Nat → Prop) :
    s.LocksTo (s.lockPartial k) k blocks := by
  rw [State.lockPartial_eq order]
  exact ⟨true, rfl, fun _ _ => id, nofun⟩

/-- A LOCK range that is to be added (R66, R102). -/
theorem State.addLock_locks (order : s.clc.ordered) (k f n : Nat) :
    s.LocksTo (s.addLock k f n) k (fun x => f ≤ x ∧ x < f + n) := by
  unfold State.addLock; split
  · exact State.LocksTo.of_partial order _
  · split
    · next i place =>
      obtain ⟨empty, -⟩ := ExtentMap.emptyPlace_eq_some.mp place
      refine ⟨false, (s.clc.marked_false k).symm, fun clip x locks => locks.set fun q at_i _ => ?_, fun _ x inside => ?_⟩
      · cases empty.symm.trans at_i
      · exact locksBlock_set_self (List.getElem?_eq_some_iff.mp empty).1 ⟨rfl, rfl, inside⟩
    · exact State.LocksTo.of_partial order _

/-- Ranges that are to be added one after another (R65). -/
theorem State.addLocks_locks (k : Nat) (ranges : List (Nat × Nat)) (order : s.clc.ordered) :
    s.LocksTo (s.addLocks k ranges) k (fun x => ∃ g ∈ ranges, g.1 ≤ x ∧ x < g.1 + g.2) := by
  induction ranges generalizing s with
  | nil => exact ⟨false, (s.clc.marked_false k).symm, fun _ _ => id, fun _ x ⟨g, mem, _⟩ => nomatch mem⟩
  | cons g rest ih =>
    obtain ⟨a, clc, grows, first⟩ := State.addLock_locks order k g.1 g.2
    obtain ⟨b, clc', grows', others⟩ := ih (s := s.addLock k g.1 g.2) (clc ▸ order.marked k a)
    refine ⟨a || b, ?_, fun clip x locks => grows' clip x (grows clip x locks), fun whole x => ?_⟩
    · rw [State.addLocks, clc', clc, ClipController.marked_marked]
    · obtain ⟨rfl, rfl⟩ := Bool.or_eq_false_iff.mp whole
      rintro ⟨q, mem, inside⟩
      rcases List.mem_cons.mp mem with rfl | later
      · exact grows' k x (first rfl x inside)
      · exact others rfl x ⟨q, later, inside⟩

/-- The range that a search finds to end, or to begin, at a block. -/
theorem ExtentMap.lockEndingAt_eq_some {m : ExtentMap} {i : Nat} : m.lockEndingAt k f = some i ↔
    ∃ r, firstLock m.protect k (fun x => x.first + x.count = f) i r := findLock_eq_some _

theorem ExtentMap.lockEndingAt_eq_none {m : ExtentMap} : m.lockEndingAt k f = none ↔
    noLock m.protect k (fun x => x.first + x.count = f) := findLock_eq_none _

theorem ExtentMap.lockBeginningAt_eq_some {m : ExtentMap} {i : Nat} : m.lockBeginningAt k f = some i ↔
    ∃ r, firstLock m.protect k (fun x => x.first = f) i r := findLock_eq_some _

theorem ExtentMap.lockBeginningAt_eq_none {m : ExtentMap} : m.lockBeginningAt k f = none ↔
    noLock m.protect k (fun x => x.first = f) := findLock_eq_none _

theorem ExtentMap.countAt_eq {m : ExtentMap} {i : Nat} {r : ProtectRange} (h : m.protect[i]? = some (some r)) :
    m.countAt i = r.count := by
  simp [ExtentMap.countAt, h]

/-- A range changed in its place, in the words of the statements. -/
theorem State.changePlace_eq {i : Nat} {r : ProtectRange} (h : s.xm.protect[i]? = some (some r))
    (g : ProtectRange → ProtectRange) :
    s.changePlace i g = { s with xm := { s.xm with protect := s.xm.protect.set i (some (g r)) } } := by
  simp only [State.changePlace, State.setMap, modify_place h]

/-- The 128 blocks of a completed write of a LOCKED clip (R67): the four cases of its table. -/
theorem State.updateLock_locks (order : s.clc.ordered) (k f : Nat) :
    s.LocksTo (s.updateLock k f) k (fun x => f ≤ x ∧ x < f + 128) := by
  have kept := (s.clc.marked_false k).symm
  unfold State.updateLock; split
  · next i j ends begins =>
    obtain ⟨r, at_i, r_lock, r_of, r_end, -⟩ := ExtentMap.lockEndingAt_eq_some.mp ends
    obtain ⟨q, at_j, q_lock, q_of, q_first, -⟩ := ExtentMap.lockBeginningAt_eq_some.mp begins
    have apart : i ≠ j := by
      rintro rfl
      cases at_i.symm.trans at_j
      simp only [Config.slotBlocks] at q_first
      omega
    rw [State.changePlace_eq at_i, ExtentMap.countAt_eq at_j]
    simp only [Config.slotBlocks] at q_first ⊢
    have joined : ∀ x, r.first ≤ x → x < q.first + q.count → locksBlock ((s.xm.protect.set i
        (some { r with count := r.count + (128 + q.count) })).set j none) k x := by
      intro x low high
      have at_i' : ((s.xm.protect.set i (some { r with count := r.count + (128 + q.count) })).set j none)[i]? =
          some (some { r with count := r.count + (128 + q.count) }) := by
        rw [List.getElem?_set_ne apart.symm, List.getElem?_set_self (List.getElem?_eq_some_iff.mp at_i).1]
      exact ⟨_, List.mem_of_getElem? at_i', r_lock, r_of, low, by simp only; omega⟩
    refine ⟨false, kept, fun clip x locks => ?_, fun _ x ⟨low, high⟩ => joined x (by omega) (by omega)⟩
    refine locksBlock.set (locks.lengthen at_i fun ⟨h1, h2, h3, h4⟩ => ⟨h1, h2, h3, by simp only; omega⟩) ?_
    rintro q' at_j' ⟨-, of, low, high⟩
    rw [List.getElem?_set_ne apart, at_j] at at_j'
    cases at_j'
    cases q_of.symm.trans of
    exact joined x (by omega) high
  · next i ends begins =>
    obtain ⟨r, at_i, r_lock, r_of, r_end, -⟩ := ExtentMap.lockEndingAt_eq_some.mp ends
    rw [State.changePlace_eq at_i]
    refine ⟨false, kept, fun clip x locks => locks.lengthen at_i ?_, fun _ x ⟨low, high⟩ => ?_⟩
    · rintro ⟨h1, h2, h3, h4⟩
      exact ⟨h1, h2, h3, by simp only [Config.slotBlocks]; omega⟩
    · refine locksBlock_set_self (List.getElem?_eq_some_iff.mp at_i).1 ⟨r_lock, r_of, ?_, ?_⟩
      · simp only; omega
      · simp only [Config.slotBlocks]; omega
  · next j ends begins =>
    obtain ⟨q, at_j, q_lock, q_of, q_first, -⟩ := ExtentMap.lockBeginningAt_eq_some.mp begins
    simp only [Config.slotBlocks] at q_first
    rw [State.changePlace_eq at_j]
    refine ⟨false, kept, fun clip x locks => locks.lengthen at_j ?_, fun _ x ⟨low, high⟩ => ?_⟩
    · rintro ⟨h1, h2, h3, h4⟩
      exact ⟨h1, h2, by simp only; omega, by simp only [Config.slotBlocks]; omega⟩
    · exact locksBlock_set_self (List.getElem?_eq_some_iff.mp at_j).1
        ⟨q_lock, q_of, low, by simp only [Config.slotBlocks]; omega⟩
  · exact State.addLock_locks order k f 128

end

end Sys2Proof.Machine
end

section
/-!
The twelfth law (R65 to R68) with the order of the clip numbers (R122, R123): what every operation of the part keeps. The
laws read the clip records, the next clip number and the protect table alone.
-/
set_option Elab.async false

namespace Sys2Proof.Machine

/-! ### Clip records -/

/-- q is r after a change that asks for no more LOCK ranges: it keeps its number, its ranges and its trailer, and it is
OPEN, LOCKED or free of LOCK PARTIAL only where r was. -/
structure ClipRecord.Eases (q r : ClipRecord) : Prop where
  number : q.number = r.number := by rfl
  ranges : q.ranges = r.ranges := by rfl
  trailer : q.trailerPosition = r.trailerPosition := by rfl
  opened : q.state = .opened → r.state = .opened := by simp
  locked : q.locked = true → r.locked = true := by simp
  whole : q.lockPartial = false → r.lockPartial = false := by simp

theorem ClipRecord.stamped_eases (r : ClipRecord) (o : Option Nat) : (r.stamped o).Eases r := by
  simp only [ClipRecord.stamped]; split
  · split <;> exact {}
  · exact {}

/-- A range list after a completed write at f holds the blocks it held and the 128 from f (R127). -/
theorem listRange_blocks {ranges l : List (Nat × Nat)} {f x : Nat} (h : listRange ranges f = some l) {g : Nat × Nat}
    (mem : g ∈ l) (inside : g.1 ≤ x ∧ x < g.1 + g.2) :
    (∃ g ∈ ranges, g.1 ≤ x ∧ x < g.1 + g.2) ∨ f ≤ x ∧ x < f + 128 := by
  unfold listRange at h
  split at h
  · next last ends =>
    have last_mem := List.mem_of_getLast? ends
    split at h
    · cases h
      rcases List.mem_append.mp mem with old | new
      · exact .inl ⟨g, List.mem_of_mem_dropLast old, inside⟩
      · cases List.mem_singleton.mp new
        simp only [Config.slotBlocks] at inside
        by_cases before : x < f
        · exact .inl ⟨last, last_mem, inside.1, by omega⟩
        · exact .inr ⟨by omega, by omega⟩
    · split at h
      · cases h
        rcases List.mem_append.mp mem with old | new
        · exact .inl ⟨g, old, inside⟩
        · cases List.mem_singleton.mp new
          exact .inr inside
      · cases h
  · cases h
    cases List.mem_singleton.mp mem
    exact .inr inside

theorem ClipRecord.completed_lists {r : ClipRecord} {f x : Nat} (h : (r.completed f).lists x) :
    r.lists x ∨ f ≤ x ∧ x < f + 128 := by
  unfold ClipRecord.completed at h; split at h
  · next l listed =>
    obtain ⟨g, mem, inside⟩ := h
    rcases List.mem_append.mp mem with ranges | trailer
    · rcases listRange_blocks listed ranges inside with ⟨g, old, inside⟩ | new
      · exact .inl ⟨g, List.mem_append_left _ old, inside⟩
      · exact .inr new
    · exact .inl ⟨g, List.mem_append_right _ trailer, inside⟩
  · exact .inl h

theorem ClipRecord.completed_fields (r : ClipRecord) (f : Nat) : (r.completed f).number = r.number ∧
    (r.completed f).state = r.state ∧ (r.completed f).locked = r.locked ∧ (r.completed f).lockPartial = r.lockPartial ∧
    (r.completed f).trailerPosition = r.trailerPosition := by
  unfold ClipRecord.completed; split <;> exact ⟨rfl, rfl, rfl, rfl, rfl⟩

variable {s t : State} {k n : Nat}

theorem State.modifyClip_clips (f : ClipRecord → ClipRecord) :
    (s.modifyClip k f).clc.clips = s.clc.clips.map (fun r => if r.number = k then f r else r) := rfl

/-- A change of the one record that a number names. -/
theorem State.modifyClip_unique {f : ClipRecord → ClipRecord} {r : ClipRecord} (order : s.clc.ordered)
    (mem : r ∈ s.clc.clips) : (s.modifyClip r.number f).clc.clips =
      s.clc.clips.map (fun q => if q.number = r.number then f r else q) := by
  refine List.map_congr_left fun q mem_q => ?_
  split
  · next same => rw [order.unique mem_q mem same]
  · rfl

/-- The change of a record, and its mark. -/
theorem State.modifyClip_marked {f : ClipRecord → ClipRecord} {r : ClipRecord} (order : s.clc.ordered)
    (mem : r ∈ s.clc.clips) (number : (f r).number = r.number) (partly : Bool) :
    (s.modifyClip r.number f).clc.marked r.number partly = { s.clc with clips := s.clc.clips.map (fun q =>
      if q.number = r.number then { f r with lockPartial := (f r).lockPartial || partly } else q) } := by
  rw [ClipController.marked, State.modifyClip_unique order mem, List.map_map]
  simp only [State.modifyClip, State.setRecorder]
  congr 1
  refine List.map_congr_left fun q _ => ?_
  by_cases same : q.number = r.number <;> simp [same, number]

theorem State.ordered_modifyClip {f : ClipRecord → ClipRecord} (order : s.clc.ordered) (number : ∀ r, (f r).number = r.number) :
    (s.modifyClip k f).clc.ordered := by
  have number : ∀ r : ClipRecord, (if r.number = k then f r else r).number = r.number := by
    intro r; split
    · exact number r
    · rfl
  refine List.pairwise_map.mpr (order.imp fun {a b} lt => ?_)
  rw [number, number]
  exact lt

/-! ### The extent table (R94, R96) -/

@[simp] theorem State.setExtents_xm (es : List Extent) : (s.setExtents es).xm = { s.xm with extents := es } := by
  simp only [State.setExtents]; split <;> rfl

@[simp] theorem State.consume_xm : s.consume.xm = { s.xm with extents := consumeHead s.xm.extents } :=
  State.setExtents_xm _

/-! ### Completed writes (R67, R127, R134) -/

/-- A completed data slot of a clip, up to the trailer test (R127). -/
def State.dataWritten (s : State) (r : ClipRecord) (f : Nat) : State :=
  ((s.modifyClip r.number (fun c => c.completed f)).forceSplitTest r f).lockWritten r f

theorem State.completeData_eq (r : ClipRecord) (slot f : Nat) :
    s.completeData r slot f = (s.dataWritten r f).completionTest slot := rfl

/-- A completed trailer of a clip, up to the trailer test (R134). -/
def State.trailerWritten (s : State) (r : ClipRecord) (f : Nat) : State :=
  (((s.modifyClip r.number (fun c => { c with trailerPosition := some f })).lockWritten r f).modifyClip r.number
    (fun c => { c with state := .closed })).post .clipClosed (.number r.number)

theorem State.completeTrailer_eq (r : ClipRecord) (slot f : Nat) :
    s.completeTrailer r slot f = (s.trailerWritten r f).completionTest slot := rfl

/-- The forced split that a range without a place makes due (R127). -/
theorem State.forceSplitTest_clc (r : ClipRecord) (f : Nat) : (s.forceSplitTest r f).clc = { s.clc with
    forcedSplitDue := s.clc.forcedSplitDue || decide ((listRange r.ranges f).isNone ∧ r.state = .opened) } := by
  unfold State.forceSplitTest; split
  · next due => simp only [decide_eq_true due, Bool.or_true]; rfl
  · next clear => simp only [decide_eq_false clear, Bool.or_false]

/-- The blocks of a completed write are handed to the protect table where the clip is LOCKED (R67). -/
theorem State.lockWritten_locks (r : ClipRecord) (f : Nat) (order : s.clc.ordered) :
    s.LocksTo (s.lockWritten r f) r.number (fun x => r.locked = true ∧ f ≤ x ∧ x < f + 128) := by
  unfold State.lockWritten; split
  · obtain ⟨partly, clc, grows, covers⟩ := State.updateLock_locks order r.number f
    exact ⟨partly, clc, grows, fun whole x ⟨_, inside⟩ => covers whole x inside⟩
  · next free => exact ⟨false, (s.clc.marked_false _).symm, fun _ _ => id, fun _ x ⟨locked, _⟩ => absurd locked free⟩

/-! ### The laws, and their rules -/

/-- The order of the clip numbers, and the twelfth law. -/
structure State.Guarded (s : State) : Prop where
  numbers : s.numbersOk
  locked : s.lockedOk

namespace State.Guarded

theorem order (h : s.Guarded) : s.clc.ordered := h.numbers.1

/-- The record of a clip number that is held. -/
theorem clip_mem {r : ClipRecord} (held : s.clc.clip k = some r) : r ∈ s.clc.clips ∧ r.number = k :=
  ⟨List.mem_of_find?_eq_some held, by simpa using List.find?_some held⟩

/-- The table may change where it keeps the blocks that it locks for the clips held. -/
theorem protect (h : s.Guarded) (clips : t.clc.clips = s.clc.clips) (next : t.clc.nextClip = s.clc.nextClip)
    (kept : ∀ r ∈ s.clc.clips, ∀ x, locksBlock s.xm.protect r.number x → locksBlock t.xm.protect r.number x) :
    t.Guarded := by
  refine ⟨by simpa only [State.numbersOk, clips, next] using h.numbers, State.lockedOk_iff.mpr ?_⟩
  rw [clips]
  exact fun r mem locked whole x listed => kept r mem x (State.lockedOk_iff.mp h.locked r mem locked whole x listed)

/-- An operation that leaves the clip records, the next number and the protect table as they were keeps the laws. -/
theorem same (h : s.Guarded) (clips : t.clc.clips = s.clc.clips := by simp)
    (next : t.clc.nextClip = s.clc.nextClip := by simp) (protect : t.xm.protect = s.xm.protect := by simp) :
    t.Guarded :=
  h.protect clips next fun r _ x => by rw [protect]; exact id

theorem setBuffer (h : s.Guarded) (f : SlotBuffer → SlotBuffer) : (s.setBuffer f).Guarded := h.same

theorem setSlot (h : s.Guarded) (n : Nat) (r : SlotRecord) : (s.setSlot n r).Guarded := h.same

theorem writeSlot (h : s.Guarded) (n offset : Nat) (bs : List Byte) : (s.writeSlot n offset bs).Guarded := h.same

theorem freeSlots (h : s.Guarded) (ns : List Nat) : (s.freeSlots ns).Guarded := h.same

theorem post (h : s.Guarded) (kind : NoticeKind) (value : NoticeValue) : (s.post kind value).Guarded := h.same

theorem count (h : s.Guarded) (k : Counter) : (s.count k).Guarded := h.same

theorem setWindowUnit (h : s.Guarded) (f : WindowUnit → WindowUnit) : (s.setWindowUnit f).Guarded := h.same

theorem setCard (h : s.Guarded) (f : CardPort → CardPort) : (s.setCard f).Guarded := h.same

/-- A change of the Clip Controller beside its records and the next number. -/
theorem setRecorder (h : s.Guarded) {f : ClipController → ClipController} (clips : (f s.clc).clips = s.clc.clips := by rfl)
    (next : (f s.clc).nextClip = s.clc.nextClip := by rfl) : (s.setRecorder f).Guarded := h.same clips next rfl

/-- A change of clip records that asks for no more LOCK ranges. -/
theorem modifyClip (h : s.Guarded) (k : Nat) {f : ClipRecord → ClipRecord} (eases : ∀ r, (f r).Eases r) :
    (s.modifyClip k f).Guarded := by
  have eases : ∀ r : ClipRecord, (if r.number = k then f r else r).Eases r := by
    intro r; split
    · exact eases r
    · exact { opened := id, locked := id, whole := id }
  obtain ⟨order, bounds, next⟩ := h.numbers
  refine ⟨⟨List.pairwise_map.mpr (order.imp fun {a b} lt => ?_), ?_, ?_⟩, State.lockedOk_iff.mpr ?_⟩
  · rw [(eases a).number, (eases b).number]
    exact lt
  · rintro _ changed
    obtain ⟨r, mem, rfl⟩ := List.mem_map.mp changed
    rw [(eases r).number, (eases r).trailer]
    obtain ⟨low, high, trailer⟩ := bounds r mem
    exact ⟨low, high, trailer ∘ (eases r).opened⟩
  · intro n free
    obtain ⟨low, high, later⟩ := next n free
    refine ⟨low, high, fun _ changed => ?_⟩
    obtain ⟨r, mem, rfl⟩ := List.mem_map.mp changed
    rw [(eases r).number]
    exact later r mem
  · rintro _ changed locked whole x listed
    obtain ⟨r, mem, rfl⟩ := List.mem_map.mp changed
    rw [(eases r).number]
    refine State.lockedOk_iff.mp h.locked r mem ((eases r).locked locked) ((eases r).whole whole) x ?_
    simpa only [ClipRecord.lists, (eases r).ranges, (eases r).trailer] using listed

/-- One record becomes another of its number, whose blocks the protect table locks. -/
theorem becomes (h : s.Guarded) {after : ClipRecord}
    (clips : t.clc.clips = s.clc.clips.map (fun q => if q.number = k then after else q))
    (next : t.clc.nextClip = s.clc.nextClip) (number : after.number = k)
    (others : ∀ clip x, clip ≠ k → locksBlock s.xm.protect clip x → locksBlock t.xm.protect clip x)
    (opened : after.state = .opened → after.trailerPosition = none)
    (locked : after.locked = true → after.lockPartial = false →
      ∀ x, after.lists x → locksBlock t.xm.protect k x) : t.Guarded := by
  have numbers : ∀ q : ClipRecord, (if q.number = k then after else q).number = q.number := by
    intro q; split
    · next e => exact number.trans e.symm
    · rfl
  obtain ⟨order, bounds, later⟩ := h.numbers
  refine ⟨⟨?_, ?_, ?_⟩, State.lockedOk_iff.mpr ?_⟩ <;> rw [clips]
  · refine List.pairwise_map.mpr (order.imp fun {a b} lt => ?_)
    rw [numbers, numbers]
    exact lt
  · rintro _ after_mem
    obtain ⟨q, q_mem, rfl⟩ := List.mem_map.mp after_mem
    obtain ⟨low, high, trailer⟩ := bounds q q_mem
    rw [numbers]
    refine ⟨low, high, ?_⟩
    split
    · exact opened
    · exact trailer
  · rw [next]
    intro n free
    obtain ⟨low, high, later⟩ := later n free
    refine ⟨low, high, fun _ after_mem => ?_⟩
    obtain ⟨q, q_mem, rfl⟩ := List.mem_map.mp after_mem
    rw [numbers]
    exact later q q_mem
  · rintro _ after_mem
    obtain ⟨q, q_mem, rfl⟩ := List.mem_map.mp after_mem
    by_cases same : q.number = k
    · rw [if_pos same, number]
      exact locked
    · rw [if_neg same]
      exact fun locked whole x listed =>
        others q.number x same (State.lockedOk_iff.mp h.locked q q_mem locked whole x listed)

/-- With no clip record the laws ask for the next number alone. -/
theorem of_empty (clips : s.clc.clips = []) (next : ∀ n, s.clc.nextClip = some n → 1 ≤ n ∧ n ≤ 4294967295) :
    s.Guarded := by
  refine ⟨⟨by simp [clips], by simp [clips], fun n free => ?_⟩, by simp [State.lockedOk, clips]⟩
  obtain ⟨low, high⟩ := next n free
  exact ⟨low, high, by simp [clips]⟩

/-- A clip opens with the next number and no range (R123). -/
theorem addClip (h : s.Guarded) (locked : Bool) : (s.addClip locked).Guarded := by
  unfold State.addClip; split
  · next n free =>
    obtain ⟨kept, sub, clips⟩ : ∃ kept : List ClipRecord, kept.Sublist s.clc.clips ∧
        (if 4 ≤ s.clc.clips.length then dropOldest s.clc.clips else s.clc.clips) = kept := by
      refine ⟨_, ?_, rfl⟩
      split
      · exact List.eraseP_sublist
      · exact List.Sublist.refl _
    obtain ⟨order, bounds, next⟩ := h.numbers
    obtain ⟨low, high, later⟩ := next n free
    simp only [State.setRecorder, clips]
    refine ⟨⟨?_, ?_, ?_⟩, State.lockedOk_iff.mpr ?_⟩
    · refine List.pairwise_append.mpr ⟨order.sublist sub, List.pairwise_singleton _ _, fun r mem q new => ?_⟩
      cases List.mem_singleton.mp new
      exact later r (sub.subset mem)
    · intro r mem
      rcases List.mem_append.mp mem with old | new
      · exact bounds r (sub.subset old)
      · cases List.mem_singleton.mp new
        exact ⟨low, high, fun _ => rfl⟩
    · intro m after
      obtain ⟨below, rfl⟩ : n < lim32 ∧ n + 1 = m := by simpa [numberAfter] using after
      simp only [lim32] at below
      refine ⟨by omega, by omega, fun r mem => ?_⟩
      rcases List.mem_append.mp mem with old | new
      · exact Nat.lt_succ_of_lt (later r (sub.subset old))
      · cases List.mem_singleton.mp new
        exact Nat.lt_succ_self n
    · intro r mem locked whole x listed
      rcases List.mem_append.mp mem with old | new
      · exact State.lockedOk_iff.mp h.locked r (sub.subset old) locked whole x listed
      · cases List.mem_singleton.mp new
        obtain ⟨g, mem, -⟩ := listed
        exact absurd mem (by simp [ClipRecord.fresh])
  · exact h


/-! ### The Slot Buffer (R73 to R81, R132) -/

theorem formTrailer (h : s.Guarded) (c : ClipRecord) (n : Nat) : (s.formTrailer c n).Guarded := by
  have powered : (s.powerQuarter n).Guarded := h.same
  exact State.Guarded.setBuffer (State.Guarded.modifyClip (((powered.setSlot n _).writeSlot n 0 _).writeSlot n 64 _)
    c.number fun _ => {}) _

theorem trailerTest (h : s.Guarded) : s.trailerTest.Guarded := by
  unfold State.trailerTest; split
  · exact h.formTrailer _ _
  · exact h

theorem release (h : s.Guarded) (ns : List Nat) : (s.release ns).Guarded := State.Guarded.trailerTest h.same

theorem stampSlot (h : s.Guarded) (n clip : Nat) (final : Bool) : (s.stampSlot n clip final).Guarded := by
  have stamped := fun r => ((h.setSlot n r).writeSlot n 0 (slotHeader r)).modifyClip clip
    fun c => c.stamped_eases (s.sb.slot n).firstSync
  dsimp only [State.stampSlot]
  exact (stamped _).setBuffer _

theorem sizeTest (h : s.Guarded) (clip : Nat) : (s.sizeTest clip).Guarded := by
  unfold State.sizeTest; split
  · split
    · exact h.same
    · exact h
  · exact h

theorem dropMember (h : s.Guarded) : s.dropMember.Guarded := by
  unfold State.dropMember; split
  · exact State.Guarded.release h.same _
  · exact h

theorem joinRing (h : s.Guarded) (n : Nat) : (s.joinRing n).Guarded := by
  unfold State.joinRing; split
  · exact h.dropMember.same
  · exact h.same

theorem closeSlot (h : s.Guarded) (clip : Option Nat) (final : Bool) : (s.closeSlot clip final).Guarded := by
  unfold State.closeSlot; split
  · exact h
  · next n _ =>
    have padded : ((s.padSlot n).setBuffer (fun b => { b with filling := none })).Guarded := h.same
    dsimp only; split
    · exact padded.joinRing n
    · split
      · exact (padded.stampSlot n _ final).sizeTest _
      · exact padded.release _

/-- The OPEN clip becomes CLOSING, and a new one opens (R130, R131). -/
theorem splitClip (h : s.Guarded) (old : Nat) : (s.splitClip old).Guarded :=
  State.Guarded.setRecorder (State.Guarded.addClip (State.Guarded.modifyClip h old fun _ => {}) false)

theorem closeFull (h : s.Guarded) : s.closeFull.Guarded := by
  unfold State.closeFull; split
  · exact (h.closeSlot _ true).splitClip _
  · exact h.closeSlot _ false

theorem makeRoom (h : s.Guarded) (k : Nat) : (State.makeRoom k s).Guarded := by
  induction k generalizing s with
  | zero => exact h
  | succ k ih =>
    simp only [State.makeRoom]; split
    · exact ih h.dropMember
    · exact h

theorem openFilling (h : s.Guarded) : s.openFilling.Guarded := by
  unfold State.openFilling State.fillLowest; split
  · exact State.Guarded.same (h.makeRoom s.sb.ring.length)
  · exact h.makeRoom _

theorem splitTest (h : s.Guarded) (split : Bool) : (s.splitTest split).Guarded := by
  unfold State.splitTest; split
  · exact h.trailerTest
  · exact h

theorem closeIfFull (h : s.Guarded) (n : Nat) : (s.closeIfFull n).Guarded := by
  unfold State.closeIfFull; split
  · exact h.closeFull.splitTest _
  · exact h

theorem appendOpen (h : s.Guarded) (kind : RecordKind) (flags : Byte) (sync : Bool) (payload : List Byte) :
    (s.appendOpen kind flags sync payload).1.Guarded := by
  have opened : (if s.sb.filling.isNone then s.openFilling else s).Guarded := by
    split
    · exact h.openFilling
    · exact h
  simp only [State.appendOpen]; split
  · exact opened.same
  · exact State.Guarded.closeIfFull opened.same _

theorem appendRecord (h : s.Guarded) (kind : RecordKind) (flags : Byte) (sync : Bool) (payload : List Byte) :
    (s.appendRecord kind flags sync payload).1.Guarded := by
  unfold State.appendRecord; split
  · exact (h.closeFull.appendOpen kind flags sync payload).splitTest _
  · exact h.appendOpen kind flags sync payload

theorem addGap (h : s.Guarded) (n : Nat) : (s.addGap n).Guarded := by
  unfold State.addGap; split
  · exact h.modifyClip _ fun _ => {}
  · exact h

theorem discardRecord (h : s.Guarded) : s.discardRecord.Guarded := State.Guarded.addGap h.same 1

theorem handRecord (h : s.Guarded) (kind : RecordKind) (payload : List Byte) : (s.handRecord kind payload).Guarded := by
  have appended := h.appendRecord kind 0 false payload
  simp only [State.handRecord]; split
  · exact appended
  · exact appended.discardRecord

theorem handVideo (h : s.Guarded) (sync frameEnd last gap : Bool) (payload : List Byte) :
    (s.handVideo sync frameEnd last gap payload).1.Guarded := by
  have appended := fun flags => h.appendRecord .video flags sync payload
  simp only [State.handVideo]; split
  · exact h.discardRecord
  · dsimp only; split
    · exact (appended _).setBuffer _
    · exact (appended _).discardRecord

theorem pumpRecords (h : s.Guarded) (k : Nat) : (State.pumpRecords k s).Guarded := by
  induction k generalizing s with
  | zero => exact h
  | succ k ih =>
    have appended := h.appendRecord .motion 0 false (motionPayload (s.me.queue.take 32))
    simp only [State.pumpRecords]; split
    · exact h
    · split
      · exact ih appended.same
      · exact appended

theorem pump (h : s.Guarded) : s.pump.Guarded := h.pumpRecords _

theorem retryMotion (h : s.Guarded) : s.retryMotion.Guarded := by
  unfold State.retryMotion; split
  · exact h
  · exact h.pump

theorem stampAll (h : s.Guarded) (clip : Nat) (ns : List Nat) : (s.stampAll clip ns).Guarded := by
  induction ns generalizing s with
  | nil => exact h
  | cons n ns ih => exact ih (h.stampSlot n clip false)

theorem prerollToClip (h : s.Guarded) (clip : Nat) : (s.prerollToClip clip).Guarded :=
  State.Guarded.stampAll (State.Guarded.release h.same _) clip _

/-! ### Starts and ends (R80, R81, R124 to R137) -/

theorem takePreroll (h : s.Guarded) (clip : Nat) : (s.takePreroll clip).Guarded := by
  unfold State.takePreroll; split
  · exact h.prerollToClip clip
  · exact (h.prerollToClip clip).retryMotion

theorem startClip (h : s.Guarded) (locked : Bool) : (s.startClip locked).Guarded := by
  unfold State.startClip; split
  · exact h
  · have opened : ((s.addClip locked).setRecorder (fun c => { c with
        mode := .recording, splitDue := false, forcedSplitDue := false })).Guarded := (h.addClip locked).same
    dsimp only; split
    · exact opened.takePreroll _
    · exact opened

theorem startRecord (h : s.Guarded) : s.startRecord.1.Guarded := by
  unfold State.startRecord; split
  · exact h
  · exact h.startClip false

theorem arm (h : s.Guarded) : s.arm.1.Guarded := by
  unfold State.arm; split
  · exact h
  · exact h.same

theorem freePreroll (h : s.Guarded) : s.freePreroll.Guarded := by
  simp only [State.freePreroll]
  exact State.Guarded.release h.same _

theorem disarmNow (h : s.Guarded) : s.disarmNow.Guarded := h.freePreroll.setRecorder

theorem disarm (h : s.Guarded) : s.disarm.1.Guarded := by
  unfold State.disarm; split
  · exact h.disarmNow
  · exact h
  · exact h

theorem endRecording (h : s.Guarded) (clip : Nat) (reason : EndReason) : (s.endRecording clip reason).Guarded :=
  State.Guarded.setRecorder (State.Guarded.same (t := State.dropMotion _) (h.modifyClip clip (f := fun r => { r with
    state := .closing, endReason := some reason }) fun _ => {}))

theorem finishClip (h : s.Guarded) (clip : Nat) : (s.finishClip clip).Guarded :=
  State.Guarded.trailerTest (State.Guarded.setBuffer (State.Guarded.setRecorder (State.Guarded.modifyClip
    (h.closeSlot (some clip) true) clip fun _ => {})) _)

theorem endDrain (h : s.Guarded) : s.endDrain.Guarded := by
  unfold State.endDrain; split
  · exact h.finishClip _
  · exact h

theorem startDrain (h : s.Guarded) (clip : Nat) : (s.startDrain clip).Guarded := by
  simp only [State.startDrain]; split
  · exact State.Guarded.endDrain h.same
  · exact h.same

theorem stopRecord (h : s.Guarded) : s.stopRecord.1.Guarded := by
  unfold State.stopRecord; split
  · exact h
  · split
    · split
      · exact (h.endRecording _ _).startDrain _
      · exact h
    · exact h

theorem startPowerClose (h : s.Guarded) (reason : PowerReason) : (s.startPowerClose reason).Guarded := by
  have closed : (s.closeForPower reason).Guarded := by
    unfold State.closeForPower; split
    · split
      · exact (h.endRecording _ _).finishClip _
      · exact h
    · exact h.disarmNow
    · exact h
  unfold State.startPowerClose; split
  · exact h
  · exact closed.same

theorem closeIfActive (h : s.Guarded) (reason : PowerReason) : (s.closeIfActive reason).Guarded := by
  unfold State.closeIfActive; split
  · exact h.startPowerClose reason
  · exact h

theorem powerCloseTest (h : s.Guarded) : s.powerCloseTest.Guarded := by
  unfold State.powerCloseTest; split
  · exact h.startPowerClose _
  · split
    · exact h.startPowerClose _
    · exact h

theorem enterStandby (h : s.Guarded) (reason : StandbyReason) : (s.enterStandby reason).Guarded :=
  State.Guarded.same (State.Guarded.endDrain (s := s.setSupply (fun m => { m with
    standby := .standby, reason := some reason })) h.same) (by simp [State.enterStandby]) (by simp [State.enterStandby])
    (by simp [State.enterStandby])

theorem endPowerClose (h : s.Guarded) : s.endPowerClose.Guarded := by
  unfold State.endPowerClose; split
  · exact h
  · split
    · dsimp only; split
      · exact State.Guarded.enterStandby h.same _
      · exact h.same
    · exact h

theorem checkPowerClose (h : s.Guarded) (old : State) : (s.checkPowerClose old).Guarded := by
  unfold State.checkPowerClose; split
  · exact h.endPowerClose
  · exact h

theorem abortNow (h : s.Guarded) (clip : Nat) : (s.abortNow clip).Guarded := by
  have abandoned : (s.abandonDrain clip).Guarded := by
    unfold State.abandonDrain; split
    · exact h.same
    · exact h
  have aborted : ∀ t : State, t.Guarded → ((t.modifyClip clip (fun r => { r with
      state := .aborted, endReason := some .abort })).post .clipAborted (.number clip)).trailerTest.Guarded :=
    fun t ht => State.Guarded.trailerTest (State.Guarded.post (ht.modifyClip clip fun _ => {}) _ _)
  simp only [State.abortNow]; split
  · exact aborted _ ((abandoned.setBuffer _).freeSlots _)
  · exact State.Guarded.retryMotion (aborted _ ((abandoned.setBuffer _).freeSlots _))

theorem abortClip (h : s.Guarded) (clip : Nat) : (s.abortClip clip).1.Guarded := by
  unfold State.abortClip; split
  · exact h
  · split
    · exact h
    · exact h
    · exact h
    · split
      · exact h
      · exact (h.abortNow clip).endPowerClose

theorem settleSplit (h : s.Guarded) (appended : Bool) : (s.settleSplit appended).Guarded := by
  unfold State.settleSplit; split
  · exact h.modifyClip _ fun _ => {}
  · exact h

theorem recordCell (h : s.Guarded) (gap : Nat) (sync frameEnd last : Bool) (payload : List Byte) :
    (s.recordCell gap sync frameEnd last payload).Guarded := by
  unfold State.recordCell; split
  · exact (((((h.closeSlot _ true).splitClip _).addGap gap).handVideo _ _ _ _ _).settleSplit _).trailerTest
  · exact (h.addGap gap).handVideo _ _ _ _ _

theorem placeCell (h : s.Guarded) (gap : Nat) (sync frameEnd last : Bool) (payload : List Byte) :
    (s.placeCell gap sync frameEnd last payload).Guarded := by
  have drained := (h.addGap gap).handVideo sync frameEnd last (decide (0 < gap)) payload
  unfold State.placeCell; split
  · exact h.recordCell _ _ _ _ _
  · exact h.handVideo _ _ _ _ _
  · split
    · dsimp only; split
      · exact drained.endDrain
      · exact drained
    · exact h.same

theorem takeClipCell (h : s.Guarded) (flags : Byte) (sequence : BitVec 16) (payload : List Byte) :
    (s.takeClipCell flags sequence payload).Guarded := by
  unfold State.takeClipCell; split
  · exact State.Guarded.placeCell h.same _ _ _ _ _
  · exact h.same

theorem loadRecorder (h : s.Guarded) (fields : List Byte) : (s.loadRecorder fields).1.Guarded := by
  unfold State.loadRecorder; split
  · exact h
  · split
    · exact h.same
    · exact h

/-! ### The protect table (R65 to R68, R100, R101) -/

/-- A place that is empty takes a range. -/
theorem fillPlace (h : s.Guarded) {i : Nat} (empty : s.xm.protect[i]? = some none) (r : Option ProtectRange) :
    (s.setPlace i r).Guarded :=
  h.protect rfl rfl fun _ _ _ locks => locks.set fun _ at_i _ => nomatch empty.symm.trans at_i

theorem addProtect (h : s.Guarded) (f n : Nat) : (s.addProtect f n).1.Guarded := by
  unfold State.addProtect; split
  · exact h
  · split
    · exact h
    · next i place =>
      split
      · exact h
      · exact h.fillPlace (ExtentMap.emptyPlace_eq_some.mp place).1 _

/-- A place is emptied that holds no LOCK range of a clip that is held. -/
theorem emptyPlace (h : s.Guarded) {i : Nat} {p : ProtectRange} (at_i : s.xm.protect[i]? = some (some p))
    (free : ∀ r ∈ s.clc.clips, p.origin = .lock → p.clip ≠ some r.number) : (s.setPlace i none).Guarded := by
  refine h.protect rfl rfl fun r mem x locks => locks.set fun q at_q ⟨origin, of, _⟩ => ?_
  cases at_i.symm.trans at_q
  exact absurd of (free r mem origin)

/-- A LOCK range is removed with the clip's LOCKED flag, or where its clip is no longer held (R68). -/
theorem removeLock (h : s.Guarded) {i : Nat} {p : ProtectRange} (at_i : s.xm.protect[i]? = some (some p))
    (of : p.clip = some k) : (s.removeLock i k).1.Guarded := by
  unfold State.removeLock; split
  · next r held =>
    obtain ⟨mem, rfl⟩ := clip_mem held
    split
    · exact h
    · refine h.becomes (after := { r with locked := false }) (k := r.number) ?_ rfl rfl (fun clip x other locks => ?_)
        (h.numbers.2.1 r mem).2.2 nofun
      · exact State.modifyClip_unique (f := fun q => { q with locked := false }) h.order mem
      · refine locks.set fun q at_q ⟨_, other_of, _⟩ => ?_
        cases at_i.symm.trans at_q
        cases of.symm.trans other_of
        exact absurd rfl other
  · next gone =>
    refine h.emptyPlace at_i fun r mem _ held => ?_
    cases of.symm.trans held
    exact ClipController.clip_eq_none.mp gone r mem rfl

theorem removeProtect (h : s.Guarded) (i : Nat) : (s.removeProtect i).1.Guarded := by
  unfold State.removeProtect; split
  · next p at_i =>
    split
    · next of => exact h.removeLock at_i of
    · next loaded =>
      refine h.emptyPlace at_i fun r _ lock of => ?_
      exact loaded r.number lock of
  · exact h

/-- The OPEN clip is LOCKED: its ranges enter the table, or it is LOCK PARTIAL (R65, R66). -/
theorem lockClip (h : s.Guarded) {r : ClipRecord} (opened : s.clc.openClip = some r) : (s.lockClip r).Guarded := by
  have mem := List.mem_of_find?_eq_some opened
  have state : r.state = .opened := by simpa using List.find?_some opened
  have noTrailer := (h.numbers.2.1 r mem).2.2 state
  obtain ⟨partly, clc, grows, locked⟩ := State.addLocks_locks (s := s.modifyClip r.number (fun c => { c with
    locked := true })) r.number r.ranges (State.ordered_modifyClip h.order fun _ => rfl)
  rw [State.modifyClip_marked (f := fun c => { c with locked := true }) h.order mem rfl] at clc
  refine h.becomes (after := { r with locked := true, lockPartial := r.lockPartial || partly })
    (congrArg (·.clips) clc) (congrArg (·.nextClip) clc) rfl (fun clip x _ => grows clip x)
    (fun _ => noTrailer) fun _ whole x ⟨g, listed, inside⟩ => locked (Bool.or_eq_false_iff.mp whole).2 x ⟨g, ?_, inside⟩
  simpa [noTrailer] using listed

/-! ### Completed writes (R67, R127, R134) -/

theorem dataWritten (h : s.Guarded) {r : ClipRecord} (mem : r ∈ s.clc.clips) (f : Nat) : (s.dataWritten r f).Guarded := by
  obtain ⟨number, state, r_locked, r_partial, trailer⟩ := r.completed_fields f
  obtain ⟨partly, clc, grows, covers⟩ := State.lockWritten_locks (s := (s.modifyClip r.number (fun c =>
    c.completed f)).forceSplitTest r f) r f
    (by rw [State.forceSplitTest_clc]; exact State.ordered_modifyClip h.order fun q => (q.completed_fields f).1)
  have changed := State.modifyClip_marked (f := fun c => c.completed f) h.order mem number partly
  rw [State.forceSplitTest_clc] at clc
  simp only [State.forceSplitTest_frame, State.modifyClip_xm] at grows
  refine h.becomes (k := r.number) (after := { r.completed f with lockPartial := (r.completed f).lockPartial || partly })
    ((congrArg (·.clips) clc).trans (congrArg (·.clips) changed)) (congrArg (·.nextClip) clc) number
    (fun clip x _ => grows clip x) (fun opened => ?_) fun locked whole x listed => ?_
  · exact trailer.trans ((h.numbers.2.1 r mem).2.2 (state.symm.trans opened))
  · obtain ⟨whole, added⟩ := Bool.or_eq_false_iff.mp whole
    rw [r_locked] at locked
    rcases ClipRecord.completed_lists listed with old | new
    · exact grows _ x (State.lockedOk_iff.mp h.locked r mem locked (r_partial.symm.trans whole) x old)
    · exact covers added x ⟨locked, new⟩

theorem trailerWritten (h : s.Guarded) {r : ClipRecord} (mem : r ∈ s.clc.clips) (f : Nat) :
    (s.trailerWritten r f).Guarded := by
  obtain ⟨partly, clc, grows, covers⟩ := State.lockWritten_locks (s := s.modifyClip r.number (fun c => { c with
    trailerPosition := some f })) r f (State.ordered_modifyClip h.order fun _ => rfl)
  rw [State.modifyClip_marked (f := fun c => { c with trailerPosition := some f }) h.order mem rfl] at clc
  refine h.becomes (k := r.number) (after := { r with
    trailerPosition := some f, state := .closed, lockPartial := r.lockPartial || partly }) ?_
    (congrArg (·.nextClip) clc) rfl (fun clip x _ => grows clip x) nofun fun locked whole x listed => ?_
  · simp only [State.trailerWritten, State.post_clc, State.modifyClip_clips, clc, List.map_map]
    refine List.map_congr_left fun q _ => ?_
    by_cases same : q.number = r.number <;> simp [same]
  · obtain ⟨whole, added⟩ := Bool.or_eq_false_iff.mp whole
    obtain ⟨g, listed, inside⟩ := listed
    rcases List.mem_append.mp listed with ranges | trailer
    · exact grows _ x (State.lockedOk_iff.mp h.locked r mem locked whole x
        ⟨g, List.mem_append_left _ ranges, inside⟩)
    · cases List.mem_singleton.mp trailer
      exact covers added x ⟨locked, inside⟩

theorem completionTest (h : s.Guarded) (slot : Nat) : (s.completionTest slot).Guarded := by
  unfold State.completionTest; split
  · exact h.formTrailer _ _
  · exact (h.freeSlots _).retryMotion

theorem completeWrite (h : s.Guarded) (slot f : Nat) : (s.completeWrite slot f).Guarded := by
  unfold State.completeWrite; split
  · next r held =>
    obtain ⟨mem, -⟩ := clip_mem held
    split
    · exact (h.trailerWritten mem f).completionTest slot
    · exact (h.dataWritten mem f).completionTest slot
  · exact h.completionTest slot

/-! ### The Card Port (R86, R87, R110 to R120) -/

theorem readBlock (h : s.Guarded) (n : Nat) (ecc : EccRead) : (s.readBlock n ecc).Guarded := by
  have counted : (s.countBy .eccCorrected ecc.corrected).Guarded := h.same
  unfold State.readBlock State.markDamaged; dsimp only; split
  · split
    · exact counted
    · exact State.Guarded.modifyClip ((counted.setSlot n _).count _) _ fun _ => {}
  · exact counted

theorem beginAttempt (h : s.Guarded) (w : SlotWrite) (ecc : EccRead) : (s.beginAttempt w ecc).Guarded :=
  State.Guarded.readBlock h.same _ _

theorem takeSlot (h : s.Guarded) (w : SlotWrite) (ecc : EccRead) : (s.takeSlot w ecc).Guarded := by
  unfold State.takeSlot; split
  · exact h.setCard _
  · exact State.Guarded.beginAttempt ((h.setSlot _ _).setBuffer _) _ _

theorem writeStarts (h : s.Guarded) (ecc : EccRead) : (s.writeStarts ecc).Guarded := by
  unfold State.writeStarts State.startWrite; split
  · split
    · exact h.same
    · dsimp only; split
      · exact State.Guarded.takeSlot (h.setCard _) _ _
      · exact h.same
  · exact h

theorem takeGradeAnswer (h : s.Guarded) (ecc : EccRead) : (s.takeGradeAnswer ecc).Guarded := by
  unfold State.takeGradeAnswer State.gradeSet; split
  · exact h.same
  · split
    · split
      · exact State.Guarded.takeSlot (h.setCard _) _ _
      · exact h
    · exact h

theorem takeBlockAnswer (h : s.Guarded) (result : BlockResult) (ecc : EccRead) :
    (s.takeBlockAnswer result ecc).Guarded := by
  unfold State.takeBlockAnswer; split
  · cases result with
    | accepted =>
      simp only [State.blockAccepted]; split
      · exact State.Guarded.readBlock h.same _ _
      · exact h.same
    | checkError => exact h.same
    | writeError => exact h.same
  · exact h

theorem declareFailed (h : s.Guarded) : s.declareFailed.Guarded := by
  refine h.same (by simp) (by simp) ?_
  simp only [State.declareFailed]; split <;> simp

theorem giveBack (h : s.Guarded) (n : Nat) : (s.giveBack n).Guarded := h.same

theorem noExtent (h : s.Guarded) (clip : Nat) : (s.noExtent clip).Guarded := h.same

theorem consume (h : s.Guarded) : s.consume.Guarded := h.same

theorem skipPosition (h : s.Guarded) (w : SlotWrite) (ecc : EccRead) : (s.skipPosition w ecc).Guarded := by
  have skipped : ∀ n, ((s.consume.modifyClip n (fun r => { r with
      skippedRanges := raise lim32 r.skippedRanges 1 })).count .cardSkips).Guarded := fun n =>
    State.Guarded.count (h.consume.modifyClip n fun _ => {}) _
  simp only [State.skipPosition]; split
  · exact (skipped _).beginAttempt _ _
  · exact ((skipped _).giveBack _).noExtent _

theorem afterStop (h : s.Guarded) (w : SlotWrite) (ecc : EccRead) : (s.afterStop w ecc).Guarded := by
  have ready : (s.setCard (fun c => { c with card := .ready, wait := none })).Guarded := h.setCard _
  simp only [State.afterStop]; split
  · exact ready.beginAttempt _ _
  · split
    · exact ready.skipPosition _ _
    · exact ready.declareFailed

theorem takeReady (h : s.Guarded) (moment : ReportMoment) (ecc : EccRead) : (s.takeReady moment ecc).Guarded := by
  have succeeded : ∀ w, (s.writeSucceeds w).Guarded := fun w =>
    State.Guarded.setCard (State.Guarded.completeWrite h.same _ _) _
  unfold State.takeReady State.finishWrite; split
  · split
    · split
      · exact (succeeded _).endPowerClose
      · exact succeeded _
    · split
      · exact h.afterStop _ _
      · exact h
  · exact h

theorem stopExpires (h : s.Guarded) : s.stopExpires.Guarded := by
  unfold State.stopExpires; split
  · exact State.Guarded.declareFailed h.same
  · exact h

theorem gradeExpires (h : s.Guarded) : s.gradeExpires.Guarded := by
  unfold State.gradeExpires; split
  · exact h.same
  · split
    · exact State.Guarded.declareFailed h.same
    · exact h

theorem detectReleases (h : s.Guarded) : s.detectReleases.Guarded := by
  have removed : ∀ t : State, t.Guarded → t.removeCard.Guarded := by
    intro t ht
    refine ht.same (by simp) (by simp) ?_
    unfold State.removeCard; split <;> simp
  unfold State.detectReleases State.releaseDetect; split
  · split
    · dsimp only; split
      · exact h.same
      · exact removed _ h.same
    · exact h
  · exact h

theorem append (h : s.Guarded) (f n : Nat) : (s.append f n).1.Guarded := by
  have added : (s.setExtents (s.xm.extents ++ [⟨f, n, 0⟩])).Guarded := h.same
  unfold State.append; split
  · exact h
  · dsimp only; split
    · unfold State.endNoExtent; split
      · exact added.setCard _
      · exact added
    · exact added

theorem clearExtents (h : s.Guarded) : s.clearExtents.1.Guarded := by
  unfold State.clearExtents; split
  · exact h
  · exact h.same

/-! ### A SHOCK (R61 to R65) -/

theorem shockAction (h : s.Guarded) : s.shockAction.1.Guarded := by
  unfold State.shockAction; split
  · exact h
  · split
    · split
      · exact h
      · exact h.startClip true
    · exact h
  · split
    · next r opened =>
      split
      · exact h
      · exact h.lockClip opened
    · exact h

theorem testShock (h : s.Guarded) (x : Sample) : (s.testShock x).Guarded := by
  cases shock : (s.me.detector.test s.me.table x.magnitude).2 with
  | none =>
    rw [State.testShock_none shock]
    exact h.same
  | some raised =>
    obtain ⟨v, hv⟩ := State.testShock_some shock
    have marked : ((s.struck x).markShock raised.1 raised.2).Guarded := by
      unfold State.markShock; split
      · exact h.same
      · exact State.Guarded.handRecord h.same _ _
    rw [hv]
    exact marked.shockAction.post _ _

theorem queueSample (h : s.Guarded) (x : Sample) (substitute : Bool) : (s.queueSample x substitute).Guarded := by
  unfold State.queueSample; split
  · exact h
  · exact State.Guarded.pump h.same

theorem takeSample (h : s.Guarded) (bytes : Burst) : (s.takeSample bytes).Guarded := by
  unfold State.takeSample; split
  · exact h
  · exact State.Guarded.testShock (State.Guarded.queueSample (s := State.goodSample _ _) h.same _ _) _

theorem takeGap (h : s.Guarded) : s.takeGap.Guarded := by
  unfold State.takeGap; split
  · exact h
  · exact State.Guarded.queueSample (s := State.substituteSample _ _) h.same _ _

/-! ### Frames (R51, R53) -/

theorem handFrame (h : s.Guarded) (f : FrameRecord) : (s.handFrame f).Guarded := by
  unfold State.handFrame; split
  · exact h
  · exact h.handRecord _ _

theorem endFrame (h : s.Guarded) (forced : Bool) : (s.endFrame forced).Guarded := by
  unfold State.endFrame State.closeFrame; split
  · exact h.same
  · exact State.Guarded.setWindowUnit (State.Guarded.handFrame h.same _) _

theorem takeFrameStart (h : s.Guarded) : s.takeFrameStart.Guarded := by
  have closed : (if s.sp.frameOpen then s.endFrame true else s).Guarded := by
    split
    · exact h.endFrame true
    · exact h
  unfold State.takeFrameStart; split
  · exact closed.same
  · exact h

theorem takeFrameEnd (h : s.Guarded) : s.takeFrameEnd.Guarded := by
  unfold State.takeFrameEnd; split
  · exact h.endFrame false
  · exact h

/-! ### The sweep, standby, wake and RESTART (R137, R142 to R167, R177) -/

theorem classifyBattery (h : s.Guarded) (r : Readings) : (s.classifyBattery r).Guarded := by
  have moved : ∀ t : State, t.Guarded → ∀ o v, (t.batteryMoved o v).Guarded := by
    intro t ht o v
    unfold State.batteryMoved; split
    · exact ht.post _ _
    · exact (ht.post _ _).closeIfActive _
    · exact (ht.post _ _).closeIfActive _
    · exact ht
  exact moved _ h.same _ _

theorem classifyDie (h : s.Guarded) (r : Readings) : (s.classifyDie r).Guarded := by
  have moved : ∀ t : State, t.Guarded → ∀ o, (t.dieMoved o).Guarded := by
    intro t ht o
    unfold State.dieMoved; split
    · exact ht
    · split
      · exact (ht.post _ _).closeIfActive _
      · exact ht.post _ _
  exact moved _ h.same _

theorem powerOn (b : Bool) (q : List Instr) : (State.powerOn b q).Guarded :=
  of_empty rfl fun n first => by cases first; decide

theorem takeSweep (h : s.Guarded) (r : Readings) : (s.takeSweep r).Guarded := by
  have head : (s.sweepHead (clampReadings r)).Guarded :=
    State.Guarded.classifyDie (State.Guarded.classifyBattery h.same _) _
  unfold State.takeSweep State.sweepWith State.endSweep; split
  · exact (powerOn s.cp.rawDetect s.pending).same rfl rfl rfl
  · exact State.Guarded.checkPowerClose head.same s

theorem takeSweepIf (h : s.Guarded) (happens : Bool) (r : Readings) : (s.takeSweepIf happens r).Guarded := by
  unfold State.takeSweepIf; split
  · exact h.takeSweep r
  · exact h

theorem wakeExpires (h : s.Guarded) : s.wakeExpires.Guarded := by
  unfold State.wakeExpires; split
  · exact State.Guarded.checkPowerClose (State.Guarded.powerCloseTest (s := State.runStreams _) h.same) s
  · exact h

theorem standbyCommand (h : s.Guarded) : s.standbyCommand.1.Guarded := by
  unfold State.standbyCommand; split
  · split
    · exact (h.enterStandby _).endPowerClose
    · exact h
  · exact h
  · exact h

theorem drainExpires (h : s.Guarded) : s.drainExpires.Guarded := by
  unfold State.drainExpires; split
  · exact State.Guarded.endPowerClose (State.Guarded.endDrain h.same)
  · exact h

theorem restart (h : s.Guarded) : s.restart.1.Guarded := by
  unfold State.restart; split
  · exact h
  · have recorder : s.restartNow.clc = s.clc.restarted := by simp [State.restartNow, State.restartBlocks]
    exact of_empty (by rw [recorder]; rfl) fun n next => by
      rw [recorder] at next
      obtain ⟨low, high, -⟩ := h.numbers.2.2 n next
      exact ⟨low, high⟩

/-! ### Commands and steps -/

/-- A CONTROL cell keeps the laws where its block does. -/
theorem control (h : s.Guarded) {tag code : Byte} {ok query : Bool} {body : State → State × CommandResult}
    (kept : (body s).1.Guarded) : (s.control tag code ok query body).Guarded := by
  rcases s.control_cases tag code ok query body with ⟨-, e⟩ | ⟨-, -, e⟩ | ⟨-, -, -, -, e⟩ | ⟨-, -, -, e⟩ <;> rw [e]
  · exact h.same
  · exact h.same
  · exact h.same
  · exact kept.same

theorem takeUnknown (h : s.Guarded) (tag code : Byte) (params : List Byte) : (s.takeUnknown tag code params).Guarded := by
  unfold State.takeUnknown; split
  · exact h.control h
  · split
    · exact h.control h
    · split
      · exact h.control h
      · exact h

theorem takeRestart (h : s.Guarded) (tag : Byte) (params : List Byte) : (s.takeRestart tag params).Guarded := by
  have taken := h.control (tag := tag) (code := 0x13) (ok := decide (params.length = 0)) (query := false) h.restart
  simp only [State.takeRestart]; split
  · exact State.Guarded.endPowerClose (State.Guarded.powerCloseTest taken.same)
  · exact taken

/-- An event keeps the laws where its effect does; a dark part takes nothing. -/
theorem event (h : s.Guarded) {f : State → State} (e : s.take f = .next t) (kept : (f s).Guarded) : t.Guarded := by
  rcases s.take_cases f with ⟨-, d⟩ | ⟨-, d⟩ <;> rw [d] at e <;> cases e
  · exact kept.same
  · exact h

/-- A command keeps the laws where its block does. -/
theorem command (h : s.Guarded) {tag code : Byte} {ok query : Bool} {body : State → State × CommandResult}
    (e : s.take (fun u => u.control tag code ok query body) = .next t) (kept : (body s).1.Guarded) : t.Guarded :=
  h.event e (h.control kept)

/-- Every command keeps the order of the clip numbers and the twelfth law. -/
theorem exec {i : Instr} (h : s.Guarded) (e : exec i s = .next t) : t.Guarded := by
  cases i with
  | powerOn b => cases e; exact powerOn b s.pending
  | sampleArrival bytes => exact h.event (f := fun u => u.takeSample bytes) e (h.takeSample bytes)
  | gapExpiry => exact h.event e h.takeGap
  | frameStart => exact h.event e h.takeFrameStart
  | frameEnd => exact h.event e h.takeFrameEnd
  | clipCell flags sequence payload => exact h.event e ((h.takeClipCell flags sequence payload).checkPowerClose s)
  | drainTimeout => exact h.event e h.drainExpires
  | unknownCommand tag code params =>
    exact h.event (f := fun u => u.takeUnknown tag code params) e (h.takeUnknown tag code params)
  | loadTableRecorder tag fields => exact h.command e (h.loadRecorder fields)
  | appendExtent tag params => exact h.command e (h.append _ _)
  | clearExtents tag params => exact h.command e h.clearExtents
  | addProtect tag params => exact h.command e (h.addProtect _ _)
  | removeProtect tag params => exact h.command e (h.removeProtect _)
  | arm tag params => exact h.command e h.arm
  | disarm tag params => exact h.command e h.disarm
  | startRecord tag params => exact h.command e h.startRecord
  | stopRecord tag params => exact h.command e h.stopRecord
  | abortClip tag params => exact h.command e (h.abortClip _)
  | standby tag params => exact h.command e h.standbyCommand
  | restart tag params => exact h.event (f := fun u => u.takeRestart tag params) e (h.takeRestart tag params)
  | setGradeAnswer ecc => exact h.event (f := fun u => u.takeGradeAnswer ecc) e (h.takeGradeAnswer ecc)
  | slotWriteStart ecc => exact h.event (f := fun u => u.writeStarts ecc) e (h.writeStarts ecc)
  | blockAnswer result ecc => exact h.event (f := fun u => u.takeBlockAnswer result ecc) e (h.takeBlockAnswer result ecc)
  | readyReport report =>
    exact h.event (f := fun u => u.takeReady report.moment report.ecc) e (h.takeReady _ _)
  | stopTimeout => exact h.event e h.stopExpires
  | setGradeTimeout => exact h.event e h.gradeExpires
  | detectReleased => exact h.event e h.detectReleases
  | sweep readings => exact h.event (f := fun u => u.takeSweep readings) e (h.takeSweep readings)
  | qualifyEnd readings => exact h.event e (h.takeSweepIf _ readings)
  | terminationCountReached readings => exact h.event e (h.takeSweepIf _ readings)
  | safetyTimerExpiry readings => exact h.event e (h.takeSweepIf _ readings)
  | criticalCountReached readings => exact h.event e (h.takeSweepIf _ readings)
  | wakeTimerExpiry => exact h.event e h.wakeExpires
  | dataReady | cellSent | detectLineChange | detectAsserted | resetWaitExpiry | identifyTimeout | blockAnswerTimeout
  | busyTimerExpiry =>
    exact h.event e h.same
  | line index pixels => exact h.event (f := fun u => u.takeLine index pixels) e h.same
  | cellBadCheck => exact h.event (f := fun u => u.count .cellsBadCheck) e h.same
  | identifyAnswer answer => exact h.event (f := fun u => u.takeIdentify answer) e h.same
  | loadTableMotion | loadTableLens | loadTableWindow | loadTableProfile | setCardGrade
  | setInputLimit | chargeReset | wake | clearCounters =>
    exact h.command e h.same
  | setTime tag params => exact h.command e (h.same rfl rfl rfl)
  | queryStatus | queryClip | queryExtents | queryProtect | queryCounters | queryTable => exact h.command e h

end State.Guarded

end Sys2Proof.Machine

open Sys2Proof.Machine

/-- Settles O15: a completed write and a SHOCK hand their blocks to the protect table or mark the clip LOCK PARTIAL
(`State.updateLock_locks`, `State.addLocks_locks`), and no other operation asks for more LOCK ranges
(`State.Guarded.exec`). -/
theorem lockedClipsStayProtected : Obligations.LockedClipsStayProtected := by
  intro s t numbers locked e
  have h : s.Guarded := ⟨numbers, locked⟩
  suffices t.Guarded from ⟨this.numbers, this.locked⟩
  unfold step at e; split at e
  · next c rest _ =>
    have popped : State.Guarded { s with pending := rest } := h.same rfl rfl rfl
    exact popped.exec e
  · cases e
    unfold State.idle; split
    · exact h.same
    · exact h
end

section
/-!
The shock detector (R58, R59): one sample that is over or under, and a run of them.
-/
set_option Elab.async false

namespace Sys2Proof.Machine

/-! ### One tested sample -/

section
variable {d : Detector} {T : MotionTable} {m : Nat}

/-- A sample is over the threshold (R58). -/
def MotionTable.isOver (T : MotionTable) (m : Nat) : Prop := T.shockThreshold ^ 2 < m

theorem MotionTable.isOver_iff : T.isOver m ↔ T.shockThreshold * T.shockThreshold < m := by
  rw [MotionTable.isOver, Nat.pow_two]

/-- An over sample while QUIET lengthens the run, and the last of the run raises a SHOCK (R58). -/
theorem Detector.test_quiet_over (quiet : d.raised = false) (high : T.isOver m) : d.test T m =
    if T.shockCount ≤ raise 15 d.run 1 then
      (⟨true, 0, if d.run = 0 then m else max d.peak m⟩, some (if d.run = 0 then m else max d.peak m, raise 15 d.run 1))
    else (⟨false, raise 15 d.run 1, if d.run = 0 then m else max d.peak m⟩, none) := by
  simp [Detector.test, quiet, MotionTable.isOver_iff.mp high]

/-- An under sample while QUIET empties the run (R58). -/
theorem Detector.test_quiet_under (quiet : d.raised = false) (low : ¬T.isOver m) :
    d.test T m = (Detector.quiet, none) := by
  simp [Detector.test, quiet, mt MotionTable.isOver_iff.mpr low]

/-- An over sample while RAISED starts the count of under samples again (R59). -/
theorem Detector.test_raised_over (raised : d.raised = true) (high : T.isOver m) :
    d.test T m = ({ d with run := 0 }, none) := by
  simp [Detector.test, raised, MotionTable.isOver_iff.mp high]

/-- An under sample while RAISED is counted, and the last of its run makes the detector QUIET (R59). -/
theorem Detector.test_raised_under (raised : d.raised = true) (low : ¬T.isOver m) : d.test T m =
    if T.shockCount ≤ raise 15 d.run 1 then (Detector.quiet, none) else ({ d with run := raise 15 d.run 1 }, none) := by
  simp [Detector.test, raised, mt MotionTable.isOver_iff.mpr low]

/-- An under sample raises no SHOCK (R58, R59). -/
theorem Detector.test_under_silent (low : ¬T.isOver m) : (d.test T m).2 = none := by
  by_cases raised : d.raised = true
  · rw [Detector.test_raised_under raised low]; split <;> rfl
  · rw [Detector.test_quiet_under (by simpa using raised) low]

end

/-! ### A run of samples -/

/-- The detector after samples tested one after another, and the SHOCK the last of them raises. -/
def Detector.testAll (d : Detector) (T : MotionTable) (ms : List Nat) : Detector × Option (Nat × Nat) :=
  ms.foldl (fun r x => r.1.test T x) (d, none)

section
variable {d : Detector} {T : MotionTable} {ms : List Nat} {m : Nat}

theorem Detector.testAll_append_singleton :
    d.testAll T (ms ++ [m]) = (d.testAll T ms).1.test T m := by
  simp [Detector.testAll]

/-- Fewer over samples than N from a QUIET detector make a run of them, with their peak (R58). -/
theorem Detector.testAll_over (limit : T.shockCount ≤ 15) (high : ∀ x ∈ ms, T.isOver x)
    (short : ms.length < T.shockCount) : Detector.quiet.testAll T ms = (⟨false, ms.length, ms.foldl max 0⟩, none) := by
  induction ms using List.reverseRecOn with
  | nil => rfl
  | append_singleton ms m ih =>
    rw [List.length_append, List.length_singleton] at short
    have before := ih (fun x mem => high x (List.mem_append_left _ mem)) (by omega)
    have run : raise 15 ms.length 1 = ms.length + 1 := by simp only [raise]; omega
    have peak : (if ms.length = 0 then m else max (ms.foldl max 0) m) = (ms ++ [m]).foldl max 0 := by
      cases ms <;> simp
    rw [Detector.testAll_append_singleton, before, Detector.test_quiet_over rfl (high m (by simp))]
    simp only [run, peak, if_neg (Nat.not_le.mpr short), List.length_append, List.length_singleton]

/-- The N-th over sample in a row raises the SHOCK (R58). -/
theorem Detector.testAll_raises (limit : T.shockCount ≤ 15) (high : ∀ x ∈ ms ++ [m], T.isOver x)
    (full : ms.length + 1 = T.shockCount) : Detector.quiet.testAll T (ms ++ [m]) =
      (⟨true, 0, (ms ++ [m]).foldl max 0⟩, some ((ms ++ [m]).foldl max 0, T.shockCount)) := by
  have before := Detector.testAll_over limit (fun x mem => high x (List.mem_append_left _ mem))
    (show ms.length < T.shockCount by omega)
  have run : raise 15 ms.length 1 = T.shockCount := by simp only [raise]; omega
  have peak : (if ms.length = 0 then m else max (ms.foldl max 0) m) = (ms ++ [m]).foldl max 0 := by
    cases ms <;> simp
  rw [Detector.testAll_append_singleton, before, Detector.test_quiet_over rfl (high m (by simp))]
  simp only [run, peak, le_refl, if_true]

/-- Fewer under samples than N leave a RAISED detector RAISED, with their count (R59). -/
theorem Detector.testAll_under (limit : T.shockCount ≤ 15) (raised : d.raised = true) (start : d.run = 0)
    (low : ∀ x ∈ ms, ¬T.isOver x) (short : ms.length < T.shockCount) :
    d.testAll T ms = ({ d with run := ms.length }, none) := by
  induction ms using List.reverseRecOn with
  | nil => simp [Detector.testAll, ← start]
  | append_singleton ms m ih =>
    rw [List.length_append, List.length_singleton] at short
    have before := ih (fun x mem => low x (List.mem_append_left _ mem)) (by omega)
    have run : raise 15 ms.length 1 = ms.length + 1 := by simp only [raise]; omega
    rw [Detector.testAll_append_singleton, before,
      Detector.test_raised_under (d := { d with run := ms.length }) raised (low m (by simp))]
    simp only [run, if_neg (Nat.not_le.mpr short), List.length_append, List.length_singleton]

/-- The N-th under sample in a row makes the detector QUIET (R59). -/
theorem Detector.testAll_rearms (limit : T.shockCount ≤ 15) (raised : d.raised = true) (start : d.run = 0)
    (low : ∀ x ∈ ms ++ [m], ¬T.isOver x) (full : ms.length + 1 = T.shockCount) :
    d.testAll T (ms ++ [m]) = (Detector.quiet, none) := by
  have before := Detector.testAll_under limit raised start (fun x mem => low x (List.mem_append_left _ mem))
    (show ms.length < T.shockCount by omega)
  have run : raise 15 ms.length 1 = T.shockCount := by simp only [raise]; omega
  rw [Detector.testAll_append_singleton, before,
    Detector.test_raised_under (d := { d with run := ms.length }) raised (low m (by simp))]
  simp only [run, le_refl, if_true]

end

end Sys2Proof.Machine

open Sys2Proof.Machine

/-- Settles O34, by the runs of over and of under samples (`Detector.testAll_over`, `Detector.testAll_under`). -/
theorem shockNeedsARunOfOverSamples : Obligations.ShockNeedsARunOfOverSamples := by
  intro T ms m d _ limit
  refine ⟨fun high start => ?_, fun low quiet => ?_, fun high raised => ?_, fun low raised start => ?_⟩
  · subst start
    exact ⟨fun short => (Detector.testAll_over limit high (by simpa using short)).trans (by simp),
      Detector.testAll_raises limit high⟩
  · exact Detector.test_quiet_under quiet (Nat.not_lt.mpr low)
  · rw [Detector.test_raised_over raised high]
    exact ⟨raised, rfl, rfl⟩
  · have low : ∀ x ∈ ms ++ [m], ¬T.isOver x := fun x mem => Nat.not_lt.mpr (low x mem)
    refine ⟨?_, fun short => ?_, fun full => congrArg Prod.fst (Detector.testAll_rearms limit raised start low full)⟩
    · exact (congrArg Prod.snd Detector.testAll_append_singleton).trans (Detector.test_under_silent (low m (by simp)))
    · rw [show (ms ++ [m]).foldl (fun r x => r.1.test T x) (d, none) = _ from
        Detector.testAll_under limit raised start low (by simpa using short)]
      exact raised
end

section
/-!
CLEAR EXTENTS, ADD PROTECT and REMOVE PROTECT (R68, R96, R97, R100, R101).
-/
set_option Elab.async false

namespace Sys2Proof.Machine

section
variable {s : State} {f n i k : Nat} {r : ProtectRange}

/-- A change of the extent table, and EXTENT LOW where it crosses the low mark (R96). -/
theorem State.setExtents_eq (es : List Extent) : s.setExtents es = { s with
    xm := { s.xm with extents := es }
    lp := { s.lp with
      notices := (if s.clc.table.lowMark ≤ remainingOf s.xm.extents ∧ remainingOf es < s.clc.table.lowMark then
        postNotice .extentLow (.number (remainingOf es)) s.smn.partTime else id) s.lp.notices } } := by
  unfold State.setExtents; split <;> rfl

/-! ### CLEAR EXTENTS (R97) -/

theorem CardPort.writing_iff (c : CardPort) :
    c.writing = true ↔ c.writer = .mapping ∨ c.writer = .sending ∨ c.writer = .settling := by
  simp [CardPort.writing]

theorem State.clearExtents_busy (h : s.cp.writing = true) : s.clearExtents = (s, .busy) := by
  simp [State.clearExtents, h, State.answered]

theorem State.clearExtents_idle (h : s.cp.writing = false) : s.clearExtents = (s.setExtents [], .done .plain) := by
  simp [State.clearExtents, h]

/-! ### ADD PROTECT (R100) -/

theorem State.addProtect_badRange (h : n = 0 ∨ 4294967296 < f + n) : s.addProtect f n = (s, .refused .badRange) := by
  simp [State.addProtect, h, State.answered]

section
variable (inside : ¬(n = 0 ∨ 4294967296 < f + n))
include inside

theorem State.addProtect_noRoom (full : none ∉ s.xm.protect) : s.addProtect f n = (s, .refused .noRoom) := by
  rw [State.addProtect, if_neg inside, ExtentMap.emptyPlace_eq_none.mpr full]
  rfl

theorem State.addProtect_overlap (room : none ∈ s.xm.protect)
    (clash : (s.xm.unusedMeets f n || s.xm.protectMeets f n) = true) :
    s.addProtect f n = (s, .refused .overlap) := by
  rw [State.addProtect, if_neg inside]
  cases place : s.xm.emptyPlace with
  | none => exact absurd room (ExtentMap.emptyPlace_eq_none.mp place)
  | some i =>
    dsimp only
    rw [if_pos clash]
    rfl

theorem State.addProtect_done (place : s.xm.emptyPlace = some i)
    (free : ¬(s.xm.unusedMeets f n || s.xm.protectMeets f n) = true) :
    s.addProtect f n = (s.setPlace i (some ⟨f, n, .loaded, none⟩), .done (.index i)) := by
  rw [State.addProtect, if_neg inside, place]
  dsimp only
  rw [if_neg free]

end

/-! ### REMOVE PROTECT (R68, R101) -/

theorem State.removeProtect_badRange (h : ∀ r, s.xm.protect[i]? ≠ some (some r)) :
    s.removeProtect i = (s, .refused .badRange) := by
  unfold State.removeProtect; split
  · next r at_i => exact absurd at_i (h r)
  · rfl

theorem State.removeProtect_loaded (at_i : s.xm.protect[i]? = some (some r)) (loaded : r.origin = .loaded) :
    s.removeProtect i = (s.setPlace i none, .done .plain) := by
  simp [State.removeProtect, at_i, loaded]

theorem State.removeProtect_lock (at_i : s.xm.protect[i]? = some (some r)) (lock : r.origin = .lock)
    (of : r.clip = some k) : s.removeProtect i = s.removeLock i k := by
  simp [State.removeProtect, at_i, lock, of]

/-- A LOCK range stays while its clip is OPEN or CLOSING (R68). -/
theorem State.removeLock_busy {c : ClipRecord} (held : s.clc.clip k = some c)
    (live : c.state = .opened ∨ c.state = .closing) : s.removeLock i k = (s, .busy) := by
  simp only [State.removeLock, held, if_pos live]
  rfl

/-- No record changes for a number that no clip held has. -/
theorem State.modifyClip_absent (gone : s.clc.clip k = none) (g : ClipRecord → ClipRecord) : s.modifyClip k g = s := by
  have same : s.clc.clips.map (fun q => if q.number = k then g q else q) = s.clc.clips.map id :=
    List.map_congr_left fun q mem => if_neg (ClipController.clip_eq_none.mp gone q mem)
  rw [List.map_id] at same
  simp only [State.modifyClip, State.setRecorder, same]

/-- A LOCK range goes with the LOCKED flag of its clip, where that is still held (R68). -/
theorem State.removeLock_done (ended : ∀ c, s.clc.clip k = some c → c.state = .closed ∨ c.state = .aborted) :
    s.removeLock i k = ((s.setPlace i none).modifyClip k (fun q => { q with locked := false }), .done .plain) := by
  unfold State.removeLock; split
  · next c held =>
    have dead : ¬(c.state = .opened ∨ c.state = .closing) := by
      rcases ended c held with state | state <;> simp [state]
    rw [if_neg dead]
  · next gone =>
    rw [State.modifyClip_absent (s := s.setPlace i none) gone]

end

end Sys2Proof.Machine

open Sys2Proof.Machine

/-- Settles O45: each command reaches the Extent Map (`State.take_control`), which makes the tests in their order. -/
theorem protectAndClearCommands : Obligations.ProtectAndClearCommands := by
  intro s tag obeys
  have clear : exec (.clearExtents tag []) s = s.clearExtents.1.replied tag 0x03 s.clearExtents.2 :=
    State.take_control obeys rfl State.clearExtents
  refine ⟨⟨fun busy => ?_, fun mapping sending settling => ?_⟩, fun f n clash f_fits n_fits clash_def => ?_, fun i => ?_⟩
  · rw [clear, State.clearExtents_busy (s.cp.writing_iff.mpr busy)]
  · have idle : s.cp.writing = false := by
      rw [← Bool.not_eq_true, CardPort.writing_iff]
      tauto
    rw [clear, State.clearExtents_idle idle, State.setExtents_eq, ite_apply]
    rfl
  · have add : exec (.addProtect tag (beBytes 4 f ++ beBytes 8 n)) s = _ := State.take_control obeys (by simp) _
    rw [List.take_left' (length_beBytes 4 f), List.drop_left' (length_beBytes 4 f), beNat_beBytes (by simpa using f_fits),
      beNat_beBytes (by simpa using n_fits)] at add
    rw [← ExtentMap.clash_iff] at clash_def
    rw [add]
    refine ⟨fun bad => ?_, fun some_blocks fits full => ?_, fun some_blocks fits room clashes => ?_,
      fun i some_blocks fits free empty first => ?_⟩
    · rw [State.addProtect_badRange bad]
    · rw [State.addProtect_noRoom (by omega) full]
    · rw [State.addProtect_overlap (by omega) room (clash_def.mp clashes)]
    · rw [State.addProtect_done (by omega) (ExtentMap.emptyPlace_eq_some.mpr ⟨empty, first⟩) (mt clash_def.mpr free)]
      rfl
  · have remove : exec (.removeProtect tag [i]) s = _ := State.take_control obeys rfl _
    have index : beNat [i] = i.toNat := by simp [beNat]
    rw [index] at remove
    rw [remove]
    refine ⟨fun empty => ?_, fun r at_i loaded => ?_, fun r k at_i lock of => ⟨fun c held live => ?_, fun ended => ?_⟩⟩
    · rw [State.removeProtect_badRange empty]
    · rw [State.removeProtect_loaded at_i loaded]
      rfl
    · rw [State.removeProtect_lock at_i lock of, State.removeLock_busy held live]
    · rw [State.removeProtect_lock at_i lock of, State.removeLock_done ended]
      rfl
end

section
/-!
A SHOCK and the recorder (R61 to R65): the records that a sample event forms leave the mode, the next number and the face
of every clip as they were while no forced split is due, and the Clip Controller then acts by the mode.
-/
set_option Elab.async false

namespace Sys2Proof.Machine

/-! ### What records leave alone of the recorder -/

/-- The number, the state and the LOCKED flag of a clip record. -/
def ClipRecord.face (r : ClipRecord) : Nat × ClipState × Bool := (r.number, r.state, r.locked)

/-- What a record that is formed leaves alone of the Clip Controller while no forced split is due. -/
structure RecorderFace where
  mode : Mode
  clips : List (Nat × ClipState × Bool)
  nextClip : Option Nat
  drain : Option Drain
  forcedSplitDue : Bool
  powerClose : Option PowerReason

/-- The recorder's face. -/
def State.face (s : State) : RecorderFace where
  mode := s.clc.mode
  clips := s.clc.clips.map ClipRecord.face
  nextClip := s.clc.nextClip
  drain := s.clc.drain
  forcedSplitDue := s.clc.forcedSplitDue
  powerClose := s.clc.powerClose

/-- No forced split is due while RECORDING (R131). -/
def RecorderFace.calm (f : RecorderFace) : Prop := f.mode = .recording → f.forcedSplitDue = false

section
variable {s t : State}

theorem State.face_eq (h : t.clc = s.clc := by simp) : t.face = s.face := by simp only [State.face, h]

theorem State.forcesSplit_eq_false (calm : s.face.calm) : s.forcesSplit = false := by
  by_cases recording : s.clc.mode = .recording
  · simp [State.forcesSplit, show s.clc.forcedSplitDue = false from calm recording]
  · simp [State.forcesSplit, recording]

end

section
variable (s : State)

@[simp] theorem State.setBuffer_face (f : SlotBuffer → SlotBuffer) : (s.setBuffer f).face = s.face := rfl
@[simp] theorem State.setMotion_face (f : MotionEngine → MotionEngine) : (s.setMotion f).face = s.face := rfl
@[simp] theorem State.setSlot_face (n : Nat) (r : SlotRecord) : (s.setSlot n r).face = s.face := rfl
@[simp] theorem State.freeSlots_face (ns : List Nat) : (s.freeSlots ns).face = s.face := rfl
@[simp] theorem State.powerQuarter_face (n : Nat) : (s.powerQuarter n).face = s.face := rfl
@[simp] theorem State.setPlace_face (i : Nat) (r : Option ProtectRange) : (s.setPlace i r).face = s.face := rfl
@[simp] theorem State.post_face (k : NoticeKind) (v : NoticeValue) : (s.post k v).face = s.face := rfl
@[simp] theorem State.count_face (k : Counter) : (s.count k).face = s.face := rfl
@[simp] theorem State.enterRing_face (n : Nat) : (s.enterRing n).face = s.face := rfl
@[simp] theorem State.fillSlot_face (n : Nat) : (s.fillSlot n).face = s.face := rfl

@[simp] theorem State.writeSlot_face (n o : Nat) (bs : List Byte) : (s.writeSlot n o bs).face = s.face := State.face_eq

@[simp] theorem State.overrunStart_face : s.overrunStart.face = s.face := State.face_eq

/-- A change of a record beside its face. -/
theorem State.modifyClip_face (n : Nat) {f : ClipRecord → ClipRecord} (hf : ∀ r, (f r).face = r.face) :
    (s.modifyClip n f).face = s.face := by
  have same : ∀ r : ClipRecord, (if r.number = n then f r else r).face = r.face := by
    intro r; split
    · exact hf r
    · rfl
  simp [State.face, State.modifyClip, Function.comp_def, same]

theorem ClipRecord.stamped_face (r : ClipRecord) (o : Option Nat) : (r.stamped o).face = r.face := by
  simp only [ClipRecord.stamped]; (repeat' split) <;> rfl

@[simp] theorem State.formTrailer_face (c : ClipRecord) (n : Nat) : (s.formTrailer c n).face = s.face := by
  refine (State.setBuffer_face _ _).trans ((State.modifyClip_face _ _ (f := fun r => { r with trailerFormed := true })
    fun _ => rfl).trans ?_)
  simp

@[simp] theorem State.trailerTest_face : s.trailerTest.face = s.face := by
  unfold State.trailerTest; split <;> simp

@[simp] theorem State.release_face (ns : List Nat) : (s.release ns).face = s.face := by
  simp [State.release]

@[simp] theorem State.padSlot_face (n : Nat) : (s.padSlot n).face = s.face := by
  simp [State.padSlot]

@[simp] theorem State.stampSlot_face (n k : Nat) (final : Bool) : (s.stampSlot n k final).face = s.face := by
  refine (State.setBuffer_face _ _).trans ((State.modifyClip_face _ _ fun r => r.stamped_face _).trans ?_)
  simp

@[simp] theorem State.sizeTest_face (k : Nat) : (s.sizeTest k).face = s.face := by
  unfold State.sizeTest; (repeat' split) <;> rfl

@[simp] theorem State.dropMember_face : s.dropMember.face = s.face := by
  unfold State.dropMember; split <;> simp

@[simp] theorem State.joinRing_face (n : Nat) : (s.joinRing n).face = s.face := by
  unfold State.joinRing; split <;> simp

@[simp] theorem State.closeSlot_face (k : Option Nat) (final : Bool) : (s.closeSlot k final).face = s.face := by
  unfold State.closeSlot; split
  · rfl
  · dsimp only; split
    · simp
    · split <;> simp

@[simp] theorem State.makeRoom_face (k : Nat) : (State.makeRoom k s).face = s.face := by
  induction k generalizing s with
  | zero => rfl
  | succ k ih => simp only [State.makeRoom]; split <;> simp [ih]

@[simp] theorem State.openFilling_face : s.openFilling.face = s.face := by
  unfold State.openFilling State.fillLowest; split <;> simp

@[simp] theorem State.placeRecord_face (n : Nat) (k : RecordKind) (g : Byte) (y : Bool) (p : List Byte) :
    (s.placeRecord n k g y p).face = s.face := by
  simp [State.placeRecord]

@[simp] theorem State.splitTest_face (b : Bool) : (s.splitTest b).face = s.face := by
  unfold State.splitTest; split <;> simp

@[simp] theorem State.addGap_face (n : Nat) : (s.addGap n).face = s.face := by
  unfold State.addGap; split
  · exact State.modifyClip_face _ _ fun _ => rfl
  · rfl

@[simp] theorem State.discardRecord_face : s.discardRecord.face = s.face := by
  simp [State.discardRecord]

@[simp] theorem State.stampAll_face (k : Nat) (ns : List Nat) : (s.stampAll k ns).face = s.face := by
  induction ns generalizing s with
  | nil => rfl
  | cons n ns ih => simp [State.stampAll, ih]

@[simp] theorem State.prerollToClip_face (k : Nat) : (s.prerollToClip k).face = s.face := by
  simp [State.prerollToClip]

@[simp] theorem State.lockPartial_face (k : Nat) : (s.lockPartial k).face = s.face := by
  unfold State.lockPartial; split
  · split
    · rfl
    · exact State.modifyClip_face _ _ fun _ => rfl
  · rfl

@[simp] theorem State.addLock_face (k f n : Nat) : (s.addLock k f n).face = s.face := by
  unfold State.addLock; (repeat' split) <;> simp

@[simp] theorem State.addLocks_face (k : Nat) (gs : List (Nat × Nat)) : (s.addLocks k gs).face = s.face := by
  induction gs generalizing s with
  | nil => rfl
  | cons g gs ih => simp [State.addLocks, ih]

end

section
variable {s : State} (calm : s.face.calm)
include calm

theorem State.closeFull_face : s.closeFull.face = s.face := by
  simp [State.closeFull, State.forcesSplit_eq_false calm]

theorem State.closeIfFull_face (n : Nat) : (s.closeIfFull n).face = s.face := by
  unfold State.closeIfFull; split
  · rw [State.splitTest_face, State.closeFull_face calm]
  · rfl

theorem State.appendOpen_face (k : RecordKind) (g : Byte) (y : Bool) (p : List Byte) :
    (s.appendOpen k g y p).1.face = s.face := by
  have opened : (if s.sb.filling.isNone then s.openFilling else s).face = s.face := by split <;> simp
  simp only [State.appendOpen]; split
  · rw [State.overrunStart_face, opened]
  · rw [State.closeIfFull_face, State.placeRecord_face, opened]
    rw [State.placeRecord_face, opened]
    exact calm

theorem State.appendRecord_face (k : RecordKind) (g : Byte) (y : Bool) (p : List Byte) :
    (s.appendRecord k g y p).1.face = s.face := by
  have full := State.closeFull_face calm
  unfold State.appendRecord; split
  · rw [State.splitTest_face, State.appendOpen_face (full ▸ calm), full]
  · exact State.appendOpen_face calm k g y p

theorem State.handRecord_face (k : RecordKind) (p : List Byte) : (s.handRecord k p).face = s.face := by
  have appended := State.appendRecord_face calm k 0 false p
  simp only [State.handRecord]; split
  · exact appended
  · rw [State.discardRecord_face, appended]

theorem State.pump_face : s.pump.face = s.face := by
  unfold State.pump
  generalize s.me.queue.length / 32 = k
  induction k generalizing s with
  | zero => rfl
  | succ k ih =>
    have appended := State.appendRecord_face calm .motion 0 false (motionPayload (s.me.queue.take 32))
    simp only [State.pumpRecords]; split
    · rfl
    · split
      · rw [ih (by rw [State.setMotion_face, appended]; exact calm), State.setMotion_face, appended]
      · exact appended

theorem State.queueSample_face (x : Sample) (b : Bool) : (s.queueSample x b).face = s.face := by
  unfold State.queueSample; split
  · rfl
  · exact State.pump_face (s := s.setMotion _) calm

theorem State.takePreroll_face (k : Nat) : (s.takePreroll k).face = s.face := by
  have stamped := s.prerollToClip_face k
  unfold State.takePreroll State.retryMotion; split
  · exact stamped
  · split
    · exact stamped
    · rw [State.pump_face (stamped ▸ calm), stamped]

theorem State.markShock_face (p c : Nat) : (s.markShock p c).face = s.face := by
  unfold State.markShock; split
  · rfl
  · exact State.handRecord_face calm _ _

end

/-! ### What the face tells -/

section
variable {s t : State}

/-- A record is held with a face. -/
theorem State.mem_face {n : Nat} {state : ClipState} {locked : Bool} (h : (n, state, locked) ∈ s.face.clips) :
    ∃ r ∈ s.clc.clips, r.number = n ∧ r.state = state ∧ r.locked = locked := by
  obtain ⟨r, mem, face⟩ := List.mem_map.mp h
  simp only [ClipRecord.face, Prod.mk.injEq] at face
  exact ⟨r, mem, face⟩

theorem State.openClip_face : s.clc.openClip.map ClipRecord.face =
    s.face.clips.find? (fun p => decide (p.2.1 = .opened)) := by
  simp only [ClipController.openClip, State.face, List.find?_map]
  rfl

theorem State.recordFree_face : s.clc.recordFree =
    (decide (s.face.clips.length < 4) || s.face.clips.any (fun p => decide (p.2.1 = .closed ∨ p.2.1 = .aborted))) := by
  simp only [ClipController.recordFree, State.face, List.length_map, List.any_map]
  rfl

/-- The tests 3 to 6 of R126 read the face and the levels. -/
theorem State.startBlocked_congr (face : t.face = s.face) (smn : t.smn = s.smn) : t.startBlocked = s.startBlocked := by
  have next : t.clc.nextClip = s.clc.nextClip := congrArg (·.nextClip) face
  have drain : t.clc.drain = s.clc.drain := congrArg (·.drain) face
  have powerClose : t.clc.powerClose = s.clc.powerClose := congrArg (·.powerClose) face
  simp only [State.startBlocked, ClipController.ending, State.levelCritical, State.recordFree_face, face, smn, next, drain,
    powerClose]

end

/-! ### The Clip Controller's action (R63 to R65) -/

/-- What a SHOCK does in a state, under a MOTION table: its outcome and clip number (R63, R64). -/
def State.shockCase (s : State) (T : MotionTable) (outcome : ShockOutcome) (clip : Nat) : Prop :=
  s.clc.mode = .idle ∧ outcome = .noticeOnly ∧ clip = 0 ∨
    s.clc.mode = .armed ∧ T.autoTrigger = false ∧ outcome = .noticeOnly ∧ clip = 0 ∨
    s.clc.mode = .armed ∧ T.autoTrigger = true ∧ s.startBlocked.isSome = true ∧ outcome = .startFailed ∧ clip = 0 ∨
    s.clc.mode = .armed ∧ T.autoTrigger = true ∧ s.startBlocked = none ∧ outcome = .started ∧
      s.clc.nextClip = some clip ∨
    s.clc.mode = .recording ∧ s.clc.forcedSplitDue = false ∧
      (∃ r, s.clc.openClip = some r ∧ clip = r.number ∧ outcome = (if r.locked then .alreadyLocked else .locked))

section
variable {s t : State} {T : MotionTable} {outcome : ShockOutcome} {clip : Nat}

theorem State.shockCase_calm (h : s.shockCase T outcome clip) : s.face.calm := by
  intro recording
  have mode : s.clc.mode = .recording := recording
  rcases h with ⟨idle, -⟩ | ⟨armed, -⟩ | ⟨armed, -⟩ | ⟨armed, -⟩ | ⟨-, calm, -⟩
  · cases idle.symm.trans mode
  · cases armed.symm.trans mode
  · cases armed.symm.trans mode
  · cases armed.symm.trans mode
  · exact calm

theorem State.shockCase_congr (face : t.face = s.face) (smn : t.smn = s.smn) (h : s.shockCase T outcome clip) :
    t.shockCase T outcome clip := by
  have mode : t.clc.mode = s.clc.mode := congrArg (·.mode) face
  have next : t.clc.nextClip = s.clc.nextClip := congrArg (·.nextClip) face
  have forced : t.clc.forcedSplitDue = s.clc.forcedSplitDue := congrArg (·.forcedSplitDue) face
  have opened : t.clc.openClip.map ClipRecord.face = s.clc.openClip.map ClipRecord.face := by
    rw [State.openClip_face, State.openClip_face, face]
  unfold State.shockCase at h ⊢
  rw [mode, next, forced, State.startBlocked_congr face smn]
  refine h.imp_right (Or.imp_right (Or.imp_right (Or.imp_right fun ⟨recording, calm, r, held, number, of⟩ => ?_)))
  rw [held] at opened
  obtain ⟨q, q_held, q_face⟩ := Option.map_eq_some_iff.mp opened
  simp only [ClipRecord.face, Prod.mk.injEq] at q_face
  obtain ⟨q_number, -, q_locked⟩ := q_face
  exact ⟨recording, calm, q, q_held, number.trans q_number.symm, by rw [q_locked]; exact of⟩

/-- A start by auto-trigger: RECORDING, and the new clip is LOCKED from its opening (R64, R126). -/
theorem State.startClip_face (armed : s.clc.mode = .armed) (next : s.clc.nextClip = some clip) :
    (s.startClip true).face.mode = .recording ∧ (s.startClip true).face.nextClip = numberAfter clip ∧
      (clip, .opened, true) ∈ (s.startClip true).face.clips := by
  obtain ⟨t, t_def⟩ : ∃ t, t = (s.addClip true).setRecorder (fun c => { c with
      mode := .recording, splitDue := false, forcedSplitDue := false }) := ⟨_, rfl⟩
  have start : s.startClip true = t.takePreroll clip := by
    simp only [State.startClip, next, armed, if_true, t_def]
  have opened : t.face.mode = .recording ∧ t.face.nextClip = numberAfter clip ∧
      (clip, .opened, true) ∈ t.face.clips := by
    simp only [t_def, State.addClip, next]
    exact ⟨rfl, rfl, List.mem_map.mpr ⟨_, List.mem_append_right _ (List.mem_singleton_self _), rfl⟩⟩
  rw [start, State.takePreroll_face (s := t) fun _ => by rw [t_def]; rfl]
  exact opened

/-- The OPEN clip is LOCKED, and the face changes in that alone (R65). -/
theorem State.lockClip_face (s : State) (r : ClipRecord) : (s.lockClip r).face =
    (s.modifyClip r.number (fun c => { c with locked := true })).face := by
  rw [State.lockClip, State.addLocks_face]

/-- What the Clip Controller answers to a SHOCK, and what its face becomes (R63 to R65). -/
theorem State.shockAction_acts (table : s.me.table = T) (h : s.shockCase T outcome clip) :
    s.shockAction.2 = (outcome, clip) ∧
      s.shockAction.1.face.mode = (if outcome = .started then .recording else s.clc.mode) ∧
      (outcome = .started → s.shockAction.1.face.nextClip = numberAfter clip ∧
        (clip, .opened, true) ∈ s.shockAction.1.face.clips) ∧
      (outcome ≠ .started → s.shockAction.1.face.nextClip = s.clc.nextClip) ∧
      (outcome = .locked → (clip, .opened, true) ∈ s.shockAction.1.face.clips) := by
  subst table
  rcases h with ⟨idle, rfl, rfl⟩ | ⟨armed, off, rfl, rfl⟩ | ⟨armed, on, blocked, rfl, rfl⟩ |
    ⟨armed, on, free, rfl, next⟩ | ⟨recording, -, r, held, rfl, rfl⟩
  · have act : s.shockAction = (s, .noticeOnly, 0) := by simp [State.shockAction, idle]
    rw [act]
    exact ⟨rfl, rfl, nofun, fun _ => rfl, nofun⟩
  · have act : s.shockAction = (s, .noticeOnly, 0) := by simp [State.shockAction, armed, off]
    rw [act]
    exact ⟨rfl, rfl, nofun, fun _ => rfl, nofun⟩
  · obtain ⟨reason, blocked⟩ := Option.isSome_iff_exists.mp blocked
    have act : s.shockAction = (s, .startFailed, 0) := by simp [State.shockAction, armed, on, blocked]
    rw [act]
    exact ⟨rfl, rfl, nofun, fun _ => rfl, nofun⟩
  · have act : s.shockAction = (s.startClip true, .started, clip) := by simp [State.shockAction, armed, on, free, next]
    obtain ⟨mode, after, opened⟩ := State.startClip_face armed next
    rw [act]
    exact ⟨rfl, mode, fun _ => ⟨after, opened⟩, fun other => absurd rfl other, nofun⟩
  · cases locked : r.locked with
    | true =>
      have act : s.shockAction = (s, .alreadyLocked, r.number) := by simp [State.shockAction, recording, held, locked]
      rw [act]
      exact ⟨rfl, rfl, nofun, fun _ => rfl, nofun⟩
    | false =>
      have act : s.shockAction = (s.lockClip r, .locked, r.number) := by
        simp [State.shockAction, recording, held, locked]
      have state : r.state = .opened := by simpa using List.find?_some held
      rw [act, State.lockClip_face]
      refine ⟨rfl, rfl, nofun, fun _ => rfl, fun _ => List.mem_map.mpr ⟨{ r with locked := true }, ?_, by
        simp [ClipRecord.face, state]⟩⟩
      exact List.mem_map.mpr ⟨r, List.mem_of_find?_eq_some held, if_pos rfl⟩

/-- A sample that raises a SHOCK: the Clip Controller acts, and the SHOCK notice carries its answer (R61, R63). -/
theorem State.testShock_posts {x : Sample} {shock : Nat × Nat}
    (h : (s.me.detector.test s.me.table x.magnitude).2 = some shock) :
    s.testShock x = (((s.struck x).markShock shock.1 shock.2).shockAction.1).post .shock
      (.shock ((s.struck x).markShock shock.1 shock.2).shockAction.2.1
        ((s.struck x).markShock shock.1 shock.2).shockAction.2.2) := by
  simp only [State.testShock, h]
  rfl

end

end Sys2Proof.Machine

open Sys2Proof.Machine

/-- Settles O35: the sample's and the MARK record leave the recorder's face as it was, and the Clip Controller acts on it
(`State.shockAction_acts`). -/
theorem shockActsByRecorderMode : Obligations.ShockActsByRecorderMode := by
  intro s bytes b T shock on burst T_def raised
  refine ⟨s.takeSample bytes, State.take_powered on (fun t => t.takeSample bytes), fun outcome clip cases => ?_⟩
  have acts : s.shockCase T outcome clip := cases
  have calm := State.shockCase_calm acts
  -- the event's state after the table, after the filter, and after the motion record
  obtain ⟨v, v_def⟩ : ∃ v, v = (s.setMotion (fun m => { m with burst := none })).takeMotionTable := ⟨_, rfl⟩
  obtain ⟨x, x_def⟩ : ∃ x, x = mapBurst T b.byteOrder bytes := ⟨_, rfl⟩
  obtain ⟨w, w_def⟩ : ∃ w, w = (v.goodSample x).queueSample x false := ⟨_, rfl⟩
  have v_me : v.me = { s.me with burst := none, table := T, pendingTable := none } := by
    rw [v_def, State.takeMotionTable_me, T_def]
    rfl
  have effect : s.takeSample bytes = w.testShock x := by
    have table : v.me.table = T := by rw [v_me]
    simp only [State.takeSample, burst, ← v_def, table, ← x_def, w_def]
    rfl
  have g_face : (v.goodSample x).face = s.face := State.face_eq (by simp [v_def])
  have w_face : w.face = s.face := by rw [w_def, State.queueSample_face (g_face ▸ calm), g_face]
  obtain ⟨⟨i, w_me⟩, -⟩ := w_def ▸ State.queueSample_trims (v.goodSample x) x false
  have w_table : w.me.table = T := by
    rw [w_me]
    simp [State.goodSample_me, v_me]
  have w_detector : w.me.detector = s.me.detector := by
    rw [w_me]
    simp [State.goodSample_me, v_me]
  have w_shock : (w.me.detector.test w.me.table x.magnitude).2 = some shock := by rw [w_table, w_detector, x_def, raised]
  obtain ⟨y, y_def⟩ : ∃ y, y = (w.struck x).markShock shock.1 shock.2 := ⟨_, rfl⟩
  have y_face : y.face = s.face := by
    rw [y_def, State.markShock_face (show (w.struck x).face.calm from w_face ▸ calm)]
    exact w_face
  have smn : y.smn = s.smn := by simp [y_def, w_def, v_def]
  have y_table : y.me.table = T := by
    rw [y_def, (State.markShock_frame _ _ _).2.1]
    exact w_table
  obtain ⟨answer, mode, started, quiet, locked⟩ :=
    State.shockAction_acts y_table (State.shockCase_congr y_face smn acts)
  have y_mode : y.clc.mode = s.clc.mode := congrArg (·.mode) y_face
  have y_next : y.clc.nextClip = s.clc.nextClip := congrArg (·.nextClip) y_face
  rw [effect, State.testShock_posts w_shock, ← y_def, answer]
  refine ⟨?_, y_mode ▸ mode, fun start => ?_, fun other => y_next ▸ quiet other, fun lock => State.mem_face (locked lock)⟩
  · obtain ⟨n, posted⟩ := postNotice_posts .shock (.shock outcome clip) y.shockAction.1.smn.partTime
      y.shockAction.1.lp.notices
    have time : y.shockAction.1.smn = s.smn := by simp [smn]
    rw [time] at posted
    rw [State.post_notices, time]
    exact ⟨n, posted⟩
  · obtain ⟨next, opened⟩ := started start
    exact ⟨next, State.mem_face opened⟩
end

section
/-!
READY_REPORT (R66, R67, R77, R94, R95, R102, R113 to R116, R127, R132 to R134): the next step after a failed attempt, and
a slot write that succeeds.
-/
set_option Elab.async false

namespace Sys2Proof.Machine

section
variable {s : State} {w : SlotWrite} {ecc : EccRead} {n : Nat} {d : Time}

/-! ### After STOP (R114 to R116) -/

/-- A block without an uncorrectable word is read: its corrected words are counted (R86). -/
theorem State.readBlock_whole (whole : ecc.damaged = 0) :
    s.readBlock n ecc = s.countBy .eccCorrected ecc.corrected := by
  simp [State.readBlock, whole]

/-- One attempt whose first block has no uncorrectable word (R112). -/
theorem State.beginAttempt_whole (whole : ecc.damaged = 0) : s.beginAttempt w ecc = { s with
    cp := { s.cp with
      card := .writing, writer := .sending, write := some { w with blocksAnswered := 0 }
      sent := some (.writeBlocks w.position 128)
      wait := some ⟨.block, s.smn.partTime + BitVec.ofNat 48 (1000 * s.clc.table.busyTimeout)⟩ }
    lp := { s.lp with counters := { s.lp.counters with
      eccCorrected := min 65535 (s.lp.counters.eccCorrected + ecc.corrected) } } } := by
  simp only [State.beginAttempt, State.readBlock_whole whole]
  rfl

/-- The account of a skipped position: the position is consumed, CARD SKIPS and the clip's skipped ranges are counted
(R94, R115). -/
def State.skipped (s : State) (clip : Nat) : State :=
  (s.consume.modifyClip clip (fun r => { r with skippedRanges := raise lim32 r.skippedRanges 1 })).count .cardSkips

theorem State.skipped_xm (clip : Nat) :
    (s.skipped clip).xm = { s.xm with extents := consumeHead s.xm.extents } := State.consume_xm

@[simp] theorem State.skipped_frame (clip : Nat) : (s.skipped clip).smn = s.smn ∧ (s.skipped clip).me = s.me ∧
    (s.skipped clip).wu = s.wu ∧ (s.skipped clip).sp = s.sp ∧ (s.skipped clip).chg = s.chg ∧
    (s.skipped clip).powered = s.powered ∧ (s.skipped clip).pending = s.pending ∧ (s.skipped clip).cp = s.cp ∧
    (s.skipped clip).sb = s.sb := by
  simp [State.skipped, State.consume, State.setExtents_eq, State.modifyClip, State.setRecorder, State.count,
    State.countBy]

/-- The slot moves to its second position (R115). -/
theorem State.skipPosition_next {p : Nat} (slot : w.slot = some n)
    (cursor : cursorOf (consumeHead s.xm.extents) = some p) : s.skipPosition w ecc =
      (s.skipped ((s.sb.slot n).clip.getD 0)).beginAttempt { w with position := p, positionCount := 2, attempts := 0 }
        ecc := by
  have cursor : cursorOf (s.skipped ((s.sb.slot n).clip.getD 0)).xm.extents = some p := by
    rw [State.skipped_xm]; exact cursor
  simp only [State.skipped] at cursor
  simp only [State.skipPosition, slot, Option.getD_some, cursor]
  rfl

/-- The slot is given back where no second position is left (R95, R115). -/
theorem State.skipPosition_exhausted (slot : w.slot = some n) (cursor : cursorOf (consumeHead s.xm.extents) = none) :
    s.skipPosition w ecc = ((s.skipped ((s.sb.slot n).clip.getD 0)).giveBack n).noExtent ((s.sb.slot n).clip.getD 0) := by
  have cursor : cursorOf (s.skipped ((s.sb.slot n).clip.getD 0)).xm.extents = none := by
    rw [State.skipped_xm]; exact cursor
  simp only [State.skipped] at cursor
  simp only [State.skipPosition, slot, Option.getD_some, cursor]
  rfl

/-- A slot that is given back is QUEUED at the head of the write queue (R77). -/
theorem State.giveBack_eq : s.giveBack n = { s with sb := { s.sb with
    slots := setEntry n { s.sb.slot n with state := .queued } s.sb.slots, queue := n :: s.sb.queue } } := rfl

/-- A card declared FAILED with a slot write in flight: the slot is given back and its position consumed (R94, R116). -/
theorem State.declareFailed_writing (write : s.cp.write = some w) (slot : w.slot = some n) : ∃ notices,
    s.declareFailed = { s with
      sb := (s.giveBack n).sb
      xm := { s.xm with extents := consumeHead s.xm.extents }
      cp := { s.cp with
        card := .failed, gradeInUse := none, wait := none, write := none, writer := .suspended .cardFailed }
      lp := { s.lp with notices := notices } } := by
  have head : s.cp.write.bind (·.slot) = some n := by rw [write]; exact slot
  simp only [State.declareFailed, State.setCard, head, State.consume, State.setExtents_eq]
  exact ⟨_, rfl⟩

/-- The card is READY again behind the STOP of a failed attempt (R114). -/
def State.cardReady (s : State) : State := s.setCard (fun p => { p with card := .ready, wait := none })

theorem State.afterStop_first (first : w.attempts = 0) :
    s.afterStop w ecc = s.cardReady.beginAttempt { w with attempts := 1 } ecc := if_pos first

theorem State.afterStop_second (second : w.attempts ≠ 0) :
    s.afterStop w ecc = if w.positionCount = 1 then s.cardReady.skipPosition w ecc else s.cardReady.declareFailed :=
  if_neg second

/-! ### READY_REPORT by the event awaited (R113, R114) -/

/-- What READY_REPORT does to a part with supply and a slot write in flight, by the event the Card Port waits for. -/
theorem State.takeReady_cases (write : s.cp.write = some w) (ecc : EccRead) :
    (s.cp.wait = some ⟨.stopped, d⟩ →
      s.takeReady .beforeStop ecc = s ∧ s.takeReady .afterStop ecc = s.afterStop w ecc) ∧
    (s.cp.wait = some ⟨.settled, d⟩ → ∀ moment, s.takeReady moment ecc = s.finishWrite w) := by
  constructor <;> intro wait <;> simp [State.takeReady, write, CardPort.awaits, wait]

end

end Sys2Proof.Machine
end

section
/-!
What a completed slot write does to the clip's record and to the protect table, up to the trailer test (R66, R67, R102,
R127, R134).
-/
set_option Elab.async false

namespace Sys2Proof.Machine

/-! ### The protect table follows a LOCKED clip (R66, R67, R102) -/

/-- s with a protect table of LOCK ranges; where a range was lost, clip k is marked LOCK PARTIAL, with the notice the
first time (R66). -/
def State.withLocks (s : State) (k : Nat) (locks : List (Option ProtectRange)) (lost : Bool) : State := { s with
  xm := { s.xm with protect := locks }
  clc := s.clc.marked k lost
  lp := { s.lp with notices := (if lost && (s.clc.clip k).any (fun r => !r.lockPartial) then
    postNotice .lockPartial (.number k) s.smn.partTime else id) s.lp.notices } }

section
variable {s : State} {k f : Nat} {locks : List (Option ProtectRange)} {lost : Bool}

theorem State.withLocks_kept : s.withLocks k locks false = { s with xm := { s.xm with protect := locks } } := by
  simp [State.withLocks, ClipController.marked_false]

theorem State.withLocks_lost (order : s.clc.ordered) : s.withLocks k s.xm.protect true = s.lockPartial k := by
  rw [State.lockPartial_eq order]
  rfl

/-- The range of a write that continues no LOCK range of the clip is added, or the clip is LOCK PARTIAL (R66). -/
theorem State.addLock_eq_withLocks (order : s.clc.ordered) {clash : Prop} [Decidable clash]
    (clash_iff : clash ↔ (s.xm.unusedMeets f 128 || s.xm.protectMeets f 128) = true)
    (h : (clash ∨ none ∉ s.xm.protect) ∧ lost = true ∧ locks = s.xm.protect ∨
      ¬clash ∧ lost = false ∧ ∃ i, s.xm.protect[i]? = some none ∧ (∀ j, j < i → s.xm.protect[j]? ≠ some none) ∧
        locks = s.xm.protect.set i (some ⟨f, 128, .lock, some k⟩)) :
    s.addLock k f 128 = s.withLocks k locks lost := by
  rw [Bool.or_comm] at clash_iff
  unfold State.addLock
  rcases h with ⟨refused, rfl, rfl⟩ | ⟨fits, rfl, i, empty, first, rfl⟩
  · rw [State.withLocks_lost order]
    by_cases clashes : clash
    · rw [if_pos (clash_iff.mp clashes)]
    · rw [if_neg (mt clash_iff.mpr clashes), ExtentMap.emptyPlace_eq_none.mpr (refused.resolve_left clashes)]
  · rw [if_neg (mt clash_iff.mpr fits), ExtentMap.emptyPlace_eq_some.mpr ⟨empty, first⟩, State.withLocks_kept]
    rfl

/-- The four cases of R67's table, in the words of the statements. -/
theorem State.updateLock_eq_withLocks (order : s.clc.ordered)
    (h : lockOutcome s.xm.extents s.xm.protect k f locks lost) : s.updateLock k f = s.withLocks k locks lost := by
  unfold State.updateLock
  rcases h with ⟨i, r, j, q, ends, begins, rfl, rfl⟩ | ⟨i, r, ends, begins, rfl, rfl⟩ | ⟨j, q, ends, begins, rfl, rfl⟩ |
    ⟨ends, begins, added⟩
  · simp only [ExtentMap.lockEndingAt_eq_some.mpr ⟨r, ends⟩, Config.slotBlocks,
      ExtentMap.lockBeginningAt_eq_some.mpr ⟨q, begins⟩]
    rw [State.changePlace_eq ends.1, ExtentMap.countAt_eq begins.1, State.withLocks_kept]
    rfl
  · simp only [ExtentMap.lockEndingAt_eq_some.mpr ⟨r, ends⟩, Config.slotBlocks,
      ExtentMap.lockBeginningAt_eq_none.mpr begins]
    rw [State.changePlace_eq ends.1, State.withLocks_kept]
  · simp only [ExtentMap.lockEndingAt_eq_none.mpr ends, Config.slotBlocks,
      ExtentMap.lockBeginningAt_eq_some.mpr ⟨q, begins⟩]
    rw [State.changePlace_eq begins.1, State.withLocks_kept]
  · simp only [ExtentMap.lockEndingAt_eq_none.mpr ends, Config.slotBlocks,
      ExtentMap.lockBeginningAt_eq_none.mpr begins]
    exact State.addLock_eq_withLocks order Iff.rfl (added _ ExtentMap.clash_iff)

/-- The protect table after a write of clip c, which follows where the clip is LOCKED (R67). -/
theorem State.lockWritten_eq_withLocks {c : ClipRecord} (order : s.clc.ordered)
    (h : c.locked = false ∧ locks = s.xm.protect ∧ lost = false ∨
      c.locked = true ∧ lockOutcome s.xm.extents s.xm.protect c.number f locks lost) :
    s.lockWritten c f = s.withLocks c.number locks lost := by
  unfold State.lockWritten
  rcases h with ⟨free, rfl, rfl⟩ | ⟨locked, outcome⟩
  · rw [if_neg (by simp [free]), State.withLocks_kept]
  · rw [if_pos locked, State.updateLock_eq_withLocks order outcome]

end

/-! ### The record of the clip (R127, R134) -/

section
variable {s : State} {f : Nat} {c : ClipRecord} {locks : List (Option ProtectRange)} {lost : Bool}

/-- The record that a number names after it is changed. -/
theorem State.clip_modifyClip (order : s.clc.ordered) (held : c ∈ s.clc.clips) {g : ClipRecord → ClipRecord}
    (number : ∀ r, (g r).number = r.number) : (s.modifyClip c.number g).clc.clip c.number = some (g c) :=
  (ClipController.clip_eq_some (State.ordered_modifyClip order number)).mpr
    ⟨List.mem_map.mpr ⟨c, held, if_pos rfl⟩, number c⟩

/-- The change of a clip's record, and the protect table that follows its write. -/
theorem State.modifyClip_lockWritten (order : s.clc.ordered) (held : c ∈ s.clc.clips) {g : ClipRecord → ClipRecord}
    (number : ∀ r, (g r).number = r.number) (partly : (g c).lockPartial = c.lockPartial)
    (h : c.locked = false ∧ locks = s.xm.protect ∧ lost = false ∨
      c.locked = true ∧ lockOutcome s.xm.extents s.xm.protect c.number f locks lost) :
    (s.modifyClip c.number g).lockWritten c f = { s with
      xm := { s.xm with protect := locks }
      clc := { s.clc with clips := s.clc.clips.map (fun q => if q.number = c.number then
        { g c with lockPartial := c.lockPartial || lost } else q) }
      lp := { s.lp with notices := (if lost && !c.lockPartial then
        postNotice .lockPartial (.number c.number) s.smn.partTime else id) s.lp.notices } } := by
  rw [State.lockWritten_eq_withLocks (State.ordered_modifyClip order number) h, State.withLocks,
    State.modifyClip_marked order held (number c), State.clip_modifyClip order held number, Option.any_some, partly]
  rfl

/-- A range that is not listed of an OPEN clip (R127). -/
def ClipRecord.splits (c : ClipRecord) (f : Nat) : Bool :=
  decide ((listRange c.ranges f).isNone ∧ c.state = .opened)

theorem State.forceSplitTest_eq : s.forceSplitTest c f = s.setRecorder (fun r => { r with
    forcedSplitDue := r.forcedSplitDue || c.splits f }) := by
  rw [State.setRecorder, ClipRecord.splits, ← State.forceSplitTest_clc]
  unfold State.forceSplitTest; split <;> rfl

/-- A completed write of clip c at f, up to the trailer test (R127, R134). -/
def State.writeTaken (s : State) (c : ClipRecord) (f : Nat) (trailer : Bool) : State :=
  if trailer then s.trailerWritten c f else s.dataWritten c f

theorem State.completeWrite_eq {n : Nat} (held : s.clc.clip ((s.sb.slot n).clip.getD 0) = some c) :
    s.completeWrite n f = (s.writeTaken c f (s.sb.slot n).trailer).completionTest n := by
  simp only [State.completeWrite, held, State.writeTaken]
  split
  · rw [State.completeTrailer_eq]
  · rw [State.completeData_eq]

theorem ClipRecord.splits_iff : c.splits f = true ↔ c.state = .opened ∧ 128 ≤ c.ranges.length ∧
    ∀ g, c.ranges.getLast? = some g → g.1 + g.2 ≠ f := by
  have unlisted : (listRange c.ranges f).isNone ↔ 128 ≤ c.ranges.length ∧
      ∀ g, c.ranges.getLast? = some g → g.1 + g.2 ≠ f := by
    unfold listRange; split
    · next last ends =>
      rw [ends]
      split
      · next meets => simp [meets]
      · next apart =>
        split
        · next room => simp; omega
        · next full => simp [apart]; omega
    · next empty =>
      have empty : c.ranges = [] := List.getLast?_eq_none_iff.mp empty
      simp [empty]
  rw [ClipRecord.splits, decide_eq_true_eq, unlisted, and_comm]

/-- The record of clip c after its write at f. -/
def ClipRecord.after (c : ClipRecord) (f : Nat) (trailer lost : Bool) : ClipRecord :=
  if trailer then { c with trailerPosition := some f, state := .closed, lockPartial := c.lockPartial || lost }
  else { c.completed f with lockPartial := c.lockPartial || lost }

theorem State.writeTaken_eq (order : s.clc.ordered) (held : c ∈ s.clc.clips) (trailer : Bool)
    (h : c.locked = false ∧ locks = s.xm.protect ∧ lost = false ∨
      c.locked = true ∧ lockOutcome s.xm.extents s.xm.protect c.number f locks lost) :
    s.writeTaken c f trailer = { s with
      xm := { s.xm with protect := locks }
      clc := { s.clc with
        clips := s.clc.clips.map (fun q => if q.number = c.number then c.after f trailer lost else q)
        forcedSplitDue := s.clc.forcedSplitDue || (!trailer && c.splits f) }
      lp := { s.lp with
        notices := (if trailer then postNotice .clipClosed (.number c.number) s.smn.partTime else id)
          ((if lost && !c.lockPartial then postNotice .lockPartial (.number c.number) s.smn.partTime else id)
            s.lp.notices) } } := by
  cases trailer with
  | false =>
    have number : ∀ r : ClipRecord, (r.completed f).number = r.number := fun r => (r.completed_fields f).1
    obtain ⟨-, -, -, partly, -⟩ := c.completed_fields f
    have split_first : (s.modifyClip c.number (fun r => r.completed f)).forceSplitTest c f =
        (s.setRecorder (fun r => { r with forcedSplitDue := r.forcedSplitDue || c.splits f })).modifyClip c.number
          (fun r => r.completed f) := State.forceSplitTest_eq
    have locked := State.modifyClip_lockWritten
      (s := s.setRecorder (fun r => { r with forcedSplitDue := r.forcedSplitDue || c.splits f }))
      (locks := locks) (lost := lost) order held number partly h
    simp only [State.writeTaken, Bool.false_eq_true, if_false, State.dataWritten]
    rw [split_first, locked]
    simp only [ClipRecord.after, Bool.false_eq_true, if_false, Bool.not_false, Bool.true_and]
    rfl
  | true =>
    have closed : ∀ q : ClipRecord, (fun r : ClipRecord => if r.number = c.number then { r with state := .closed } else r)
        (if q.number = c.number then { c with trailerPosition := some f, lockPartial := c.lockPartial || lost } else q) =
        if q.number = c.number then c.after f true lost else q := by
      intro q
      by_cases same : q.number = c.number <;> simp [same, ClipRecord.after]
    simp only [State.writeTaken, if_true, State.trailerWritten]
    rw [State.modifyClip_lockWritten (locks := locks) (lost := lost) order held
      (g := fun r => { r with trailerPosition := some f }) (fun _ => rfl) rfl h]
    simp only [State.modifyClip, State.setRecorder, State.post, List.map_map, Bool.not_true, Bool.false_and, Bool.or_false]
    congr 2
    exact List.map_congr_left fun q _ => closed q

end

end Sys2Proof.Machine
end

section
/-!
The trailer test at the completion of a slot, and the trailer that is formed in it (R77, R132, R133, R180).
-/
set_option Elab.async false

namespace Sys2Proof.Machine

/-! ### The bytes of a trailer (R133, R180) -/

section
variable {q : ClipRecord} {reason : EndReason}

/-- The contents of the trailer of a CLOSING clip, in the words of the statements. -/
theorem trailerContents_closing (closing : q.state = .closing) (ended : q.endReason = some reason) : trailerContents q =
    beBytes 4 q.number ++ beBytes 1 1 ++ beBytes 6 q.startTime.toNat ++ beBytes 1 reason.code ++
      beBytes 4 q.slotCount ++ beBytes 2 (q.startOffset.getD 0) ++
      beBytes 1 ((if q.noSyncStart then 1 else 0) + (if q.locked then 2 else 0) + (if q.lockPartial then 4 else 0)) ++
      beBytes 4 q.gapCount ++ beBytes 4 q.damagedSlots ++ beBytes 4 (q.firstDamaged.getD 4294967295) ++
      beBytes 4 q.skippedRanges ++ beBytes 4 q.unlisted ++ beBytes 1 q.ranges.length ++
      q.ranges.flatMap (fun g => beBytes 4 g.1 ++ beBytes 4 g.2) := by
  have code : ∀ n, beBytes 1 n = [codeByte n] := by
    intro n
    simp [beBytes, codeByte]
  have flags : beBytes 1 ((if q.noSyncStart then 1 else 0) + (if q.locked then 2 else 0) +
      (if q.lockPartial then 4 else 0)) = [flagBits [q.noSyncStart, q.locked, q.lockPartial]] := by
    simp only [beBytes, flagBits, ite_eq_mul_toNat, List.foldr, Nat.pow_zero, Nat.div_one]
    congr 2
    ring
  rw [flags]
  simp only [trailerContents, closing, ended, code, ClipState.code, lim32, List.append_assoc, List.cons_append,
    List.nil_append]

theorem length_trailerContents (q : ClipRecord) : (trailerContents q).length = 40 + 8 * q.ranges.length := by
  simp [trailerContents, List.length_flatMap]
  omega

/-- The bytes of a trailer behind its header: its contents, then zero bytes. -/
theorem trailerBody_getElem? {i : Nat} (inside : i < 65472) :
    (trailerBody q)[i]? = some ((trailerContents q).getD i 0) := by
  have length := length_trailerContents q
  simp only [trailerBody, Config.slotBytes, List.getElem?_append, List.getElem?_replicate, List.getD_eq_getElem?_getD]
  split
  · next within => simp [List.getElem?_eq_getElem within]
  · next beyond =>
    rw [if_pos (by omega), List.getElem?_eq_none (by omega)]
    rfl

theorem length_trailerBody (listed : q.ranges.length ≤ 128) : (trailerBody q).length = 65472 := by
  have length := length_trailerContents q
  simp only [trailerBody, List.length_append, List.length_replicate, Config.slotBytes]
  omega

end

/-! ### The trailer test (R132) -/

section
variable {s : State} {q : ClipRecord} {n : Nat}

theorem ClipController.trailerDue_eq_some {c : ClipController} : c.trailerDue = some q ↔
    c.clips.find? (fun x => decide (x.state = .closing)) = some q ∧ q.dataDone = true ∧ q.written = q.slotCount ∧
      q.trailerFormed = false := by
  unfold ClipController.trailerDue
  cases c.clips.find? (fun x => decide (x.state = .closing)) with
  | none => simp
  | some r =>
    simp only [Option.ite_none_right_eq_some, Option.some.injEq, Bool.and_eq_true, decide_eq_true_eq, Bool.not_eq_true']
    constructor
    · rintro ⟨⟨⟨done, all⟩, unformed⟩, rfl⟩
      exact ⟨rfl, done, all, unformed⟩
    · rintro ⟨rfl, done, all, unformed⟩
      exact ⟨⟨⟨done, all⟩, unformed⟩, rfl⟩

/-- With no trailer due, the slot becomes FREE. -/
theorem State.completionTest_free (none_due : s.clc.trailerDue = none)
    (no_record : s.clc.mode = .idle ∨ s.me.queue.length < 32) : s.completionTest n = s.freeSlots [n] := by
  simp only [State.completionTest, none_due, State.retryMotion]
  split
  · rfl
  · next busy => exact State.pump_short (no_record.resolve_left busy)

theorem State.completionTest_due (due : s.clc.trailerDue = some q) : s.completionTest n = s.formTrailer q n := by
  simp only [State.completionTest, due]

theorem State.freeSlots_singleton : s.freeSlots [n] =
    { s with sb := { s.sb with slots := s.sb.slots.filter (fun p => decide (p.1 ≠ n)) } } := by
  simp only [State.freeSlots, State.setBuffer]
  congr 3
  funext p
  simp

/-- No motion entry is taken, no notice posted and no power close ended, whether or not a trailer claims the slot. -/
theorem State.completionTest_quiet (no_record : s.clc.mode = .idle ∨ s.me.queue.length < 32) :
    (s.completionTest n).me = s.me ∧ (s.completionTest n).lp = s.lp ∧
      (s.completionTest n).clc.powerClose = s.clc.powerClose := by
  cases due : s.clc.trailerDue with
  | none => rw [State.completionTest_free due no_record]; exact ⟨rfl, rfl, rfl⟩
  | some q =>
    rw [State.completionTest_due due]
    simp [State.formTrailer, State.modifyClip, State.setRecorder, State.powerQuarter]

@[simp] theorem State.completionTest_same (n : Nat) : (s.completionTest n).xm = s.xm ∧
    (s.completionTest n).powered = s.powered ∧ (s.completionTest n).wu = s.wu ∧ (s.completionTest n).sp = s.sp ∧
    (s.completionTest n).cp = s.cp ∧ (s.completionTest n).chg = s.chg ∧ (s.completionTest n).smn = s.smn ∧
    (s.completionTest n).pending = s.pending := by
  simp only [State.completionTest]; split <;> simp

/-! ### The slot claimed for a trailer (R77, R132, R133) -/

theorem State.formTrailer_clc : (s.formTrailer q n).clc = { s.clc with clips := s.clc.clips.map (fun x =>
    if x.number = q.number then { x with trailerFormed := true } else x) } := by
  simp [State.formTrailer, State.modifyClip, State.setRecorder, State.powerQuarter]

/-- The slot is the head of the write queue (R77); the FILLING slot, the ring and the overrun are as they were. -/
theorem State.formTrailer_queues : (s.formTrailer q n).sb.queue = n :: s.sb.queue ∧
    (s.formTrailer q n).sb.filling = s.sb.filling ∧ (s.formTrailer q n).sb.ring = s.sb.ring ∧
    (s.formTrailer q n).sb.overrun = s.sb.overrun := by
  have written : ∀ (t : State) (o : Nat) (bs : List Byte), (t.writeSlot n o bs).sb.queue = t.sb.queue ∧
      (t.writeSlot n o bs).sb.filling = t.sb.filling ∧ (t.writeSlot n o bs).sb.ring = t.sb.ring ∧
      (t.writeSlot n o bs).sb.overrun = t.sb.overrun := by
    intro t o bs
    unfold State.writeSlot; split <;> exact ⟨rfl, rfl, rfl, rfl⟩
  simp [State.formTrailer, State.setBuffer, State.modifyClip, State.setRecorder, written, State.powerQuarter, State.setSlot]

/-- The Slot Buffer after a trailer is formed in slot n: the header and the body are in the slot. -/
theorem State.formTrailer_sb (real : n < 1024) (listed : q.ranges.length ≤ 128) : (s.formTrailer q n).sb = { s.sb with
    quarters := (s.powerQuarter n).sb.quarters
    slots := setEntry n (trailerRecord q s.smn.partTime) s.sb.slots
    queue := n :: s.sb.queue
    mem := Memory.write (Memory.write s.sb.mem (65536 * n + 0) (slotHeader (trailerRecord q s.smn.partTime)))
      (65536 * n + 64) (trailerBody q) } := by
  have body := length_trailerBody listed
  rw [State.formTrailer, State.writeSlot_eq (o := 64) real (by omega), State.writeSlot_eq real (by simp)]
  rfl

section
variable (real : n < 1024) (listed : q.ranges.length ≤ 128)
include real listed

theorem State.formTrailer_lookup (m : Nat) : (s.formTrailer q n).sb.slots.lookup m =
    if m = n then some (trailerRecord q s.smn.partTime) else s.sb.slots.lookup m := by
  rw [State.formTrailer_sb real listed]
  exact lookup_setEntry n m _ _

theorem State.formTrailer_slot : (s.formTrailer q n).sb.slot n = trailerRecord q s.smn.partTime := by
  rw [SlotBuffer.slot, State.formTrailer_lookup real listed, if_pos rfl]
  rfl

theorem State.formTrailer_header {i : Nat} {b : Byte}
    (at_i : (slotHeader (trailerRecord q s.smn.partTime))[i]? = some b) :
    Memory.read (s.formTrailer q n).sb.mem (65536 * n + i) = some b := by
  obtain ⟨inside, -⟩ := List.getElem?_eq_some_iff.mp at_i
  rw [State.formTrailer_sb real listed]
  rw [length_slotHeader] at inside
  dsimp only
  rw [Memory.read_write_outside _ _ _ _ (by omega), Nat.add_zero,
    Memory.read_write_inside _ _ _ _ (by rw [length_slotHeader]; exact inside), at_i]

theorem State.formTrailer_body {i : Nat} (inside : i < 65472) :
    Memory.read (s.formTrailer q n).sb.mem (65536 * n + 64 + i) = some ((trailerContents q).getD i 0) := by
  rw [State.formTrailer_sb real listed, Memory.read_write_inside _ _ _ _ (by rw [length_trailerBody listed]; exact inside),
    trailerBody_getElem? inside]

theorem State.formTrailer_mem_outside {a : Nat} (outside : a < 65536 * n ∨ 65536 * n + 65536 ≤ a) :
    Memory.read (s.formTrailer q n).sb.mem a = Memory.read s.sb.mem a := by
  have body := length_trailerBody listed
  rw [State.formTrailer_sb real listed]
  dsimp only
  rw [Memory.read_write_outside _ _ _ _ (by omega),
    Memory.read_write_outside _ _ _ _ (by rw [length_slotHeader]; omega)]

end

end

end Sys2Proof.Machine
end

section
/-!
READY_REPORT: the attempt that follows a STOP, and the write that succeeds, as a whole (R113 to R116, R127, R132, R134).
-/
set_option Elab.async false

namespace Sys2Proof.Machine

section
variable {s : State} {w : SlotWrite} {ecc : EccRead} {n f : Nat} {c : ClipRecord} {locks : List (Option ProtectRange)}
  {lost : Bool}

/-- With no second position the slot is given back and the writer is suspended (R95, R115). -/
theorem State.skipPosition_gives_up (slot : w.slot = some n) (cursor : cursorOf (consumeHead s.xm.extents) = none) :
    (s.skipPosition w ecc).xm = { s.xm with extents := consumeHead s.xm.extents } ∧
      (s.skipPosition w ecc).sb = (s.giveBack n).sb ∧
      (s.skipPosition w ecc).cp = { s.cp with writer := .suspended .noExtent, write := none, wait := none } := by
  rw [State.skipPosition_exhausted slot cursor]
  simp [State.noExtent, State.giveBack_eq, State.post, State.skipped_xm, State.setCard]

/-- The write of slot n is given up: the position is consumed and the slot given back; the card is READY without a
position, or FAILED after the second one (R95, R115, R116). -/
theorem State.afterStop_gives_up (write : s.cp.write = some w) (slot : w.slot = some n) (second : w.attempts ≠ 0)
    (last : w.positionCount = 1 ∧ cursorOf (consumeHead s.xm.extents) = none ∨ w.positionCount = 2) :
    (s.afterStop w ecc).xm = { s.xm with extents := consumeHead s.xm.extents } ∧
      (s.afterStop w ecc).sb = (s.giveBack n).sb ∧
      (s.afterStop w ecc).cp.write = none ∧ (s.afterStop w ecc).cp.wait = none ∧
      (w.positionCount = 1 → (s.afterStop w ecc).cp.card = .ready ∧
        (s.afterStop w ecc).cp.writer = .suspended .noExtent) ∧
      (w.positionCount = 2 → (s.afterStop w ecc).cp.card = .failed ∧
        (s.afterStop w ecc).cp.writer = .suspended .cardFailed) := by
  rw [State.afterStop_second second]
  rcases last with ⟨first, none_left⟩ | both
  · obtain ⟨xm, sb, cp⟩ := State.skipPosition_gives_up (s := s.cardReady) (ecc := ecc) slot none_left
    rw [if_pos first, xm, sb, cp]
    exact ⟨rfl, rfl, rfl, rfl, fun _ => ⟨rfl, rfl⟩, fun both => absurd (first.symm.trans both) (by decide)⟩
  · obtain ⟨notices, failed⟩ := State.declareFailed_writing (s := s.cardReady) write slot
    rw [if_neg (by omega), failed]
    exact ⟨rfl, rfl, rfl, rfl, fun first => absurd (first.symm.trans both) (by decide), fun _ => ⟨rfl, rfl⟩⟩

/-! ### A slot write that succeeds (R113) -/

/-- The completed write of clip c at f, its position consumed, up to the trailer test (R94, R113). -/
def State.writeRecorded (s : State) (c after : ClipRecord) (f : Nat) (locks : List (Option ProtectRange))
    (trailer lost : Bool) : State := { s with
  xm := ⟨consumeHead s.xm.extents, locks⟩
  clc := { s.clc with
    clips := s.clc.clips.map (fun q => if q.number = c.number then after else q)
    forcedSplitDue := s.clc.forcedSplitDue || (!trailer && c.splits f) }
  lp := { s.lp with
    notices := (if trailer then postNotice .clipClosed (.number c.number) s.smn.partTime else id)
      ((if lost && !c.lockPartial then postNotice .lockPartial (.number c.number) s.smn.partTime else id)
        s.consume.lp.notices) } }

theorem State.consume_writeTaken (order : s.clc.ordered) (held : c ∈ s.clc.clips) (trailer : Bool)
    (h : c.locked = false ∧ locks = s.xm.protect ∧ lost = false ∨
      c.locked = true ∧ lockOutcome (consumeHead s.xm.extents) s.xm.protect c.number f locks lost) :
    s.consume.writeTaken c f trailer = s.writeRecorded c (c.after f trailer lost) f locks trailer lost := by
  have same : s.consume.clc = s.clc := by simp only [State.consume, State.setExtents_eq]
  rw [State.writeTaken_eq (locks := locks) (lost := lost) (same ▸ order) (same ▸ held) trailer
    (by rw [State.consume_xm]; exact h), State.writeRecorded]
  simp only [State.consume, State.setExtents_eq]

/-- The trailer test behind a completed write takes no motion entry, posts no notice and ends no power close. -/
theorem State.writeRecorded_quiet {after : ClipRecord} {trailer : Bool}
    (no_record : s.clc.mode = .idle ∨ s.me.queue.length < 32) :
    ((s.writeRecorded c after f locks trailer lost).completionTest n).me = s.me ∧
      ((s.writeRecorded c after f locks trailer lost).completionTest n).lp =
        (s.writeRecorded c after f locks trailer lost).lp ∧
      ((s.writeRecorded c after f locks trailer lost).completionTest n).clc.powerClose = s.clc.powerClose :=
  State.completionTest_quiet (s := s.writeRecorded c after f locks trailer lost) no_record

/-- A slot write of a clip that is held succeeds; a trailer's ends no power close where none runs. -/
theorem State.finishWrite_eq (slot : w.slot = some n) (order : s.clc.ordered)
    (held : s.clc.clip ((s.sb.slot n).clip.getD 0) = some c)
    (no_record : s.clc.mode = .idle ∨ s.me.queue.length < 32)
    (calm : (s.sb.slot n).trailer = true → s.clc.powerClose = none)
    (h : c.locked = false ∧ locks = s.xm.protect ∧ lost = false ∨
      c.locked = true ∧ lockOutcome (consumeHead s.xm.extents) s.xm.protect c.number w.position locks lost) :
    s.finishWrite w = ((s.writeRecorded c (c.after w.position (s.sb.slot n).trailer lost) w.position locks
      (s.sb.slot n).trailer lost).completionTest n).setCard (fun p => { p with
        card := .ready, write := none, writer := .idle, wait := none }) := by
  have same : s.consume.clc = s.clc ∧ s.consume.sb = s.sb := by
    simp only [State.consume, State.setExtents_eq, and_self]
  have completes := State.completeWrite_eq (s := s.consume) (c := c) (n := n) (f := w.position)
    (by rw [same.1, same.2]; exact held)
  rw [same.2, State.consume_writeTaken order ((ClipController.clip_eq_some order).mp held).1 _ h] at completes
  have succeeds : s.writeSucceeds w = ((s.writeRecorded c (c.after w.position (s.sb.slot n).trailer lost) w.position locks
      (s.sb.slot n).trailer lost).completionTest n).setCard (fun p => { p with
        card := .ready, write := none, writer := .idle, wait := none }) := by
    simp only [State.writeSucceeds, slot, Option.getD_some, completes]
  simp only [State.finishWrite, slot, Option.getD_some]
  split
  · next trailer =>
    rw [succeeds]
    exact State.endPowerClose_absent ((State.writeRecorded_quiet no_record).2.2.trans (calm trailer))
  · exact succeeds

/-- The trailer of the lowest CLOSING clip that is due, in the words of the statements. -/
theorem State.writeRecorded_trailerDue {after q : ClipRecord} {trailer : Bool} :
    (s.writeRecorded c after f locks trailer lost).clc.trailerDue = some q ↔
      (s.clc.clips.map (fun x => if x.number = c.number then after else x)).find? (fun x => decide (x.state = .closing)) =
        some q ∧ q.dataDone = true ∧ q.written = q.slotCount ∧ q.trailerFormed = false :=
  ClipController.trailerDue_eq_some

end

end Sys2Proof.Machine

open Sys2Proof.Machine

/-- Settles O54: the report is handed on by the event awaited (`State.takeReady_cases`). After STOP the attempt is repeated,
moved or given up (`State.beginAttempt_whole`, `State.skipPosition_next`, `State.afterStop_gives_up`); in SETTLING the write
is entered in the clip's record and the protect table (`State.finishWrite_eq`), and the trailer test follows. -/
theorem readyReportEndsTheAttempt : Obligations.ReadyReportEndsTheAttempt := by
  intro s moment ecc d w n busy low on write slot busy_def low_def
  have taken : exec (.readyReport ⟨moment, ecc⟩) s = (s.takeReady moment ecc).settled :=
    State.take_powered on (fun t => t.takeReady moment ecc)
  have notices : s.consume.lp.notices = low s.lp.notices := by
    rw [State.consume, State.setExtents_eq, low_def]
  obtain ⟨stopped, settled⟩ := State.takeReady_cases (d := d) write ecc
  subst busy_def
  rw [taken]
  refine ⟨?_, ?_, ?_⟩
  · rintro wait rfl
    rw [(stopped wait).1]
  · rintro wait rfl whole
    rw [(stopped wait).2]
    refine ⟨fun first => ?_, fun p second one cursor => ?_, fun second last => ?_⟩
    · rw [State.afterStop_first first, State.beginAttempt_whole whole]
      rfl
    · rw [State.afterStop_second second, if_pos one, State.skipPosition_next (s := s.cardReady) slot cursor,
        State.beginAttempt_whole whole, State.skipped, State.consume, State.setExtents_eq, low_def]
      rfl
    · obtain ⟨xm, sb, writes, waits, first, both⟩ := State.afterStop_gives_up (ecc := ecc) write slot second last
      exact ⟨_, rfl, xm, sb, writes, waits, first, both, by simp [on]⟩
  · rintro k f c after locks partly trailer clips wait of held ⟨order, -⟩ no_record rfl rfl calm outcome after_def rfl
    obtain ⟨mem, rfl⟩ := (ClipController.clip_eq_some order).mp held
    have finishes := State.finishWrite_eq slot order (by rw [of]; exact held) no_record calm outcome
    have after_def : after = c.after w.position (s.sb.slot n).trailer partly := after_def
    obtain ⟨me, lp, -⟩ := State.writeRecorded_quiet (n := n) (c := c) (after := after) (f := w.position) (locks := locks)
      (lost := partly) (trailer := (s.sb.slot n).trailer) no_record
    rw [settled wait, finishes, ← after_def]
    obtain ⟨xm, powered, wu, sp, cp, chg, smn, pending⟩ := State.completionTest_same
      (s := s.writeRecorded c after w.position locks (s.sb.slot n).trailer partly) n
    refine ⟨_, rfl, ?_, xm, ?_, smn, me, wu, sp, chg, powered.trans on, pending, fun due forced due_iff forced_iff => ?_⟩
    · rw [State.setCard, cp]
      rfl
    · refine lp.trans ?_
      rw [State.writeRecorded, notices]
    · obtain rfl : forced = (s.clc.forcedSplitDue || (!(s.sb.slot n).trailer && c.splits w.position)) := by
        rw [Bool.eq_iff_iff, forced_iff]
        simp [ClipRecord.splits_iff]
      have due_iff q := (due_iff q).trans (State.writeRecorded_trailerDue (s := s) (c := c) (f := w.position)
        (locks := locks) (lost := partly) (trailer := (s.sb.slot n).trailer)).symm
      refine ⟨fun none_due => ?_, fun q reason head contents q_due ended listed real head_def contents_def => ?_⟩
      · rw [State.completionTest_free (Option.eq_none_iff_forall_ne_some.mpr fun q => mt (due_iff q).mpr (none_due q))
          no_record, State.freeSlots_singleton]
        exact ⟨rfl, rfl⟩
      · have closing : q.state = .closing := by
          simpa using List.find?_some (State.writeRecorded_trailerDue.mp ((due_iff q).mp q_due)).1
        obtain ⟨queue, filling, ring, overrun⟩ := State.formTrailer_queues (q := q) (n := n)
          (s := s.writeRecorded c after w.position locks (s.sb.slot n).trailer partly)
        rw [← trailerContents_closing closing ended] at contents_def
        rw [State.completionTest_due ((due_iff q).mp q_due), head_def, contents_def]
        exact ⟨State.formTrailer_clc, State.formTrailer_slot real listed, queue, filling, ring, overrun,
          fun m other => (State.formTrailer_lookup real listed m).trans (if_neg other),
          fun i b at_i => State.formTrailer_header real listed at_i,
          fun i inside => State.formTrailer_body real listed inside,
          fun a outside => State.formTrailer_mem_outside real listed outside⟩
end

section
/-!
ARM and DISARM (R80, R85, R124, R125), and the slots that are given back at a disarm (R132).
-/
set_option Elab.async false

namespace Sys2Proof.Machine

section
variable {s : State} {ns : List Nat}

/-! ### Slots that become FREE (R70, R132) -/

/-- A trailer that is formed leaves the FILLING slot, the ring and the overrun flag as they were (R132). -/
theorem State.trailerTest_places (s : State) : s.trailerTest.sb.filling = s.sb.filling ∧
    s.trailerTest.sb.ring = s.sb.ring ∧ s.trailerTest.sb.overrun = s.sb.overrun := by
  unfold State.trailerTest; split
  · exact State.formTrailer_queues.2
  · exact ⟨rfl, rfl, rfl⟩

/-- Where no trailer is due the trailer test does nothing (R132). -/
theorem State.trailerTest_calm (calm : s.clc.trailerDue = none) : s.trailerTest = s := by
  simp [State.trailerTest, calm]

/-- Where no trailer is due the slots that are released stay FREE (R132). -/
theorem State.release_calm (calm : s.clc.trailerDue = none) : s.release ns = s.freeSlots ns :=
  State.trailerTest_calm calm

/-! ### ARM (R124) -/

/-- The tests of R124 in the words of the statements. -/
theorem State.armAnswer_eq (s : State) : s.armAnswer =
    (if s.smn.standby ≠ .active then some (.refused .standby)
    else if s.clc.mode = .recording then some (.refused .recording)
    else if s.clc.mode = .armed then some (.done .plain)
    else if s.clc.drain ≠ none ∨ s.clc.powerClose ≠ none then some .busy
    else if s.clc.table.prerollDepth = 0 then some (.refused .badRange)
    else if s.smn.battery = .critical ∨ s.smn.die = .critical then some (.refused .lowPower)
    else none) := by
  have ending : (s.clc.ending = true) ↔ s.clc.drain ≠ none ∨ s.clc.powerClose ≠ none := by
    simp [ClipController.ending, Option.isSome_iff_ne_none]
  simp only [State.armAnswer, State.inStandby, State.levelCritical, decide_eq_true_eq, ending]

/-! ### DISARM while ARMED (R80, R125) -/

/-- The state of a disarm before its slots become FREE. -/
def State.prerollDropped (s : State) : State :=
  (s.setBuffer (fun b => { b with ring := [], filling := none, overrun := false })).dropMotion

theorem State.freePreroll_eq (s : State) :
    s.freePreroll = s.prerollDropped.release (s.sb.ring ++ s.sb.filling.toList) := rfl

/-- A disarm empties the ring, the FILLING place, the overrun flag and the motion queue (R80, R85). -/
theorem State.disarmNow_places (s : State) : s.disarmNow.sb.ring = [] ∧ s.disarmNow.sb.filling = none ∧
    s.disarmNow.sb.overrun = false ∧ s.disarmNow.me = { s.me with queue := [] } := by
  obtain ⟨filling, ring, overrun⟩ :=
    (s.prerollDropped.freeSlots (s.sb.ring ++ s.sb.filling.toList)).trailerTest_places
  refine ⟨ring, filling, overrun, ?_⟩
  simp [State.disarmNow, State.freePreroll_eq, State.prerollDropped, State.dropMotion, State.setMotion]

/-- Where no trailer is due the slots of the ring and the FILLING slot are FREE after a disarm (R80, R132). -/
theorem State.disarmNow_calm (calm : s.clc.trailerDue = none) : s.disarmNow.clc = { s.clc with mode := .idle } ∧
    s.disarmNow.sb = { s.sb with
      ring := [], filling := none, overrun := false
      slots := s.sb.slots.filter (fun p => decide (p.1 ∉ s.sb.ring ∧ some p.1 ≠ s.sb.filling)) } := by
  have freed : s.freePreroll = s.prerollDropped.freeSlots (s.sb.ring ++ s.sb.filling.toList) := State.release_calm calm
  rw [State.disarmNow, freed]
  refine ⟨rfl, ?_⟩
  have outside : (fun p : Nat × SlotRecord => !(s.sb.ring ++ s.sb.filling.toList).contains p.1) =
      fun p => decide (p.1 ∉ s.sb.ring ∧ some p.1 ≠ s.sb.filling) := by
    funext p
    simp [Bool.decide_and, eq_comm]
  show SlotBuffer.mk (s.sb.slots.filter _) _ _ _ _ _ _ = _
  rw [outside]
  rfl

end

end Sys2Proof.Machine

open Sys2Proof.Machine

/-- Settles O46: both commands reach the Clip Controller (`State.take_control`); ARM answers by its tests
(`State.armAnswer_eq`), DISARM by the mode (`State.disarmNow_places`, `State.disarmNow_calm`). -/
theorem armAndDisarmFollowTheMode : Obligations.ArmAndDisarmFollowTheMode := by
  intro s tag obeys
  have arm : exec (.arm tag []) s = s.arm.1.replied tag 0x06 s.arm.2 := State.take_control obeys rfl _
  have disarm : exec (.disarm tag []) s = s.disarm.1.replied tag 0x07 s.disarm.2 := State.take_control obeys rfl _
  refine ⟨?_, fun idle => ?_, fun recording => ?_, fun armed => ⟨s.disarmNow, ?_, rfl, ?_⟩⟩
  · rw [arm, State.arm, State.armAnswer_eq]
    (repeat' split_ifs) <;> rfl
  · rw [disarm, State.disarm, idle]
  · rw [disarm, State.disarm, recording]
    rfl
  · rw [disarm, State.disarm, armed]
  · obtain ⟨ring, filling, overrun, me⟩ := s.disarmNow_places
    obtain ⟨powered, wu, sp, lp, xm, cp, chg, smn, pending⟩ := s.disarmNow_frame
    exact ⟨ring, filling, overrun, me, wu, sp, lp, xm, cp, chg, smn, powered.trans obeys.1.1, pending,
      State.disarmNow_calm⟩
end

section
/-!
The start of a slot write (R86, R87, R93, R109 to R112, R116): the grade it uses, the slot it takes, and the reading of its
first block.
-/
set_option Elab.async false

namespace Sys2Proof.Machine

section
variable {s : State} {w : SlotWrite} {ecc : EccRead} {n : Nat} {rest : List Nat}

/-! ### The grade (R108, R109) -/

/-- The lowest of the three grades, by its code (R109). -/
theorem State.effectiveGrade_eq {g : Grade} (lowest : g.code = min (s.cp.maxGrade.elim 3 Grade.code)
    (min s.cp.setGrade (match s.smn.die with
      | .normal => 3
      | .warm => 2
      | .hot => 1
      | .critical => 0))) : s.effectiveGrade = g := by
  have cap : s.smn.die.cap.code = (match s.smn.die with
      | .normal => 3
      | .warm => 2
      | .hot => 1
      | .critical => 0) := by cases s.smn.die <;> rfl
  rw [State.effectiveGrade, cap, ← lowest]
  cases g <;> rfl

/-! ### The slot at the head of the queue (R86, R87, R111, R112) -/

/-- The write has taken slot n: the slot is WRITING and off the queue, and WRITE BLOCKS is sent (R111, R112). -/
def State.slotTaken (s : State) (w : SlotWrite) (n : Nat) (rest : List Nat) : State := { s with
  sb := { s.sb with slots := setEntry n { s.sb.slot n with state := .writing } s.sb.slots, queue := rest }
  cp := { s.cp with
    card := .writing, writer := .sending, write := some { w with slot := some n, blocksAnswered := 0 }
    sent := some (.writeBlocks w.position 128)
    wait := some ⟨.block, s.smn.partTime + BitVec.ofNat 48 (1000 * s.clc.table.busyTimeout)⟩ } }

theorem State.takeSlot_empty (queue : s.sb.queue = []) :
    s.takeSlot w ecc = s.setCard (fun c => { c with writer := .idle, write := none, wait := none }) := by
  simp only [State.takeSlot, queue]

theorem State.takeSlot_head (queue : s.sb.queue = n :: rest) :
    s.takeSlot w ecc = (s.slotTaken w n rest).readBlock n ecc := by
  simp only [State.takeSlot, queue]
  rfl

/-- The slot's record when its write starts (R110). -/
theorem State.slotTaken_slot : (s.slotTaken w n rest).sb.slot n = { s.sb.slot n with state := .writing } :=
  (State.slot_setSlot s n n _).trans (if_pos rfl)

/-- A block read that makes no slot DAMAGED: none of its words is damaged, or its slot is DAMAGED already (R86, R87). -/
theorem State.readBlock_quiet (quiet : ecc.damaged = 0 ∨ (s.sb.slot n).damaged = true) :
    s.readBlock n ecc = s.countBy .eccCorrected ecc.corrected := by
  rcases quiet with whole | damaged
  · exact State.readBlock_whole whole
  · simp [State.readBlock, State.markDamaged, damaged]

/-- The first damage of a slot: DAMAGED, SLOTS DAMAGED, and the account of its clip (R87). -/
theorem State.readBlock_damages (damaged : 0 < ecc.damaged) (undamaged : (s.sb.slot n).damaged = false) :
    s.readBlock n ecc = { s with
      sb := { s.sb with slots := setEntry n { s.sb.slot n with damaged := true } s.sb.slots }
      lp := { s.lp with counters := { s.lp.counters with
        eccCorrected := min 65535 (s.lp.counters.eccCorrected + ecc.corrected)
        slotsDamaged := min 65535 (s.lp.counters.slotsDamaged + 1) } }
      clc := { s.clc with clips := s.clc.clips.map (fun c => if c.number = (s.sb.slot n).clip.getD 0 then
        { c with damagedSlots := min 4294967295 (c.damagedSlots + 1)
                 firstDamaged := c.firstDamaged.or (s.sb.slot n).sequence } else c) } } := by
  simp only [State.readBlock, damaged, if_true, State.markDamaged, State.countBy_sb, undamaged, Bool.false_eq_true,
    if_false]
  rfl

/-- A slot is taken whose first block does no damage (R86, R111, R112). -/
theorem State.takeSlot_quiet (queue : s.sb.queue = n :: rest) (quiet : ecc.damaged = 0 ∨ (s.sb.slot n).damaged = true) :
    s.takeSlot w ecc = { s.slotTaken w n rest with lp := { s.lp with counters := { s.lp.counters with
      eccCorrected := min 65535 (s.lp.counters.eccCorrected + ecc.corrected) } } } := by
  rw [State.takeSlot_head queue, State.readBlock_quiet (by rwa [State.slotTaken_slot])]
  rfl

/-- A slot is taken and DAMAGED by its first block (R86, R87, R111, R112). -/
theorem State.takeSlot_damages (queue : s.sb.queue = n :: rest) (damaged : 0 < ecc.damaged)
    (undamaged : (s.sb.slot n).damaged = false) : ∃ u : State, s.takeSlot w ecc = u ∧
      u.sb.slot n = { s.sb.slot n with state := .writing, damaged := true } ∧ u.sb.queue = rest ∧
      (∀ m, m ≠ n → u.sb.slots.lookup m = s.sb.slots.lookup m) ∧
      u.lp = { s.lp with counters := { s.lp.counters with
        eccCorrected := min 65535 (s.lp.counters.eccCorrected + ecc.corrected)
        slotsDamaged := min 65535 (s.lp.counters.slotsDamaged + 1) } } ∧
      u.clc = { s.clc with clips := s.clc.clips.map (fun c => if c.number = (s.sb.slot n).clip.getD 0 then
        { c with damagedSlots := min 4294967295 (c.damagedSlots + 1)
                 firstDamaged := c.firstDamaged.or (s.sb.slot n).sequence } else c) } ∧
      u.cp = (s.slotTaken w n rest).cp ∧
      u.sb.mem = s.sb.mem ∧ u.sb.filling = s.sb.filling ∧ u.sb.ring = s.sb.ring ∧ u.sb.overrun = s.sb.overrun ∧
      u.sb.quarters = s.sb.quarters ∧ u.me = s.me ∧ u.wu = s.wu ∧ u.sp = s.sp ∧ u.xm = s.xm ∧ u.chg = s.chg ∧
      u.smn = s.smn ∧ u.powered = s.powered ∧ u.pending = s.pending := by
  have read := State.readBlock_damages (s := s.slotTaken w n rest) damaged (by rwa [State.slotTaken_slot])
  rw [State.takeSlot_head queue, read]
  refine ⟨_, rfl, ?_, rfl, fun m other => ?_, rfl, ?_, rfl, rfl, rfl, rfl, rfl, rfl, rfl, rfl, rfl, rfl, rfl, rfl, rfl, rfl⟩
  · refine (State.slot_setSlot (s.slotTaken w n rest) n n _).trans ?_
    rw [if_pos rfl, State.slotTaken_slot]
  · refine (State.lookup_setSlot (s.slotTaken w n rest) n m _).trans ?_
    rw [if_neg other]
    exact (State.lookup_setSlot s n m _).trans (if_neg other)
  · rw [State.slotTaken_slot]
    rfl

/-! ### The start and its grade (R93, R110, R111) -/

/-- The write at the cursor, before its slot is taken (R110, R111). -/
def State.mapped (s : State) (e : Extent) (g : Grade) : State :=
  s.setCard (fun c => { c with writer := .mapping, write := some ⟨none, e.first + e.used, 1, 0, 0, g⟩ })

theorem State.writeStarts_eq (ready : s.cp.card = .ready) (idle : s.cp.writer = .idle) (queue : s.sb.queue = n :: rest) :
    s.writeStarts ecc = s.startWrite ecc := by
  simp [State.writeStarts, State.writeCanStart, ready, idle, queue]

theorem State.startWrite_noExtent (empty : s.xm.extents = []) : s.startWrite ecc = s.noExtent s.headClip := by
  simp only [State.startWrite, empty]
  rfl

theorem State.startWrite_extent {e : Extent} {more : List Extent} {g : Grade} (extents : s.xm.extents = e :: more)
    (grade : s.effectiveGrade = g) : s.startWrite ecc = if s.cp.gradeInUse = some g then
      (s.mapped e g).takeSlot ⟨none, e.first + e.used, 1, 0, 0, g⟩ ecc
    else (s.mapped e g).sendCard (.setGrade g) .writeGrade 100000 := by
  subst grade
  simp only [State.startWrite, extents]
  rfl

/-! ### The SET GRADE answer and its timer (R111, R116) -/

/-- The grade of the write is the grade in use (R111). -/
def State.gradeTaken (s : State) (w : SlotWrite) : State := s.setCard (fun c => { c with gradeInUse := some w.grade })

/-- The answer to SET GRADE in MAPPING (R111). -/
theorem State.takeGradeAnswer_write {d : Time} (wait : s.cp.wait = some ⟨.writeGrade, d⟩) (write : s.cp.write = some w) :
    s.takeGradeAnswer ecc = (s.gradeTaken w).takeSlot w ecc := by
  simp [State.gradeTaken, State.takeGradeAnswer, CardPort.attachGrade, wait, CardPort.awaits, State.gradeSet, write]

/-- The timer of SET GRADE in MAPPING: the card is declared FAILED at the deadline, and no slot is given back (R116). -/
theorem State.gradeExpires_write {d : Time} (wait : s.cp.wait = some ⟨.writeGrade, d⟩) (write : s.cp.write = some w)
    (untaken : w.slot = none) : s.gradeExpires = { s.reach d with
      cp := { s.cp with
        card := .failed, gradeInUse := none, wait := none, write := none, writer := .suspended .cardFailed }
      lp := { s.lp with
        notices := postNotice .cardChange (.card .failed) (s.reach d).smn.partTime
          (postNotice .cardFailed (.number s.headClip) (s.reach d).smn.partTime s.lp.notices) } } := by
  have bound : s.cp.write.bind (·.slot) = none := by rw [write]; exact untaken
  have fails : s.gradeExpires = (s.reach d).declareFailed := by
    simp [State.gradeExpires, CardPort.attachGrade, wait, CardPort.awaits, State.cardDeadline]
  rw [fails]
  simp only [State.declareFailed, State.reach_cp, bound]
  rfl

end

end Sys2Proof.Machine

open Sys2Proof.Machine

/-- Settles O52: a start finds no extent, asks for another grade or takes the head slot (`State.startWrite_extent`), and the
SET GRADE answer takes it too (`State.takeGradeAnswer_write`); its first block damages the slot or not
(`State.takeSlot_quiet`, `State.takeSlot_damages`). -/
theorem slotWriteTakesTheHeadSlot : Obligations.SlotWriteTakesTheHeadSlot := by
  rintro s ecc _ on rfl
  have start : exec (.slotWriteStart ecc) s = (s.writeStarts ecc).settled :=
    State.take_powered on (fun t => t.writeStarts ecc)
  have answer : exec (.setGradeAnswer ecc) s = (s.takeGradeAnswer ecc).settled :=
    State.take_powered on (fun t => t.takeGradeAnswer ecc)
  have timeout : exec .setGradeTimeout s = s.gradeExpires.settled := State.take_powered on State.gradeExpires
  refine ⟨fun n rest ready idle queue => ⟨fun empty => ?_, fun e g more extents lowest => ?_⟩,
    fun d w wait write => ⟨fun empty => ?_, fun n rest queue quiet => ?_, fun n rest queue damaged undamaged => ?_, ?_⟩⟩
  · rw [start, State.writeStarts_eq ready idle queue, State.startWrite_noExtent empty, State.headClip, queue]
    rfl
  · rw [start, State.writeStarts_eq ready idle queue, State.startWrite_extent extents (State.effectiveGrade_eq lowest)]
    refine ⟨fun another => ?_, fun same quiet => ?_, fun same damaged undamaged => ?_⟩
    · rw [if_neg another]
      rfl
    · rw [if_pos same, State.takeSlot_quiet (s := s.mapped e g) queue quiet]
      rfl
    · rw [if_pos same]
      obtain ⟨u, rfl, slot, rest, others, lp, clc, cp, mem, filling, ring, overrun, quarters, me, wu, sp, xm, chg, smn,
        powered, pending⟩ := State.takeSlot_damages (s := s.mapped e g)
          (w := ⟨none, e.first + e.used, 1, 0, 0, g⟩) queue damaged undamaged
      exact ⟨_, rfl, slot, rest, others, lp, clc, cp, mem, filling, ring, overrun, quarters, me, wu, sp, xm, chg, smn,
        powered.trans on, pending⟩
  · rw [answer, State.takeGradeAnswer_write wait write, State.takeSlot_empty (s := s.gradeTaken w) empty]
    rfl
  · rw [answer, State.takeGradeAnswer_write wait write,
      State.takeSlot_quiet (s := s.gradeTaken w) queue quiet]
    rfl
  · rw [answer, State.takeGradeAnswer_write wait write]
    obtain ⟨u, rfl, slot, rest, others, lp, clc, cp, mem, filling, ring, overrun, quarters, me, wu, sp, xm, chg, smn,
      powered, pending⟩ := State.takeSlot_damages (s := s.gradeTaken w)
        (w := w) queue damaged undamaged
    exact ⟨_, rfl, slot, rest, others, lp, clc, cp, mem, filling, ring, overrun, quarters, me, wu, sp, xm, chg, smn,
      powered.trans on, pending⟩
  · rintro r rfl untaken
    rw [timeout, State.gradeExpires_write wait write untaken]
    rfl
end

section
/-!
START RECORD (R81, R82, R123, R126): the clip that opens, and the pre-roll that becomes its first slots.
-/
set_option Elab.async false

namespace Sys2Proof.Machine

/-! ### Stamping slots in a row (R75, R81, R82) -/

section
variable {s : State} {k : Nat}

/-- A clip's record after slots of these first sync points were stamped for it one after another (R75, R82). -/
def ClipRecord.stampedAll (r : ClipRecord) (syncs : List (Option Nat)) : ClipRecord := syncs.foldl ClipRecord.stamped r

@[simp] theorem ClipRecord.stamped_number (r : ClipRecord) (sync : Option Nat) : (r.stamped sync).number = r.number :=
  (r.stamped_eases sync).number

@[simp] theorem ClipRecord.stamped_slotCount (r : ClipRecord) (sync : Option Nat) :
    (r.stamped sync).slotCount = min 4294967295 (r.slotCount + 1) := by
  simp only [ClipRecord.stamped]; split
  · split <;> rfl
  · rfl

/-- Later slots of a clip only raise its SLOT COUNT (R75, R82). -/
theorem ClipRecord.stampedAll_later {r : ClipRecord} (syncs : List (Option Nat)) (started : 0 < r.slotCount)
    (room : r.slotCount + syncs.length ≤ 4294967295) :
    r.stampedAll syncs = { r with slotCount := r.slotCount + syncs.length } := by
  induction syncs generalizing r with
  | nil => rfl
  | cons sync syncs ih =>
    rw [List.length_cons] at room
    have next : r.stamped sync = { r with slotCount := r.slotCount + 1 } := by
      have raised : raise lim32 r.slotCount 1 = r.slotCount + 1 := by simp only [raise, lim32]; omega
      simp only [ClipRecord.stamped, raised]
      rw [if_neg (by omega)]
    rw [ClipRecord.stampedAll, List.foldl_cons, next, ← ClipRecord.stampedAll,
      ih (r := { r with slotCount := r.slotCount + 1 }) (by simp) (by simp only; omega), List.length_cons]
    congr 1
    simp only
    omega

/-- The first slot settles where a new clip starts: at its first sync point (R75, R82). -/
theorem ClipRecord.stampedAll_fresh (number : Nat) (time : Time) (locked : Bool) {syncs : List (Option Nat)}
    (starts : ∀ sync, syncs.head? = some sync → sync ≠ none) (room : syncs.length ≤ 4294967295) :
    (ClipRecord.fresh number time locked).stampedAll syncs = { ClipRecord.fresh number time locked with
      slotCount := syncs.length, startOffset := syncs.head?.join } := by
  cases syncs with
  | nil => rfl
  | cons sync syncs =>
    obtain ⟨offset, rfl⟩ := Option.ne_none_iff_exists'.mp (starts sync rfl)
    have later := ClipRecord.stampedAll_later (r := (ClipRecord.fresh number time locked).stamped (some offset)) syncs
      (by simp [ClipRecord.fresh]) (by simp [ClipRecord.fresh] at room ⊢; omega)
    rw [ClipRecord.stampedAll, List.foldl_cons, ← ClipRecord.stampedAll, later]
    simp [ClipRecord.stamped, ClipRecord.fresh, raise, lim32, Nat.add_comm]

/-- The clip whose record is the last of the table. -/
theorem ClipController.clip_last {c : ClipController} {others : List ClipRecord} {r : ClipRecord}
    (clips : c.clips = others ++ [r]) (apart : ∀ q ∈ others, q.number ≠ r.number) : c.clip r.number = some r := by
  have none_before : others.find? (fun q => q.number == r.number) = none := by simpa using apart
  simp [ClipController.clip, clips, none_before]

theorem map_last {others : List ClipRecord} {r : ClipRecord} (apart : ∀ q ∈ others, q.number ≠ r.number)
    (f : ClipRecord → ClipRecord) :
    (others ++ [r]).map (fun q => if q.number = r.number then f q else q) = others ++ [f r] := by
  have same : others.map (fun q => if q.number = r.number then f q else q) = others :=
    (List.map_congr_left fun q mem => if_neg (apart q mem)).trans (List.map_id' others)
  rw [List.map_append, same]
  simp

/-- Slots in a row are stamped for the clip whose record is the last: the record, the write queue, and each slot's stamp
and header; every other slot and byte stays (R75 to R77, R81, R82). -/
theorem State.stampAll_last {slots : List Nat} {others : List ClipRecord} {c : ClipRecord}
    (clips : s.clc.clips = others ++ [c]) (apart : ∀ q ∈ others, q.number ≠ c.number) (distinct : slots.Nodup)
    (inside : ∀ m ∈ slots, m < 1024) (room : c.slotCount + slots.length ≤ 4294967295) : ∃ u : State,
    s.stampAll c.number slots = u ∧
      u.clc = { s.clc with clips := others ++ [c.stampedAll (slots.map (fun m => (s.sb.slot m).firstSync))] } ∧
      u.sb.queue = s.sb.queue ++ slots ∧ u.sb.ring = s.sb.ring ∧ u.sb.filling = s.sb.filling ∧
      u.sb.overrun = s.sb.overrun ∧ u.sb.quarters = s.sb.quarters ∧
      (∀ i m, slots[i]? = some m → u.sb.slot m = { s.sb.slot m with
        state := .queued, clip := some c.number, sequence := some (c.slotCount + i), final := false }) ∧
      (∀ m, m ∉ slots → u.sb.slots.lookup m = s.sb.slots.lookup m) ∧
      ∀ a, a / 65536 ∉ slots ∨ 64 ≤ a % 65536 → Memory.read u.sb.mem a = Memory.read s.sb.mem a := by
  induction slots generalizing s c with
  | nil => exact ⟨s, rfl, by rw [List.map_nil, ClipRecord.stampedAll, List.foldl_nil, ← clips], by simp, rfl, rfl, rfl,
      rfl, by simp, fun _ _ => rfl, fun _ _ => rfl⟩
  | cons n rest ih =>
    obtain ⟨n_rest, distinct⟩ := List.nodup_cons.mp distinct
    rw [List.length_cons] at room
    -- the state after the first slot is stamped
    obtain ⟨stamped, stamped_def⟩ : ∃ r : SlotRecord, r = { s.sb.slot n with
      state := .queued, clip := some c.number, sequence := some c.slotCount, final := false } := ⟨_, rfl⟩
    obtain ⟨t, t_def⟩ : ∃ t : State, t = { s with
      sb := { s.sb with
        slots := setEntry n stamped s.sb.slots, queue := s.sb.queue ++ [n]
        mem := Memory.write s.sb.mem (65536 * n) (slotHeader stamped) }
      clc := { s.clc with clips := others ++ [c.stamped (s.sb.slot n).firstSync] } } := ⟨_, rfl⟩
    have first : s.stampSlot n c.number false = t := by
      rw [State.stampSlot_eq (stamped := stamped) (inside n (by simp))
        (by rw [stamped_def, ClipController.clip_last clips apart]; rfl), clips, map_last apart, t_def]
    have lookup : ∀ m, t.sb.slots.lookup m = if m = n then some stamped else s.sb.slots.lookup m := by
      intro m
      rw [t_def]
      exact lookup_setEntry n m _ _
    have same : ∀ m ∈ rest, t.sb.slot m = s.sb.slot m := by
      intro m mem
      rw [SlotBuffer.slot, lookup, if_neg (by rintro rfl; exact n_rest mem), ← SlotBuffer.slot]
    have number : (c.stamped (s.sb.slot n).firstSync).number = c.number := c.stamped_number _
    have count : (c.stamped (s.sb.slot n).firstSync).slotCount = c.slotCount + 1 := by
      rw [ClipRecord.stamped_slotCount]; omega
    obtain ⟨u, all, clc, queue, ring, filling, overrun, quarters, slot, other, mem⟩ :=
      ih (s := t) (c := c.stamped (s.sb.slot n).firstSync) (by rw [t_def])
        (by rwa [number]) distinct (fun m mem => inside m (List.mem_cons_of_mem n mem)) (by omega)
    rw [number] at all slot
    rw [count] at slot
    refine ⟨u, by rw [State.stampAll, first, all], ?_, by rw [queue, t_def, List.append_assoc]; rfl, by rw [ring, t_def],
      by rw [filling, t_def], by rw [overrun, t_def], by rw [quarters, t_def], ?_, fun m out => ?_, fun a out => ?_⟩
    · rw [clc, List.map_congr_left fun m mem => by rw [same m mem], t_def]
      rfl
    · rintro (_ | i) m at_i
      · obtain rfl : n = m := by simpa using at_i
        rw [SlotBuffer.slot, other n n_rest, lookup, if_pos rfl, stamped_def]
        rfl
      · have at_i : rest[i]? = some m := by simpa using at_i
        rw [slot i m at_i, same m (List.mem_of_getElem? at_i), Nat.add_assoc, Nat.add_comm 1 i]
    · obtain ⟨m_n, m_rest⟩ := not_or.mp (List.mem_cons.not.mp out)
      rw [other m m_rest, lookup, if_neg m_n]
    · have apart_n : a < 65536 * n ∨ 65536 * n + (slotHeader stamped).length ≤ a := by
        rw [length_slotHeader]
        rcases out with elsewhere | high
        · have : a / 65536 ≠ n := fun e => elsewhere (e ▸ List.mem_cons_self)
          omega
        · omega
      rw [mem a (out.imp_left (mt (List.mem_cons_of_mem n)))]
      rw [t_def]
      exact Memory.read_write_outside _ _ _ _ apart_n

end

section
variable {s : State} {n k : Nat} {locked : Bool} {older slots : List Nat}

/-! ### The tests of a start (R126) -/

/-- The tests of R126 in the words of the statements. -/
theorem State.startRefusal_eq (s : State) : s.startRefusal =
    (if s.smn.standby ≠ .active then some (.refused .standby)
    else if s.clc.mode = .recording then some (.refused .recording)
    else if s.clc.drain ≠ none ∨ s.clc.powerClose ≠ none then some .busy
    else if s.smn.battery = .critical ∨ s.smn.die = .critical then some (.refused .lowPower)
    else if s.clc.nextClip = none then some (.refused .noRoom)
    else if 4 ≤ s.clc.clips.length ∧ ∀ c ∈ s.clc.clips, c.state ≠ .closed ∧ c.state ≠ .aborted then some .busy
    else none) := by
  have ending : (s.clc.ending = true) ↔ s.clc.drain ≠ none ∨ s.clc.powerClose ≠ none := by
    simp [ClipController.ending, Option.isSome_iff_ne_none]
  have free : (!s.clc.recordFree) = true ↔
      4 ≤ s.clc.clips.length ∧ ∀ c ∈ s.clc.clips, c.state ≠ .closed ∧ c.state ≠ .aborted := by
    simp [ClipController.recordFree]
  simp only [State.startRefusal, State.startBlocked, State.inStandby, State.levelCritical, decide_eq_true_eq, ending,
    Option.isNone_iff_eq_none, free]

/-! ### The clip that opens (R123, R126) -/

/-- The records that stay when a clip opens (R123). -/
def ClipController.keptRecords (c : ClipController) : List ClipRecord :=
  if 4 ≤ c.clips.length then dropOldest c.clips else c.clips

theorem ClipController.keptRecords_sublist (c : ClipController) : c.keptRecords.Sublist c.clips := by
  unfold ClipController.keptRecords; split
  · exact List.eraseP_sublist
  · exact List.Sublist.refl _

/-- A record that is removed is not CLOSING (R123). -/
theorem ClipController.keptRecords_closing (c : ClipController) :
    c.keptRecords.find? (fun r => decide (r.state = .closing)) = c.clips.find? (fun r => decide (r.state = .closing)) := by
  unfold ClipController.keptRecords dropOldest; split
  · induction c.clips with
    | nil => rfl
    | cons r rest ih =>
      by_cases gone : r.state = .closed ∨ r.state = .aborted
      · rw [List.eraseP_cons_of_pos (by simpa using gone), List.find?_cons_of_neg]
        rcases gone with e | e <;> simp [e]
      · rw [List.eraseP_cons_of_neg (by simpa using gone), List.find?_cons, List.find?_cons, ih]
  · rfl

/-- The recorder with a clip just opened, before the pre-roll becomes its slots (R123, R126). -/
def State.clipOpened (s : State) (n : Nat) (locked : Bool) : State := { s with clc := { s.clc with
  mode := .recording, clips := s.clc.keptRecords ++ [ClipRecord.fresh n s.smn.partTime locked]
  nextClip := numberAfter n, splitDue := false, forcedSplitDue := false } }

theorem State.startClip_eq (next : s.clc.nextClip = some n) : s.startClip locked =
    if s.clc.mode = .armed then (s.clipOpened n locked).takePreroll n else s.clipOpened n locked := by
  simp only [State.startClip, next, State.addClip]
  rfl

theorem State.clipOpened_trailerDue : (s.clipOpened n locked).clc.trailerDue = s.clc.trailerDue := by
  have closing : (s.clc.keptRecords ++ [ClipRecord.fresh n s.smn.partTime locked]).find?
      (fun r => decide (r.state = .closing)) = s.clc.clips.find? (fun r => decide (r.state = .closing)) := by
    rw [List.find?_append, s.clc.keptRecords_closing]
    simp [ClipRecord.fresh]
  simp only [ClipController.trailerDue, State.clipOpened, closing]

/-! ### The pre-roll (R81) -/

/-- The ring is cut at its oldest slot with a sync point (R81). -/
theorem ring_cut {p : Nat → Bool} (passed : ∀ m ∈ older, p m = true) (found : ∀ m, slots.head? = some m → p m = false) :
    (older ++ slots).takeWhile p = older ∧ (older ++ slots).dropWhile p = slots := by
  have stop : slots.takeWhile p = [] ∧ slots.dropWhile p = slots := by
    cases slots with
    | nil => exact ⟨rfl, rfl⟩
    | cons m rest => simp [found m rfl]
  rw [List.takeWhile_append_of_pos passed, List.dropWhile_append_of_pos passed, stop.1, stop.2, List.append_nil]
  exact ⟨rfl, rfl⟩

/-- The ring becomes the clip's first slots, where no trailer is due and no MOTION record is ready (R81, R85, R132). -/
theorem State.takePreroll_calm (calm : s.clc.trailerDue = none) (short : s.me.queue.length < 32)
    (ring : s.sb.ring = older ++ slots) (passed : ∀ m ∈ older, (s.sb.slot m).firstSync = none)
    (found : ∀ m, slots.head? = some m → (s.sb.slot m).firstSync ≠ none) :
    s.takePreroll k = ((s.setBuffer (fun b => { b with ring := [] })).freeSlots older).stampAll k slots := by
  obtain ⟨take, drop⟩ := ring_cut (p := fun m => (s.sb.slot m).firstSync.isNone) (older := older) (slots := slots)
    (by simpa using passed) (by simpa [← Option.not_isSome, Option.isSome_iff_ne_none] using found)
  have cut : s.prerollToClip k =
      ((s.setBuffer (fun b => { b with ring := [] })).freeSlots older).stampAll k slots := by
    have calm : (s.setBuffer (fun b => { b with ring := [] })).clc.trailerDue = none := calm
    simp only [State.prerollToClip, ring, take, drop, State.release_calm calm]
  simp only [State.takePreroll]
  split
  · exact cut
  · rw [State.retryMotion, State.pump_short (by simpa using short), ite_self, cut]

end

/-- Distinct numbers of slots are at most 1,024. -/
theorem length_le_slots {l : List Nat} (distinct : l.Nodup) (inside : ∀ m ∈ l, m < 1024) : l.length ≤ 1024 := by
  have sub : l ⊆ List.range 1024 := fun m mem => List.mem_range.mpr (inside m mem)
  simpa using (List.subperm_of_subset distinct sub).length_le

/-- A slot at a place is one of the 1,024 (R70). -/
theorem State.bufferOk.lt {s : State} (h : s.bufferOk) {m : Nat} (mem : m ∈ s.placedSlots) : m < 1024 := by
  obtain ⟨-, inside, -, listed, -⟩ := h
  obtain ⟨p, found, same⟩ := List.lookup_isSome_iff.mp (listed m mem)
  rw [beq_iff_eq.mp same]
  exact inside p found

end Sys2Proof.Machine

open Sys2Proof.Machine

/-- Settles O47: START RECORD reaches the Clip Controller, which makes the tests of R126 (`State.startRefusal_eq`); a start
from ARMED stamps the slots of the ring (`State.takePreroll_calm`, `State.stampAll_last`). -/
theorem startRecordOpensAClip : Obligations.StartRecordOpensAClip := by
  rintro s tag answer kept obeys answer_def rfl
  have start : exec (.startRecord tag []) s = s.startRecord.1.replied tag 0x08 s.startRecord.2 :=
    State.take_control obeys rfl _
  rw [← State.startRefusal_eq] at answer_def
  subst answer_def
  have accepted : ∀ n, s.startRefusal = none → s.clc.nextClip = some n →
      exec (.startRecord tag []) s = (s.startClip false).replied tag 0x08 (.done (.clipNumber n)) := by
    intro n none_applies next
    rw [start, State.startRecord, none_applies, next]
    rfl
  refine ⟨fun r applies => ?_, fun n none_applies next idle => ?_,
    fun n older slots none_applies next armed buffer numbers calm short ring passed found => ?_⟩
  · rw [start, State.startRecord, applies]
    rfl
  · rw [accepted n none_applies next, State.startClip_eq next, if_neg (by simp [idle])]
    rfl
  · rw [accepted n none_applies next, State.startClip_eq next, if_pos armed,
      State.takePreroll_calm (State.clipOpened_trailerDue.trans calm) short ring passed found]
    -- the slots of the ring, and the records beside the new one
    obtain ⟨-, -, placed, -⟩ := id buffer
    have ring_distinct : (older ++ slots).Nodup := by
      rw [← ring]
      exact placed.sublist (by simp [State.placedSlots])
    have slots_lt : ∀ m ∈ slots, m < 1024 := fun m mem => buffer.lt (by simp [State.placedSlots, ring, mem])
    obtain ⟨-, distinct, disjoint⟩ := List.nodup_append'.mp ring_distinct
    have few := length_le_slots distinct slots_lt
    obtain ⟨-, -, later⟩ := numbers
    have apart : ∀ q ∈ s.clc.keptRecords, q.number ≠ n := fun q mem =>
      Nat.ne_of_lt ((later n next).2.2 q (s.clc.keptRecords_sublist.subset mem))
    obtain ⟨u, stamps, clc, queue, u_ring, filling, overrun, quarters, slot, other, mem⟩ := State.stampAll_last
      (s := ((s.clipOpened n false).setBuffer (fun b => { b with ring := [] })).freeSlots older) (slots := slots)
      (others := s.clc.keptRecords) (c := ClipRecord.fresh n s.smn.partTime false) rfl apart distinct slots_lt
      (by simp [ClipRecord.fresh]; omega)
    have same : ∀ m ∉ older, (((s.clipOpened n false).setBuffer (fun b => { b with ring := [] })).freeSlots
        older).sb.slots.lookup m = s.sb.slots.lookup m := fun m out => (State.lookup_freeSlots ..).trans (if_neg out)
    have same_slot : ∀ m ∈ slots, (((s.clipOpened n false).setBuffer (fun b => { b with ring := [] })).freeSlots
        older).sb.slot m = s.sb.slot m := by
      intro m mem
      rw [SlotBuffer.slot, same m fun out => disjoint out mem, ← SlotBuffer.slot]
    obtain ⟨powered, me, wu, sp, lp, xm, cp, chg, smn, pending⟩ := State.stampAll_frame
      (((s.clipOpened n false).setBuffer (fun b => { b with ring := [] })).freeSlots older) n slots
    rw [show (ClipRecord.fresh n s.smn.partTime false).number = n from rfl] at stamps slot
    rw [stamps] at powered me wu sp lp xm cp chg smn pending ⊢
    rw [ClipRecord.stampedAll_fresh n s.smn.partTime false (by
      intro sync head
      rw [List.head?_map, Option.map_eq_some_iff] at head
      obtain ⟨m, head, rfl⟩ := head
      rw [same_slot m (List.mem_of_mem_head? head)]
      exact found m head) (by simp; omega)] at clc
    refine ⟨u, rfl, by rw [clc]; rfl, by rw [clc]; rfl, by rw [clc]; rfl, by rw [clc]; rfl, by rw [clc]; rfl, ?_, u_ring,
      queue, filling, overrun, quarters, fun m mem => ?_, fun i m at_i => ?_, fun m out => ?_, mem, me, wu, sp, lp, xm,
      cp, chg, smn, powered.trans obeys.1.1, pending⟩
    · rw [clc]
      cases slots with
      | nil => rfl
      | cons m rest =>
        simp only [List.map_cons, List.head?_cons, same_slot m List.mem_cons_self, List.length_cons, List.length_map]
        rfl
    · rw [other m fun out => disjoint mem out]
      exact (State.lookup_freeSlots ..).trans (if_pos mem)
    · rw [slot i m at_i, same_slot m (List.mem_of_getElem? at_i)]
      simp [ClipRecord.fresh]
    · rw [ring, List.mem_append, not_or] at out
      rw [other m out.2, same m out.1]
end

section
/-!
What the operations of the Slot Buffer write, whatever the number and the fill of the slot (R70, R71, R74 to R77, R132):
each changes the bytes of one slot alone.
-/
set_option Elab.async false

namespace Sys2Proof.Machine

/-! ### Bytes of one slot (R70, R71) -/

/-- Two contents of the stacked DRAM differ in the bytes of slot n alone. -/
def differOnlyIn (n : Nat) (old new : List Host.Cell) : Prop :=
  ∀ m k, m ≠ n → k < 65536 → Memory.read new (65536 * m + k) = Memory.read old (65536 * m + k)

theorem differOnlyIn.trans {n : Nat} {a b c : List Host.Cell} (h : differOnlyIn n a b) (h' : differOnlyIn n b c) :
    differOnlyIn n a c := fun m k other inside => (h' m k other inside).trans (h m k other inside)

section
variable {s : State} {n k : Nat} {final : Bool}

theorem State.writeSlot_differs (s : State) (n offset : Nat) (bs : List Byte) : ∃ mem,
    s.writeSlot n offset bs = s.setBuffer (fun b => { b with mem := mem }) ∧ differOnlyIn n s.sb.mem mem := by
  unfold State.writeSlot; split
  · next inside =>
    refine ⟨_, rfl, fun m k other low => Memory.read_write_outside _ _ _ _ ?_⟩
    simp only [slotAddress, Config.slotBytes] at inside ⊢
    omega
  · exact ⟨s.sb.mem, rfl, fun _ _ _ _ => rfl⟩

theorem State.padSlot_differs (s : State) (n : Nat) : ∃ mem,
    s.padSlot n = s.setBuffer (fun b => { b with mem := mem }) ∧ differOnlyIn n s.sb.mem mem :=
  s.writeSlot_differs n _ _

/-! ### Stamping and closing (R74 to R77, R82) -/

/-- The record of a slot stamped for a clip (R75, R76). -/
def State.stampOf (s : State) (n k : Nat) (final : Bool) : SlotRecord := { s.sb.slot n with
  state := .queued, clip := some k, sequence := some ((s.clc.clip k).elim 0 (·.slotCount)), final := final }

/-- The clip records after slot n was stamped for a clip (R75, R82). -/
def State.stampedClips (s : State) (n k : Nat) : List ClipRecord :=
  s.clc.clips.map (fun r => if r.number = k then r.stamped (s.sb.slot n).firstSync else r)

/-- A slot is stamped: its record, its place in the write queue, and its clip's record (R75 to R77). -/
theorem State.stampSlot_differs (s : State) (n k : Nat) (final : Bool) : ∃ mem,
    s.stampSlot n k final = { s with
      sb := { s.sb with slots := setEntry n (s.stampOf n k final) s.sb.slots, queue := s.sb.queue ++ [n], mem := mem }
      clc := { s.clc with clips := s.stampedClips n k } } ∧ differOnlyIn n s.sb.mem mem := by
  obtain ⟨mem, written, only⟩ := (s.setSlot n (s.stampOf n k final)).writeSlot_differs n 0
    (slotHeader (s.stampOf n k final))
  refine ⟨mem, ?_, only⟩
  rw [State.stampOf] at written
  simp only [State.stampSlot, written]
  rfl

/-- A FILLING slot that closes outside ARMED for a clip is finished and stamped, and the size test follows (R74 to R76). -/
theorem State.closeSlot_differs (filling : s.sb.filling = some n) (mode : s.clc.mode ≠ .armed) : ∃ mem,
    s.closeSlot (some k) final = State.sizeTest { s with
      sb := { s.sb with
        slots := setEntry n (s.stampOf n k final) s.sb.slots, filling := none, queue := s.sb.queue ++ [n], mem := mem }
      clc := { s.clc with clips := s.stampedClips n k } } k ∧ differOnlyIn n s.sb.mem mem := by
  obtain ⟨mem, padded, only⟩ := s.padSlot_differs n
  obtain ⟨mem', stamps, only'⟩ := ((s.setBuffer (fun b => { b with mem := mem })).setBuffer
    (fun b => { b with filling := none })).stampSlot_differs n k final
  refine ⟨mem', ?_, only.trans only'⟩
  simp only [State.closeSlot, filling, padded]
  rw [if_neg (by exact mode), stamps]
  rfl

theorem State.closeSlot_none (empty : s.sb.filling = none) (clip : Option Nat) : s.closeSlot clip final = s := by
  simp only [State.closeSlot, empty]

/-! ### Trailers (R132, R133) -/

/-- A trailer is formed: its slot's record and place at the head of the write queue, and the mark of its clip (R77, R133). -/
theorem State.formTrailer_differs (s : State) (c : ClipRecord) (n : Nat) : ∃ mem,
    s.formTrailer c n = { s with
      sb := { s.sb with
        slots := setEntry n (trailerRecord c s.smn.partTime) s.sb.slots, queue := n :: s.sb.queue, mem := mem
        quarters := s.sb.quarters.set (n / Config.quarterSlots) true }
      clc := { s.clc with clips := s.clc.clips.map (fun r =>
        if r.number = c.number then { r with trailerFormed := true } else r) } } ∧ differOnlyIn n s.sb.mem mem := by
  obtain ⟨mem, head, only⟩ := ((s.powerQuarter n).setSlot n (trailerRecord c s.smn.partTime)).writeSlot_differs n 0
    (slotHeader (trailerRecord c s.smn.partTime))
  obtain ⟨mem', body, only'⟩ := State.writeSlot_differs (((s.powerQuarter n).setSlot n
    (trailerRecord c s.smn.partTime)).setBuffer (fun b => { b with mem := mem })) n 64 (trailerBody c)
  refine ⟨mem', ?_, only.trans only'⟩
  rw [State.formTrailer, head, body]
  rfl

/-- The trailer test forms a due trailer in the lowest FREE slot, or does nothing (R132). -/
theorem State.trailerTest_cases (s : State) : s.trailerTest = s ∨ ∃ c n, s.clc.trailerDue = some c ∧ s.lowestFreeIs n ∧
    s.trailerTest = s.formTrailer c n := by
  unfold State.trailerTest; split
  · next c n due free => exact .inr ⟨c, n, due, State.lowestFree_eq_some.mp free, rfl⟩
  · exact .inl rfl

end

/-! ### The record of a clip after a change of records (R122) -/

/-- A change that keeps the numbers is read back at a clip's number. -/
theorem find?_map_number {clips : List ClipRecord} {f : ClipRecord → ClipRecord} (number : ∀ r, (f r).number = r.number)
    (k : Nat) : (clips.map f).find? (fun r => r.number == k) = (clips.find? (fun r => r.number == k)).map f := by
  rw [List.find?_map]
  congr 2
  funext r
  simp [number]

/-- The clips after records of one number changed. -/
theorem find?_map_if {clips : List ClipRecord} {f : ClipRecord → ClipRecord} (number : ∀ r, (f r).number = r.number)
    (k j : Nat) : (clips.map (fun r => if r.number = j then f r else r)).find? (fun r => r.number == k) =
      (clips.find? (fun r => r.number == k)).map (fun r => if k = j then f r else r) := by
  have keeps : ∀ r : ClipRecord, (if r.number = j then f r else r).number = r.number := by
    intro r; split
    · exact number r
    · rfl
  rw [find?_map_number keeps]
  cases found : clips.find? (fun r => r.number == k) with
  | none => rfl
  | some r =>
    have same : r.number = k := by simpa using List.find?_some found
    simp [same]

end Sys2Proof.Machine
end

section
/-!
The end of a clip's data (R75, R76, R129): the FILLING slot closes FINAL, the data is done, and the trailer test follows
(R132).
-/
set_option Elab.async false

namespace Sys2Proof.Machine

section
variable {s t u : State} {k : Nat} {r q : ClipRecord}

@[simp] theorem ClipRecord.stamped_fields (r : ClipRecord) (sync : Option Nat) : (r.stamped sync).state = r.state ∧
    (r.stamped sync).endReason = r.endReason ∧ (r.stamped sync).gapCount = r.gapCount ∧
    (r.stamped sync).dataDone = r.dataDone ∧ (r.stamped sync).written = r.written ∧
    (r.stamped sync).trailerFormed = r.trailerFormed ∧ (r.stamped sync).locked = r.locked ∧
    (r.stamped sync).trailerPosition = r.trailerPosition := by
  simp only [ClipRecord.stamped]; split
  · split <;> exact ⟨rfl, rfl, rfl, rfl, rfl, rfl, rfl, rfl⟩
  · exact ⟨rfl, rfl, rfl, rfl, rfl, rfl, rfl, rfl⟩

/-- Only an OPEN clip's SLOT COUNT is compared with the CLIP SIZE LIMIT (R130). -/
theorem State.sizeTest_ended (held : s.clc.clip k = some r) (ended : r.state ≠ .opened) : s.sizeTest k = s := by
  rw [State.sizeTest, held]
  simp [ended]

/-- The trailer test keeps every listed slot with its bytes and every slot that waits, and marks one clip at most (R132). -/
theorem State.trailerTest_keeps (s : State) : ∃ f : ClipRecord → ClipRecord,
    (∀ r, f r = r ∨ f r = { r with trailerFormed := true }) ∧
      s.trailerTest.clc = { s.clc with clips := s.clc.clips.map f } ∧
      (∀ n ∈ s.sb.queue, n ∈ s.trailerTest.sb.queue) ∧
      ∀ m, (s.sb.slots.lookup m).isSome = true → s.trailerTest.sb.slots.lookup m = s.sb.slots.lookup m ∧
        ∀ k, k < 65536 → Memory.read s.trailerTest.sb.mem (65536 * m + k) = Memory.read s.sb.mem (65536 * m + k) := by
  rcases s.trailerTest_cases with none_due | ⟨c, n, -, ⟨-, free, -⟩, formed⟩
  · rw [none_due]
    exact ⟨id, fun r => .inl rfl, by rw [List.map_id], fun _ => id, fun m _ => ⟨rfl, fun _ _ => rfl⟩⟩
  · obtain ⟨mem, trailer, only⟩ := s.formTrailer_differs c n
    rw [formed, trailer]
    refine ⟨fun r => if r.number = c.number then { r with trailerFormed := true } else r, fun r => ?_, rfl,
      fun m mem => List.mem_cons_of_mem n mem, fun m listed => ?_⟩
    · by_cases same : r.number = c.number
      · exact .inr (if_pos same)
      · exact .inl (if_neg same)
    · have other : m ≠ n := by
        rintro rfl
        rw [free] at listed
        cases listed
      exact ⟨(lookup_setEntry n m _ _).trans (if_neg other), fun k low => only m k other low⟩

/-- The FILLING slot closes FINAL for a clip that has ended: it is stamped, and other slots stay (R75, R76, R129). -/
theorem State.closeSlot_final (mode : s.clc.mode ≠ .armed) (held : s.clc.clip k = some r) (ended : r.state ≠ .opened) :
    ∃ sb clips q, s.closeSlot (some k) true = { s with sb := sb, clc := { s.clc with clips := clips } } ∧
      clips.find? (fun c => c.number == k) = some q ∧
      (q.state = r.state ∧ q.endReason = r.endReason ∧ q.gapCount = r.gapCount ∧
        q.slotCount = if s.sb.filling = none then r.slotCount else min 4294967295 (r.slotCount + 1)) ∧
      sb.filling = none ∧ sb.ring = s.sb.ring ∧
      (∀ n, s.sb.filling = some n → n ∈ sb.queue ∧ sb.slots.lookup n = some { s.sb.slot n with
        state := .queued, clip := some k, sequence := some r.slotCount, final := true }) ∧
      (∀ n ∈ s.sb.queue, n ∈ sb.queue) ∧
      ∀ m, s.sb.filling ≠ some m → sb.slots.lookup m = s.sb.slots.lookup m ∧
        ∀ k, k < 65536 → Memory.read sb.mem (65536 * m + k) = Memory.read s.sb.mem (65536 * m + k) := by
  cases filling : s.sb.filling with
  | none =>
    rw [State.closeSlot_none filling]
    exact ⟨s.sb, s.clc.clips, r, rfl, held, ⟨rfl, rfl, rfl, rfl⟩, filling, rfl, nofun, fun _ => id,
      fun m _ => ⟨rfl, fun _ _ => rfl⟩⟩
  | some n =>
    obtain ⟨mem, closes, only⟩ := State.closeSlot_differs (k := k) (final := true) filling mode
    have stamped : (s.stampedClips n k).find? (fun c => c.number == k) = some (r.stamped (s.sb.slot n).firstSync) := by
      rw [State.stampedClips, find?_map_if fun r => r.stamped_number _]
      simp [show s.clc.clips.find? (fun c => c.number == k) = some r from held]
    obtain ⟨state, reason, gap, -⟩ := r.stamped_fields (s.sb.slot n).firstSync
    rw [closes, State.sizeTest_ended (r := r.stamped (s.sb.slot n).firstSync) (by exact stamped) (by rwa [state])]
    refine ⟨_, _, _, rfl, stamped, ⟨state, reason, gap, by simp⟩, rfl, rfl, ?_, fun m => List.mem_append_left _,
      fun m other => ?_⟩
    · rintro _ ⟨rfl⟩
      refine ⟨List.mem_append_right _ (List.mem_singleton_self n), (lookup_setEntry n n _ _).trans ?_⟩
      rw [if_pos rfl, State.stampOf, held]
      rfl
    · have other : m ≠ n := fun e => other (by rw [e])
      exact ⟨(lookup_setEntry n m _ _).trans (if_neg other), fun k low => only m k other low⟩

/-- What the end of a clip's data leaves (R129): the clip's record, the rest of the recorder, and the buffer. -/
theorem State.finishClip_ends (on : s.powered = true) (mode : s.clc.mode = .idle) (held : s.clc.clip k = some r)
    (closing : r.state = .closing) : ∃ q, (s.finishClip k).clc.clip k = some q ∧ q.endReason = r.endReason ∧
      q.gapCount = r.gapCount ∧ s.drained (s.finishClip k) k r.slotCount q ∧
      ∃ clips, (s.finishClip k).clc = { s.clc with clips := clips, drain := none } := by
  obtain ⟨sb, clips, q, closes, found, ⟨state, reason, gap, count⟩, filling, ring, final, queue, others⟩ :=
    State.closeSlot_final (by simp [mode]) held (by simp [closing])
  -- the state before the trailer test
  obtain ⟨t, t_def⟩ : ∃ t : State, t = { s with
    sb := { sb with overrun := false }
    clc := { s.clc with
      clips := clips.map (fun c => if c.number = k then { c with dataDone := true } else c), drain := none } } := ⟨_, rfl⟩
  have finishes : s.finishClip k = t.trailerTest := by rw [State.finishClip, closes, t_def]; rfl
  obtain ⟨f, formed, clc, waits, listed⟩ := t.trailerTest_keeps
  obtain ⟨t_filling, t_ring, t_overrun⟩ := t.trailerTest_places
  have f_number : ∀ r, (f r).number = r.number := by
    intro r; rcases formed r with e | e <;> rw [e]
  have held_after : (s.finishClip k).clc.clip k = some (f { q with dataDone := true }) := by
    rw [finishes, clc, ClipController.clip, find?_map_number f_number, t_def]
    dsimp only
    rw [find?_map_if (f := fun c => { c with dataDone := true }) (fun _ => rfl), found]
    simp
  have f_fields : (f { q with dataDone := true }).state = q.state ∧ (f { q with dataDone := true }).endReason = q.endReason ∧
      (f { q with dataDone := true }).gapCount = q.gapCount ∧ (f { q with dataDone := true }).dataDone = true ∧
      (f { q with dataDone := true }).slotCount = q.slotCount := by
    rcases formed { q with dataDone := true } with e | e <;> rw [e] <;> exact ⟨rfl, rfl, rfl, rfl, rfl⟩
  obtain ⟨f_state, f_reason, f_gap, f_done, f_count⟩ := f_fields
  obtain ⟨powered, -, wu, sp, lp, xm, cp, chg, -, pending⟩ := s.finishClip_frame k
  refine ⟨_, held_after, f_reason.trans reason, f_gap.trans gap, ⟨f_state.trans (state.trans closing), f_done,
    f_count.trans count, ?_, ?_, ?_, ?_, ?_, fun n fills _ _ => ?_, fun n mem => ?_, fun m m_listed other => ?_, wu, sp, lp,
    xm, cp, chg, powered.trans on, pending⟩, ?_⟩
  · rw [finishes, clc, t_def]
  · rw [finishes, clc, t_def]
    exact mode
  · rw [finishes, t_filling, t_def]
    exact filling
  · rw [finishes, t_overrun, t_def]
  · rw [finishes, t_ring, t_def]
    exact ring
  · obtain ⟨waiting, record⟩ := final n fills
    have there : t.sb.slots.lookup n = some { s.sb.slot n with
        state := .queued, clip := some k, sequence := some r.slotCount, final := true } := by rw [t_def]; exact record
    rw [finishes]
    refine ⟨waits n (by rw [t_def]; exact waiting), ?_⟩
    rw [SlotBuffer.slot, (listed n (by rw [there]; rfl)).1, there]
    rfl
  · rw [finishes]
    exact waits n (by rw [t_def]; exact queue n mem)
  · obtain ⟨lookup, bytes⟩ := others m other
    have lookup : t.sb.slots.lookup m = s.sb.slots.lookup m := by rw [t_def]; exact lookup
    have bytes : ∀ k, k < 65536 → Memory.read t.sb.mem (65536 * m + k) = Memory.read s.sb.mem (65536 * m + k) := by
      rw [t_def]; exact bytes
    obtain ⟨keeps, keeps_bytes⟩ := listed m (by rwa [lookup])
    rw [finishes]
    exact ⟨keeps.trans lookup, fun k low => (keeps_bytes k low).trans (bytes k low)⟩
  · rw [finishes, clc, t_def]
    exact ⟨_, rfl⟩

/-- `drained` reads of the first state the blocks that a clip's end leaves alone. -/
theorem State.drained.of_same {n : Nat} (h : t.drained u k n q) (sb : t.sb = s.sb := by rfl) (wu : t.wu = s.wu := by rfl)
    (sp : t.sp = s.sp := by rfl) (lp : t.lp = s.lp := by rfl) (xm : t.xm = s.xm := by rfl) (cp : t.cp = s.cp := by rfl)
    (chg : t.chg = s.chg := by rfl) (pending : t.pending = s.pending := by rfl) : s.drained u k n q := by
  simpa only [State.drained, sb, wu, sp, lp, xm, cp, chg, pending] using h

/-! ### The end of a recording (R128, R136) -/

/-- The OPEN clip of the table. -/
theorem ClipController.openClip_mem {c : ClipController} (opened : c.openClip = some r) :
    r ∈ c.clips ∧ r.state = .opened :=
  ⟨List.mem_of_find?_eq_some opened, by simpa using List.find?_some opened⟩

/-- The record of a number that the table holds is found. -/
theorem ClipController.clip_isSome {c : ClipController} (mem : r ∈ c.clips) : ∃ q, c.clip r.number = some q := by
  cases found : c.clip r.number with
  | some q => exact ⟨q, rfl⟩
  | none => exact absurd rfl (ClipController.clip_eq_none.mp found r mem)

/-- The clip that ends is CLOSING with its END REASON, and the mode is IDLE (R128, R136). -/
theorem State.endRecording_held {reason : EndReason} (held : s.clc.clip k = some r) :
    (s.endRecording k reason).clc.clip k = some { r with state := .closing, endReason := some reason } := by
  rw [ClipController.clip, show (s.endRecording k reason).clc.clips = s.clc.clips.map (fun r => if r.number = k then
    { r with state := .closing, endReason := some reason } else r) from rfl,
    find?_map_if (f := fun r => { r with state := .closing, endReason := some reason }) (fun _ => rfl),
    show s.clc.clips.find? (fun r => r.number == k) = some r from held]
  simp

end

end Sys2Proof.Machine
end

section
/-!
The sweep (R142): the classifications, the target, the start of a power close and the cutoff (R136, R137, R150, R159 to R162).
-/
set_option Elab.async false

namespace Sys2Proof.Machine

/-! ### What the charger's steps keep (R147, R148, R152) -/

/-- The parts of the Charge Controller that steps 4 to 6 of a sweep read and never write (R142). -/
def ChargeController.wiring (c : ChargeController) : ProfileTable × Bool × Option Int := (c.table, c.switchClosed, c.avail)

/-- Every notice that waits and is not CHARGE STATE is kept (R173). -/
def State.keepsNotices (s t : State) : Prop := ∀ n ∈ s.lp.notices, n.kind ≠ .chargeState → n ∈ t.lp.notices

/-- The counts, the target and then the charger's state may change; a changed state posts CHARGE STATE (R147). -/
def State.charges (s t : State) : Prop := ∃ c : ChargeController, c.wiring = s.chg.wiring ∧
  (t = { s with chg := c } ∨ ∃ state reason, t = ({ s with chg := c } : State).moveCharger state reason)

section
variable {s t u : State} {r : Readings} {k : Nat}

theorem mem_postNotice_of_ne {kind : NoticeKind} {n : Notice} {q : List Notice} (mem : n ∈ q) (other : n.kind ≠ kind)
    (value : NoticeValue) (now : Time) : n ∈ postNotice kind value now q := by
  induction q with
  | nil => exact absurd mem List.not_mem_nil
  | cons m rest ih =>
    unfold postNotice
    rcases List.mem_cons.mp mem with rfl | later
    · rw [if_neg other]
      exact List.mem_cons_self
    · split
      · exact List.mem_cons_of_mem _ later
      · exact List.mem_cons_of_mem _ (ih later)

@[simp] theorem State.moveCharger_chg (s : State) (state : ChargerState) (reason : Option ChargeReason) :
    (s.moveCharger state reason).chg = { s.chg with state := state, reason := reason } := by
  unfold State.moveCharger; split
  · next same => rw [← same.1, ← same.2]
  · rfl

theorem State.moveCharger_notices (s : State) (state : ChargerState) (reason : Option ChargeReason) :
    s.keepsNotices (s.moveCharger state reason) := by
  intro n mem other
  unfold State.moveCharger; split
  · exact mem
  · exact mem_postNotice_of_ne mem other _ _

theorem State.charges.wiring (h : s.charges t) : t.chg.wiring = s.chg.wiring := by
  obtain ⟨c, same, rfl | ⟨state, reason, rfl⟩⟩ := h
  · exact same
  · simpa [ChargeController.wiring] using same

theorem State.charges.notices (h : s.charges t) : s.keepsNotices t := by
  obtain ⟨c, same, rfl | ⟨state, reason, rfl⟩⟩ := h
  · exact fun n mem _ => mem
  · exact State.moveCharger_notices { s with chg := c } state reason

theorem State.charges.same (s : State) : s.charges s := ⟨s.chg, rfl, .inl rfl⟩

theorem State.charges.set (s : State) (f : ChargeController → ChargeController)
    (wired : (f s.chg).wiring = s.chg.wiring := by rfl) : s.charges (s.setCharge f) := ⟨_, wired, .inl rfl⟩

theorem State.charges.move (s : State) (state : ChargerState) (reason : Option ChargeReason) :
    s.charges (s.moveCharger state reason) := ⟨s.chg, rfl, .inr ⟨state, reason, rfl⟩⟩

theorem State.charges.setMove (s : State) (f : ChargeController → ChargeController) (state : ChargerState)
    (reason : Option ChargeReason) (wired : (f s.chg).wiring = s.chg.wiring := by rfl) :
    s.charges ((s.setCharge f).moveCharger state reason) := ⟨_, wired, .inr ⟨state, reason, rfl⟩⟩

theorem State.charges.timerFault (s : State) (f : ChargeController → ChargeController) (reason : ChargeReason)
    (wired : (f s.chg).wiring = s.chg.wiring := by rfl) : s.charges ((s.setCharge f).timerFault reason) :=
  .setMove s (fun c => { f c with target := 0 }) .fault (some reason) wired

/-- Step 4 of a sweep (R148). -/
theorem State.chargeStep_charges (s : State) (r : Readings) : s.charges (s.chargeStep r) := by
  have row : ∀ p, s.charges (s.rowStep r p) := by
    intro p
    unfold State.rowStep; split
    case h_1 => split; exacts [.setMove s _ _ _, .same s]
    case h_2 => split; exacts [.setMove s _ _ _, .same s]
    case h_3 =>
      split
      · exact .move s _ _
      · dsimp only [State.taperSweep]
        split; exacts [.setMove s _ _ _, .set s _]
    case h_4 => split; exacts [.setMove s _ _ _, .same s]
    case h_5 => exact .move s _ _
    case h_6 => exact .same s
  have pause : ∀ x, s.charges (s.pauseStep x) := by
    intro x
    unfold State.pauseStep
    split; exacts [.move s _ _, .move s _ _, .move s _ _,
      .move s _ _, .same s]
  have absent : s.charges s.absentStep := by
    unfold State.absentStep
    split; exacts [.same s, .same s, .same s, .move s _ _]
  have fault : s.charges (s.faultStep r) := by
    unfold State.faultStep
    split; exacts [.setMove s _ _ _, .same s]
  unfold State.chargeStep; split
  · split
    · exact absent
    · split
      · exact fault
      · split
        · exact row _
        · exact pause _
  · exact .same s

/-- Step 6 of a sweep: a safety count at its limit makes FAULT with target 0, and otherwise the state and the target stay
(R152). -/
theorem State.tickTimers_charges (s : State) : s.charges s.tickTimers ∧
    (s.tickTimers.chg.state = s.chg.state ∧ s.tickTimers.chg.target = s.chg.target ∨
      s.tickTimers.chg.state = .fault ∧ s.tickTimers.chg.target = 0) := by
  have fast : s.charges s.fastTick ∧ (s.fastTick.chg.state = s.chg.state ∧ s.fastTick.chg.target = s.chg.target ∨
      s.fastTick.chg.state = .fault ∧ s.fastTick.chg.target = 0) := by
    dsimp only [State.fastTick]; split
    · exact ⟨.timerFault s _ _, .inr (by simp [State.timerFault])⟩
    · exact ⟨.set s _, .inl ⟨rfl, rfl⟩⟩
  unfold State.tickTimers; split
  · exact ⟨.same s, .inl ⟨rfl, rfl⟩⟩
  · split
    · dsimp only [State.prechargeTick]; split
      · exact ⟨.timerFault s _ _, .inr (by simp [State.timerFault])⟩
      · exact ⟨.set s _, .inl ⟨rfl, rfl⟩⟩
    · exact fast
    · exact fast
    · exact ⟨.same s, .inl ⟨rfl, rfl⟩⟩

/-! ### The stages of a sweep (R142) -/

/-- Steps 1 to 3: the table, the input and avail. -/
def State.sweepInput (s : State) (r : Readings) : State := ((s.beginSweep r).takeProfile.testInput r).formAvail r

/-- Steps 4 to 6: the transition, the target and the timers. -/
def State.sweepTail (s : State) (r : Readings) : State := ((s.chargeStep r).setTarget r).tickTimers

theorem State.takeSweep_eq (s : State) (r : Readings) : s.takeSweep r =
    ((((s.sweepInput (clampReadings r)).classifyBattery (clampReadings r)).classifyDie (clampReadings r)).sweepTail
      (clampReadings r)).endSweep s (clampReadings r) := rfl

@[simp] theorem State.sweepTail_frame (s : State) (r : Readings) : (s.sweepTail r).powered = s.powered ∧
    (s.sweepTail r).me = s.me ∧ (s.sweepTail r).wu = s.wu ∧ (s.sweepTail r).sp = s.sp ∧ (s.sweepTail r).sb = s.sb ∧
    (s.sweepTail r).xm = s.xm ∧ (s.sweepTail r).cp = s.cp ∧ (s.sweepTail r).clc = s.clc ∧
    (s.sweepTail r).smn = s.smn ∧ (s.sweepTail r).pending = s.pending := by
  simp [State.sweepTail]

/-- The steps 4 to 6 keep the table, the input switch and avail. -/
theorem State.sweepTail_wiring (s : State) (r : Readings) : (s.sweepTail r).chg.table = s.chg.table ∧
    (s.sweepTail r).chg.switchClosed = s.chg.switchClosed ∧ (s.sweepTail r).chg.avail = s.chg.avail := by
  have kept : (s.sweepTail r).chg.wiring = s.chg.wiring := by
    rw [State.sweepTail, (State.tickTimers_charges _).1.wiring]
    exact (s.chargeStep_charges r).wiring
  simpa [ChargeController.wiring] using kept

theorem State.sweepTail_notices (s : State) (r : Readings) : s.keepsNotices (s.sweepTail r) := fun n mem other =>
  (State.tickTimers_charges _).1.notices n ((s.chargeStep_charges r).notices n mem other) other

/-- The target that steps 5 and 6 leave (R150, R152). -/
theorem State.sweepTail_target (s : State) (r : Readings) :
    (s.sweepTail r).chg.target = targetOf (s.sweepTail r).chg s.smn.die r.tBat := by
  obtain ⟨table, -, avail⟩ := s.sweepTail_wiring r
  have wired := (s.chargeStep_charges r).wiring
  simp only [ChargeController.wiring, Prod.mk.injEq] at wired
  obtain ⟨table', -, avail'⟩ := wired
  have smn : (s.chargeStep r).smn = s.smn := by simp
  rcases (State.tickTimers_charges ((s.chargeStep r).setTarget r)).2 with ⟨state, target⟩ | ⟨state, target⟩
  · have same : targetOf (s.sweepTail r).chg s.smn.die r.tBat = targetOf (s.chargeStep r).chg s.smn.die r.tBat := by
      have state : (s.sweepTail r).chg.state = (s.chargeStep r).chg.state := state
      simp only [targetOf, ceilingOf, state, table, avail, table', avail']
    rw [same, State.sweepTail, target, ← smn]
    rfl
  · rw [State.sweepTail, target, targetOf, state]
    rfl

/-! ### Steps 1 to 3 (R143, R145, R155) -/

theorem State.takeProfile_chg (s : State) : s.takeProfile.chg =
    { s.chg with table := s.chg.pendingTable.getD s.chg.table, pendingTable := none } := by
  unfold State.takeProfile; split
  · next pending => rw [pending]; rfl
  · next pending => rw [pending, Option.getD_none, ← pending]

/-- The input test keeps the table (R143). -/
theorem State.testInput_table (s : State) (r : Readings) : (s.testInput r).chg.table = s.chg.table := by
  have opened : ∀ why, (s.openSwitch why).chg.table = s.chg.table := by
    intro why
    simp [State.openSwitch, ChargeController.zeroCounts]
  have qualify : (s.qualifySweep r).chg.table = s.chg.table := by
    dsimp only [State.qualifySweep]; split
    · simp [State.admitInput, State.chargeStart, ChargeController.zeroCounts]
    · rfl
  have opens : (s.openInput r).chg.table = s.chg.table := by
    unfold State.openInput; (repeat' split) <;> simp [qualify]
  unfold State.testInput; (repeat' split) <;> simp [opened, opens]

/-- In ACTIVE the input test leaves levels, mode and buffer alone; the levels it never changes (R143, R165). -/
theorem State.testInput_smn (s : State) (r : Readings) : (s.testInput r).smn.battery = s.smn.battery ∧
    (s.testInput r).smn.die = s.smn.die ∧ (s.testInput r).smn.criticalCount = s.smn.criticalCount ∧
    ((s.testInput r).smn.standby = .active ↔ s.smn.standby = .active) ∧
    (s.smn.standby = .active → (s.testInput r).sb = s.sb) := by
  have arrives : ∀ t : State, t.smn = s.smn → t.sb = s.sb → t.inputArrives.smn.battery = s.smn.battery ∧
      t.inputArrives.smn.die = s.smn.die ∧ t.inputArrives.smn.criticalCount = s.smn.criticalCount ∧
      (t.inputArrives.smn.standby = .active ↔ s.smn.standby = .active) ∧
      (s.smn.standby = .active → t.inputArrives.sb = s.sb) := by
    intro t smn sb
    unfold State.inputArrives; split
    · next asleep =>
      obtain ⟨standby, -, -⟩ := asleep
      rw [smn] at standby
      simp [State.startWake, State.setSupply, State.setBuffer, smn, standby]
    · simp [smn, sb]
  have same : ∀ t : State, t.smn = s.smn → t.sb = s.sb → t.smn.battery = s.smn.battery ∧
      t.smn.die = s.smn.die ∧ t.smn.criticalCount = s.smn.criticalCount ∧
      (t.smn.standby = .active ↔ s.smn.standby = .active) ∧ (s.smn.standby = .active → t.sb = s.sb) := by
    intro t smn sb
    simp [smn, sb]
  unfold State.testInput State.openInput
  split
  · split
    · exact same _ rfl rfl
    · exact same _ (by simp) (by simp)
  · split
    · split
      · exact same _ (by simp) (by simp)
      · exact same _ rfl rfl
    · split
      · split
        · exact same _ (by simp) (by simp)
        · exact same _ rfl rfl
      · split
        · exact same _ (by simp) (by simp)
        · dsimp only [State.qualifySweep]; split
          · exact arrives _ (by simp) (by simp)
          · exact same _ rfl rfl
      · exact same _ rfl rfl

/-- The input test leaves the switch open where the voltage does not qualify (R143, R144). -/
theorem State.testInput_open (switch : s.switchOk) (off : 6000 < r.vIn ∨ r.vIn < 4200 ∨
    s.chg.switchClosed = false ∧ s.chg.qualifyCount < 199) : (s.testInput r).chg.switchClosed = false := by
  have opened : ∀ why, (s.openSwitch why).chg.switchClosed = false := by
    intro why
    simp [State.openSwitch]
  unfold State.testInput; split
  · split
    · next held =>
      have unswitched : ¬s.chg.switchClosed = true := fun closed => (switch.mp closed).1 held.1
      simpa using unswitched
    · exact opened _
  · next fits =>
    have off : r.vIn < 4200 ∨ s.chg.switchClosed = false ∧ s.chg.qualifyCount < 199 := off.resolve_left fits
    split
    · next closed =>
      rw [if_pos (off.resolve_right fun h => by simp [closed] at h)]
      exact opened _
    · next unswitched =>
      have unswitched : s.chg.switchClosed = false := by simpa using unswitched
      have counts : r.vIn < 4400 ∨ s.chg.qualifyCount < 199 := by
        rcases off with low | ⟨-, few⟩
        · exact .inl (by omega)
        · exact .inr few
      unfold State.openInput; split
      · split <;> simp [unswitched]
      · split
        · simp [unswitched]
        · next reached =>
          have few := counts.resolve_left reached
          dsimp only [State.qualifySweep]
          rw [if_neg (by simp only [State.setCharge_chg, raise]; omega)]
          exact unswitched
      · exact unswitched

/-- What the steps 1 to 3 leave to the classifications. -/
theorem State.sweepInput_spec (s : State) (r : Readings) :
    (s.sweepInput r).chg.table = s.chg.pendingTable.getD s.chg.table ∧
    (s.sweepInput r).smn.battery = s.smn.battery ∧ (s.sweepInput r).smn.die = s.smn.die ∧
    (s.sweepInput r).smn.criticalCount = s.smn.criticalCount ∧
    ((s.sweepInput r).smn.standby = .active ↔ s.smn.standby = .active) ∧
    (s.smn.standby = .active → (s.sweepInput r).sb = s.sb) := by
  have begun : (s.beginSweep r).smn.battery = s.smn.battery ∧ (s.beginSweep r).smn.die = s.smn.die ∧
      (s.beginSweep r).smn.criticalCount = s.smn.criticalCount ∧ (s.beginSweep r).smn.standby = s.smn.standby := by
    unfold State.beginSweep
    split <;> exact ⟨rfl, rfl, rfl, rfl⟩
  obtain ⟨battery, die, count, standby, sb⟩ := State.testInput_smn (s.beginSweep r).takeProfile r
  simp only [State.takeProfile_frame, State.beginSweep_frame, begun] at battery die count standby sb
  refine ⟨?_, battery, die, count, standby, sb⟩
  show ((s.beginSweep r).takeProfile.testInput r).chg.table = _
  rw [State.testInput_table, State.takeProfile_chg]
  simp

@[simp] theorem State.sweepInput_frame (s : State) (r : Readings) : (s.sweepInput r).powered = s.powered ∧
    (s.sweepInput r).me = s.me ∧ (s.sweepInput r).wu = s.wu ∧ (s.sweepInput r).sp = s.sp ∧
    (s.sweepInput r).xm = s.xm ∧ (s.sweepInput r).cp = s.cp ∧ (s.sweepInput r).clc = s.clc ∧
    (s.sweepInput r).pending = s.pending := by
  simp [State.sweepInput]

/-- The steps 1 to 3 leave the switch open where the voltage does not qualify (R143, R144). -/
theorem State.sweepInput_open (switch : s.switchOk) (off : 6000 < r.vIn ∨ r.vIn < 4200 ∨
    s.chg.switchClosed = false ∧ s.chg.qualifyCount < 199) : (s.sweepInput r).chg.switchClosed = false := by
  have chg : (s.beginSweep r).takeProfile.chg =
      { s.chg with table := s.chg.pendingTable.getD s.chg.table, pendingTable := none } := by
    rw [State.takeProfile_chg]
    simp
  exact State.testInput_open (s := (s.beginSweep r).takeProfile) (by simpa only [State.switchOk, chg] using switch)
    (by simpa only [chg] using off)

/-! ### The classifications (R159, R161) -/

theorem State.classifyBattery_smn (s : State) (r : Readings) : (s.classifyBattery r).smn = { s.smn with
    battery := batteryAfter s.smn.battery (criticalCountAfter s.smn s.chg r.vBat) s.chg.table r.vBat
    criticalCount :=
      if batteryAfter s.smn.battery (criticalCountAfter s.smn s.chg r.vBat) s.chg.table r.vBat = .critical then 0
      else criticalCountAfter s.smn s.chg r.vBat } := by
  simp [State.classifyBattery]

theorem State.classifyDie_smn (s : State) (r : Readings) :
    (s.classifyDie r).smn = { s.smn with die := dieAfter s.smn.die r.tDie } := by
  simp [State.classifyDie]

/-- The level of R161 by its codes: a rise to the threshold reached, else the fall. -/
theorem dieAfter_code (level : DieLevel) (t : Int) : (dieAfter level t).code =
    if level.code < (if 1150 ≤ t then 3 else if 1000 ≤ t then 2 else if 850 ≤ t then 1 else 0)
    then (if 1150 ≤ t then 3 else if 1000 ≤ t then 2 else if 850 ≤ t then 1 else 0)
    else min level.code (if 1100 < t then 3 else if 950 < t then 2 else if 800 < t then 1 else 0) := by
  have reached : (dieReached t).code = if 1150 ≤ t then 3 else if 1000 ≤ t then 2 else if 850 ≤ t then 1 else 0 := by
    unfold dieReached; (repeat' split) <;> rfl
  have held : (dieHeld t).code = if 1100 < t then 3 else if 950 < t then 2 else if 800 < t then 1 else 0 := by
    unfold dieHeld; (repeat' split) <;> rfl
  rw [← reached, ← held, dieAfter]
  split
  · rfl
  · split <;> omega

/-- A change of the die level posts HEAT at the part time of the sweep (R161). -/
theorem State.classifyDie_heat (moved : (s.classifyDie r).smn.die ≠ s.smn.die) : ∃ n,
    (⟨.heat, n, .die (s.classifyDie r).smn.die, (s.classifyDie r).smn.partTime⟩ : Notice) ∈
      (s.classifyDie r).lp.notices := by
  rw [State.classifyDie_smn] at moved ⊢
  have moved : ¬dieAfter s.smn.die r.tDie = s.smn.die := moved
  rw [State.classifyDie, State.dieMoved, if_neg (by exact moved)]
  split
  · rw [(State.closeIfActive_frame _ .heat).2.2.2.1]
    exact postNotice_posts _ _ _ _
  · exact postNotice_posts _ _ _ _

/-! ### The start of a power close in a sweep (R136, R162) -/

/-- The recorder, the buffer and the motion queue are those of another state. -/
def State.sameClips (s t : State) : Prop := s.clc = t.clc ∧ s.sb = t.sb ∧ s.me = t.me

theorem State.sameClips.trans (h : s.sameClips t) (h' : t.sameClips u) : s.sameClips u :=
  ⟨h.1.trans h'.1, h.2.1.trans h'.2.1, h.2.2.trans h'.2.2⟩

/-- A power close starts in ACTIVE where none is present, and else nothing happens (R136, R159, R161). -/
theorem State.closeIfActive_kept {why : PowerReason} (h : s.smn.standby ≠ .active ∨ s.clc.powerClose ≠ none) :
    s.closeIfActive why = s := by
  unfold State.closeIfActive; split
  · next active =>
    have present := h.resolve_left (not_not.mpr active)
    exact if_pos (Option.isSome_iff_ne_none.mpr present)
  · rfl

/-- A battery level that does not become CRITICAL leaves the clips alone, and so does one of a part that is not ACTIVE or
closes for power already (R159). -/
theorem State.classifyBattery_kept (h : s.smn.battery = .critical ∨ (s.classifyBattery r).smn.battery ≠ .critical ∨
    s.smn.standby ≠ .active ∨ s.clc.powerClose ≠ none) : (s.classifyBattery r).sameClips s := by
  rw [State.classifyBattery_smn] at h
  simp only [State.classifyBattery, State.batteryMoved]
  split
  · exact ⟨rfl, rfl, rfl⟩
  · next old new =>
    rw [State.closeIfActive_kept (by exact (h.resolve_left (by simp [old])).resolve_left (not_not.mpr new))]
    exact ⟨rfl, rfl, rfl⟩
  · next old new =>
    rw [State.closeIfActive_kept (by exact (h.resolve_left (by simp [old])).resolve_left (not_not.mpr new))]
    exact ⟨rfl, rfl, rfl⟩
  · exact ⟨rfl, rfl, rfl⟩

theorem State.classifyDie_kept (h : s.smn.die = .critical ∨ (s.classifyDie r).smn.die ≠ .critical ∨
    s.smn.standby ≠ .active ∨ s.clc.powerClose ≠ none) : (s.classifyDie r).sameClips s := by
  rw [State.classifyDie_smn] at h
  simp only [State.classifyDie, State.dieMoved]
  split
  · exact ⟨rfl, rfl, rfl⟩
  · next moved =>
    split
    · next new =>
      have old : s.smn.die ≠ .critical := fun e => moved (by rw [e]; exact new)
      rw [State.closeIfActive_kept (by exact (h.resolve_left old).resolve_left (not_not.mpr new))]
      exact ⟨rfl, rfl, rfl⟩
    · exact ⟨rfl, rfl, rfl⟩

/-- The start of a power close in a state whose clips, buffer, levels of standby and supply are those of another (R136). -/
def State.startsClose (s t : State) (why : PowerReason) : Prop :=
  ∃ y : State, y.sameClips s ∧ y.smn.standby = .active ∧ y.powered = s.powered ∧ t.sameClips (y.startPowerClose why)

theorem State.closeIfActive_starts {y : State} {why : PowerReason} (same : y.sameClips s) (active : y.smn.standby = .active)
    (powered : y.powered = s.powered) : s.startsClose (y.closeIfActive why) why := by
  rw [State.closeIfActive, if_pos active]
  exact ⟨y, same, active, powered, rfl, rfl, rfl⟩

theorem State.classifyBattery_starts (old : s.smn.battery ≠ .critical)
    (new : (s.classifyBattery r).smn.battery = .critical) (active : s.smn.standby = .active) :
    s.startsClose (s.classifyBattery r) .power := by
  rw [State.classifyBattery_smn] at new
  simp only [State.classifyBattery, State.batteryMoved]
  split
  · next low => exact absurd (low.symm.trans new) (by decide)
  · exact State.closeIfActive_starts ⟨rfl, rfl, rfl⟩ active rfl
  · exact State.closeIfActive_starts ⟨rfl, rfl, rfl⟩ active rfl
  · next normal low =>
    cases level : s.smn.battery with
    | normal => exact absurd new (normal level)
    | low => exact absurd new (low level)
    | critical => exact absurd level old

theorem State.classifyDie_starts (old : s.smn.die ≠ .critical) (new : (s.classifyDie r).smn.die = .critical)
    (active : s.smn.standby = .active) : s.startsClose (s.classifyDie r) .heat := by
  rw [State.classifyDie_smn] at new
  have moved : ¬dieAfter s.smn.die r.tDie = s.smn.die := fun e => old (e.symm.trans new)
  rw [State.classifyDie, State.dieMoved, if_neg (by exact moved), if_pos (by exact new)]
  exact State.closeIfActive_starts ⟨rfl, rfl, rfl⟩ active rfl

/-! ### The end of a sweep (R137, R160, R162) -/

/-- The end of a power close keeps the levels, part time and every notice (R137, R164). -/
theorem State.checkPowerClose_levels (s old : State) : (s.checkPowerClose old).smn.battery = s.smn.battery ∧
    (s.checkPowerClose old).smn.die = s.smn.die ∧ (s.checkPowerClose old).smn.criticalCount = s.smn.criticalCount ∧
    (s.checkPowerClose old).smn.partTime = s.smn.partTime ∧ (s.checkPowerClose old).lp.notices = s.lp.notices := by
  have enters : ∀ (t : State) why, (t.enterStandby why).smn = { t.smn with standby := .standby, reason := some why } ∧
      (t.enterStandby why).lp.notices = t.lp.notices := by
    intro t why
    simp [State.enterStandby, State.parkBlocks, State.setSupply]
  unfold State.checkPowerClose; split
  · unfold State.endPowerClose; split
    · exact ⟨rfl, rfl, rfl, rfl, rfl⟩
    · split
      · dsimp only; split
        · simp [enters]
        · exact ⟨rfl, rfl, rfl, rfl, rfl⟩
      · exact ⟨rfl, rfl, rfl, rfl, rfl⟩
  · exact ⟨rfl, rfl, rfl, rfl, rfl⟩

/-- An event that starts no power close and leaves the drain ends no power close (R137). -/
theorem State.checkPowerClose_same (drain : t.clc.drain = s.clc.drain) (close : t.clc.powerClose = s.clc.powerClose) :
    t.checkPowerClose s = t := by
  unfold State.checkPowerClose; split
  · next started =>
    rw [drain] at started
    rcases present : s.clc.powerClose with _ | why
    · exact State.endPowerClose_absent (close.trans present)
    · cases draining : s.clc.drain <;> simp [present, draining] at started
  · rfl

/-- With something left to close a power close stays present (R137). -/
theorem State.endPowerClose_more (more : s.clc.allEnded = false) : s.endPowerClose = s := by
  unfold State.endPowerClose; split
  · rfl
  · rw [if_neg (by simp [more])]

theorem State.checkPowerClose_more (more : t.clc.allEnded = false) : t.checkPowerClose s = t := by
  unfold State.checkPowerClose; split
  · exact State.endPowerClose_more more
  · rfl

/-- With nothing left to close a part that is ACTIVE enters standby (R137, R162). -/
theorem State.endPowerClose_parks {why : PowerReason} (present : s.clc.powerClose = some why)
    (ended : s.clc.allEnded = true) (active : s.smn.standby = .active) : s.endPowerClose =
      (({ s with clc := { s.clc with powerClose := none } } : State).setSupply (fun m =>
        { m with standby := .standby, reason := some why.standbyReason })).parkBlocks := by
  have still : s.clc.drain = none := by
    simp only [ClipController.allEnded, Bool.and_eq_true, Option.isNone_iff_eq_none] at ended
    exact ended.1
  simp only [State.endPowerClose, present, ended, if_true, active]
  simp [State.enterStandby, State.endDrain, State.setSupply, State.setRecorder, still]

/-- A drain or a clip that is OPEN or CLOSING is left to close (R137). -/
theorem ClipController.allEnded_iff (c : ClipController) : c.allEnded = false ↔
    c.drain ≠ none ∨ ∃ r ∈ c.clips, r.state = .opened ∨ r.state = .closing := by
  have live : ∀ r : ClipRecord, ¬(r.state = .closed ∨ r.state = .aborted) ↔ r.state = .opened ∨ r.state = .closing := by
    intro r
    cases r.state <;> decide
  have split : c.allEnded = false ↔ c.drain ≠ none ∨ ∃ r ∈ c.clips, ¬(r.state = .closed ∨ r.state = .aborted) := by
    rw [← Bool.not_eq_true]
    simp only [ClipController.allEnded, Bool.and_eq_true, List.all_eq_true, decide_eq_true_eq,
      Option.isNone_iff_eq_none, not_and_or, not_forall, exists_prop, ne_eq]
  simp only [split, live]

/-- What the start of a power close ends for good: the FILLING slot of a recording closes FINAL, and the clip is CLOSING
with its END REASON (R136). -/
theorem State.startPowerClose_recording {why : PowerReason} {c : ClipRecord} (on : s.powered = true)
    (absent : s.clc.powerClose = none) (mode : s.clc.mode = .recording) (opened : s.clc.openClip = some c) :
    (s.startPowerClose why).clc.mode = .idle ∧ (s.startPowerClose why).clc.powerClose = some why ∧
    (s.startPowerClose why).clc.splitDue = false ∧ (s.startPowerClose why).clc.forcedSplitDue = false ∧
    (s.startPowerClose why).me.queue = [] ∧ (s.startPowerClose why).sb.filling = none ∧
    (s.startPowerClose why).sb.overrun = false ∧ ∃ k ∈ (s.startPowerClose why).clc.clips, k.number = c.number ∧
      k.state = .closing ∧ k.endReason = some why.endReason ∧ k.dataDone = true := by
  have starts : s.startPowerClose why = ((s.endRecording c.number why.endReason).finishClip c.number).setRecorder
      (fun c => { c with powerClose := some why }) := by
    rw [State.startPowerClose, absent, State.closeForPower, mode]
    simp [opened]
  obtain ⟨r, held⟩ := ClipController.clip_isSome (ClipController.openClip_mem opened).1
  obtain ⟨q, found, reason, -, drained, clips, clc⟩ := State.finishClip_ends
    (s := s.endRecording c.number why.endReason) (by simpa using on) rfl (State.endRecording_held held) rfl
  obtain ⟨closing, done, -, -, idle, filling, overrun, -⟩ := drained
  have me : ((s.endRecording c.number why.endReason).finishClip c.number).me.queue = [] := by
    simp only [State.finishClip_frame]
    rfl
  rw [starts]
  refine ⟨idle, rfl, ?_, ?_, me, filling, overrun, q, List.mem_of_find?_eq_some found,
    by simpa using List.find?_some found, closing, reason, done⟩
  · rw [State.setRecorder_clc, clc]; rfl
  · rw [State.setRecorder_clc, clc]; rfl

/-- The start of a power close in ARMED or IDLE with no trailer due: the mode is IDLE, and from ARMED the pre-roll is given
back (R80, R136). -/
theorem State.startPowerClose_quiet {why : PowerReason} (absent : s.clc.powerClose = none) (mode : s.clc.mode ≠ .recording)
    (calm : s.clc.trailerDue = none) :
    (s.startPowerClose why).clc = { s.clc with mode := .idle, powerClose := some why } ∧
    (s.clc.mode = .armed → (s.startPowerClose why).sb.ring = [] ∧ (s.startPowerClose why).sb.filling = none ∧
      (s.startPowerClose why).sb.overrun = false ∧ (s.startPowerClose why).me.queue = [] ∧
      ∀ n ∈ s.sb.ring ++ s.sb.filling.toList, (s.startPowerClose why).sb.slots.lookup n = none) := by
  have starts : s.startPowerClose why = (s.closeForPower why).setRecorder (fun c => { c with powerClose := some why }) := by
    rw [State.startPowerClose, absent]
    rfl
  rw [starts, State.closeForPower]
  cases at_mode : s.clc.mode with
  | recording => exact absurd at_mode mode
  | idle => exact ⟨congrArg (fun m => { s.clc with mode := m, powerClose := some why }) at_mode, nofun⟩
  | armed =>
    obtain ⟨ring, filling, overrun, me⟩ := s.disarmNow_places
    obtain ⟨clc, -⟩ := State.disarmNow_calm calm
    refine ⟨?_, fun _ => ⟨ring, filling, overrun, ?_, fun n placed => ?_⟩⟩
    · rw [State.setRecorder_clc, clc]
    · show s.disarmNow.me.queue = []
      rw [me]
    · show s.disarmNow.sb.slots.lookup n = none
      rw [State.disarmNow, State.freePreroll_eq, State.release_calm (by exact calm)]
      exact (State.lookup_freeSlots ..).trans (if_pos placed)

/-- What standby entry at the end of a power close leaves of the other blocks (R120, R164). -/
theorem State.endPowerClose_parked {why : PowerReason} (present : s.clc.powerClose = some why)
    (ended : s.clc.allEnded = true) (active : s.smn.standby = .active) :
    s.parked s.endPowerClose why.standbyReason ∧ s.endPowerClose.clc = { s.clc with powerClose := none } ∧
    s.endPowerClose.sb = s.sb.standby ∧ s.endPowerClose.me = s.me.cleared false := by
  have card : s.cp.card.atStandby = if s.cp.card = .absent then .absent else .off := by cases s.cp.card <;> rfl
  rw [State.endPowerClose_parks present ended active]
  exact ⟨⟨rfl, rfl, rfl, rfl, rfl, rfl, rfl, rfl, rfl, card⟩, rfl, rfl, rfl⟩

/-- An event that ends a recording by a power close: the clip is left to close, so the power close stays present (R136,
R137). -/
theorem State.sameClips.ends_recording {why : PowerReason} {c : ClipRecord} (h : t.sameClips (s.startPowerClose why))
    (on : s.powered = true) (absent : s.clc.powerClose = none) (mode : s.clc.mode = .recording)
    (opened : s.clc.openClip = some c) : t.endPowerClose = t ∧ t.clc.mode = .idle ∧ t.clc.powerClose = some why ∧
    t.clc.splitDue = false ∧ t.clc.forcedSplitDue = false ∧ t.me.queue = [] ∧ t.sb.filling = none ∧
    t.sb.overrun = false ∧ ∃ k ∈ t.clc.clips, k.number = c.number ∧ k.state = .closing ∧
      k.endReason = some why.endReason ∧ k.dataDone = true := by
  have ends := State.startPowerClose_recording (why := why) on absent mode opened
  obtain ⟨clc, sb, me⟩ := h
  rw [← clc, ← sb, ← me] at ends
  obtain ⟨-, -, -, -, -, -, -, k, mem, -, closing, -⟩ := id ends
  exact ⟨State.endPowerClose_more (t.clc.allEnded_iff.mpr (.inr ⟨k, mem, .inr closing⟩)), ends⟩

/-- An event that starts a power close in ARMED or IDLE with no trailer due: a recorder with something left to close keeps it
present, and otherwise the part enters standby at once (R136, R137, R162). -/
theorem State.sameClips.ends_quiet {why : PowerReason} {more : Prop} (h : t.sameClips (s.startPowerClose why))
    (absent : s.clc.powerClose = none) (mode : s.clc.mode ≠ .recording) (calm : s.clc.trailerDue = none)
    (active : t.smn.standby = .active)
    (left : more ↔ s.clc.drain ≠ none ∨ ∃ c ∈ s.clc.clips, c.state = .opened ∨ c.state = .closing) :
    (s.clc.mode = .armed → t.endPowerClose.sb.ring = [] ∧ t.endPowerClose.sb.filling = none ∧
      t.endPowerClose.sb.overrun = false ∧ t.endPowerClose.me.queue = [] ∧
      ∀ n ∈ s.sb.ring ++ s.sb.filling.toList, t.endPowerClose.sb.slots.lookup n = none) ∧
    (more → t.endPowerClose = t ∧ t.clc = { s.clc with mode := .idle, powerClose := some why }) ∧
    (¬more → t.endPowerClose.clc = { s.clc with mode := .idle } ∧ t.parked t.endPowerClose why.standbyReason) := by
  obtain ⟨quiet, disarmed⟩ := State.startPowerClose_quiet (why := why) absent mode calm
  obtain ⟨clc, sb, me⟩ := h
  rw [← clc] at quiet
  rw [← sb, ← me] at disarmed
  have ended : t.clc.allEnded = false ↔ more := by
    rw [left, ClipController.allEnded_iff, quiet]
  by_cases remains : more
  · rw [State.endPowerClose_more (ended.mpr remains)]
    exact ⟨disarmed, fun _ => ⟨rfl, quiet⟩, fun none_left => absurd remains none_left⟩
  · have all : t.clc.allEnded = true := by simpa using fun e => remains (ended.mp e)
    obtain ⟨parked, u_clc, u_sb, u_me⟩ := State.endPowerClose_parked (by rw [quiet]) all active
    rw [u_clc, u_sb, u_me]
    refine ⟨fun armed => ?_, fun more => absurd more remains, fun _ => ⟨?_, parked⟩⟩
    · obtain ⟨ring, filling, -, -, slots⟩ := disarmed armed
      exact ⟨ring, filling, rfl, rfl, slots⟩
    · rw [quiet, ← absent]

/-! ### A whole sweep (R142) -/

/-- Steps 1 to 3 with the classifications that follow them. -/
def State.sweepLevels (s : State) (r : Readings) : State := ((s.sweepInput r).classifyBattery r).classifyDie r

theorem State.sweepLevels_smn (s : State) (r : Readings) :
    (s.sweepLevels r).smn.battery = batteryAfter s.smn.battery
      (criticalCountAfter s.smn (s.sweepLevels r).chg r.vBat) (s.sweepLevels r).chg.table r.vBat ∧
    (s.sweepLevels r).smn.criticalCount = (if (s.sweepLevels r).smn.battery = .critical then 0
      else criticalCountAfter s.smn (s.sweepLevels r).chg r.vBat) ∧
    (s.sweepLevels r).smn.die = dieAfter s.smn.die r.tDie ∧
    ((s.sweepLevels r).smn.standby = .active ↔ s.smn.standby = .active) := by
  obtain ⟨-, battery, die, count, standby, -⟩ := s.sweepInput_spec r
  have counted : criticalCountAfter (s.sweepInput r).smn (s.sweepInput r).chg r.vBat =
      criticalCountAfter s.smn (s.sweepLevels r).chg r.vBat := by
    simp [criticalCountAfter, battery, count, State.sweepLevels]
  have table : (s.sweepInput r).chg.table = (s.sweepLevels r).chg.table := by simp [State.sweepLevels]
  simp only [State.sweepLevels, State.classifyDie_smn, State.classifyBattery_smn] at *
  simp only [counted, table, battery, die, standby, and_self]

/-- Where no level becomes CRITICAL, and in a part that is not ACTIVE or closes for power already, the clips stay (R159,
R161). -/
theorem State.sweepLevels_kept (h : (s.smn.battery = .critical ∨ (s.sweepLevels r).smn.battery ≠ .critical) ∧
      (s.smn.die = .critical ∨ (s.sweepLevels r).smn.die ≠ .critical) ∨
    s.smn.standby ≠ .active ∨ s.clc.powerClose ≠ none) : (s.sweepLevels r).clc = s.clc := by
  obtain ⟨-, battery, die, -, standby, -⟩ := s.sweepInput_spec r
  have clc : (s.sweepInput r).clc = s.clc := by simp
  have die_kept : ((s.sweepInput r).classifyBattery r).smn.die = s.smn.die := by
    rw [State.classifyBattery_smn]; exact die
  have standby_kept : ((s.sweepInput r).classifyBattery r).smn.standby = (s.sweepInput r).smn.standby := by
    rw [State.classifyBattery_smn]
  have battery_kept : ((s.sweepInput r).classifyBattery r).smn.battery = (s.sweepLevels r).smn.battery := by
    rw [State.sweepLevels, State.classifyDie_smn]
  obtain ⟨first, -, -⟩ : ((s.sweepInput r).classifyBattery r).sameClips (s.sweepInput r) := by
    apply State.classifyBattery_kept
    rw [battery, battery_kept, clc, ne_eq (s.sweepInput r).smn.standby, standby]
    tauto
  obtain ⟨second, -, -⟩ : (s.sweepLevels r).sameClips ((s.sweepInput r).classifyBattery r) := by
    apply State.classifyDie_kept
    change _ ∨ (s.sweepLevels r).smn.die ≠ .critical ∨ _
    rw [die_kept, first, clc, standby_kept, ne_eq (s.sweepInput r).smn.standby, standby]
    tauto
  rw [second, first, clc]

/-- A level that becomes CRITICAL in ACTIVE starts a power close where none is present: POWER for the battery, else HEAT for
the die (R136, R159, R161). -/
theorem State.sweepLevels_starts {why : PowerReason} (active : s.smn.standby = .active)
    (h : why = .power ∧ s.smn.battery ≠ .critical ∧ (s.sweepLevels r).smn.battery = .critical ∨
      why = .heat ∧ (s.smn.battery = .critical ∨ (s.sweepLevels r).smn.battery ≠ .critical) ∧
        s.smn.die ≠ .critical ∧ (s.sweepLevels r).smn.die = .critical) : s.startsClose (s.sweepLevels r) why := by
  obtain ⟨-, battery, die, -, standby, sb⟩ := s.sweepInput_spec r
  have input : (s.sweepInput r).sameClips s := ⟨by simp, sb active, by simp⟩
  have active_kept : (s.sweepInput r).smn.standby = .active := standby.mpr active
  have battery_kept : ((s.sweepInput r).classifyBattery r).smn.battery = (s.sweepLevels r).smn.battery := by
    rw [State.sweepLevels, State.classifyDie_smn]
  rcases h with ⟨rfl, old, new⟩ | ⟨rfl, unchanged, old, new⟩
  · obtain ⟨y, y_same, y_active, y_on, closes⟩ := State.classifyBattery_starts (s := s.sweepInput r) (r := r)
      (by rwa [battery]) (by rwa [battery_kept]) active_kept
    have present : ((s.sweepInput r).classifyBattery r).clc.powerClose ≠ none := by
      rw [closes.1, State.startPowerClose]
      split
      · next already => exact Option.isSome_iff_ne_none.mp already
      · exact Option.some_ne_none _
    have kept := State.classifyDie_kept (s := (s.sweepInput r).classifyBattery r) (r := r) (.inr (.inr (.inr present)))
    exact ⟨y, y_same.trans input, y_active, y_on.trans (by simp), kept.trans closes⟩
  · have kept := State.classifyBattery_kept (s := s.sweepInput r) (r := r)
      (by rw [battery, battery_kept]; exact unchanged.imp id .inl)
    obtain ⟨y, y_same, y_active, y_on, closes⟩ := State.classifyDie_starts (s := (s.sweepInput r).classifyBattery r)
      (r := r) (by rw [State.classifyBattery_smn]; exact die ▸ old) new
      (by rw [State.classifyBattery_smn]; exact active_kept)
    exact ⟨y, y_same.trans (kept.trans input), y_active, y_on.trans (by simp), closes⟩

end

end Sys2Proof.Machine

open Sys2Proof.Machine

/-- Settles O58: the cutoff by `State.sweepInput_open`; the levels, the target and HEAT by the equations of the stages
(`State.sweepLevels_smn`, `State.sweepTail_target`); the power close by `State.sweepLevels_kept` and
`State.sweepLevels_starts`. -/
theorem sweepClassifiesAndBudgets : Obligations.SweepClassifiesAndBudgets := by
  rintro s r q T on switch rfl rfl
  have effect : exec (.sweep r) s = (s.takeSweep r).settled := State.take_powered on fun t => t.takeSweep r
  obtain ⟨q, q_def⟩ : ∃ q, q = clampReadings r := ⟨_, rfl⟩
  obtain ⟨c, c_def⟩ : ∃ c, c = s.sweepLevels q := ⟨_, rfl⟩
  have stages : s.takeSweep r = (c.sweepTail q).endSweep s q := by rw [c_def, q_def]; rfl
  rw [effect, stages, ← q_def]
  have c_table : c.chg.table = s.chg.pendingTable.getD s.chg.table := by
    rw [c_def, State.sweepLevels, ← (s.sweepInput_spec q).1]
    simp
  have c_frame : c.powered = true ∧ c.cp = s.cp ∧ c.pending = s.pending ∧
      c.chg.switchClosed = (s.sweepInput q).chg.switchClosed := by
    rw [c_def]
    simp [State.sweepLevels, on]
  obtain ⟨c_on, c_cp, c_pending, c_switch⟩ := c_frame
  obtain ⟨table, switched, avail⟩ := c.sweepTail_wiring q
  refine ⟨fun low unswitched => ?_, fun high => ⟨(c.sweepTail q).checkPowerClose s, ?_, ?_⟩⟩
  · have cuts : (c.sweepTail q).cutsOff q = true := by
      simp [State.cutsOff, table, c_table, low, switched, c_switch, State.sweepInput_open switch unswitched]
    rw [State.endSweep, if_pos cuts, State.goDark]
    simp [c_cp, c_pending]
  · rw [State.endSweep, if_neg (by simp [State.cutsOff, table, c_table, high])]
  obtain ⟨t, t_def⟩ : ∃ t, t = c.sweepTail q := ⟨_, rfl⟩
  obtain ⟨-, t_me, -, -, t_sb, -, t_cp, t_clc, t_smn, -⟩ := c.sweepTail_frame q
  have t_on : t.powered = true := by simpa [t_def] using c_on
  have target := c.sweepTail_target q
  have notices := c.sweepTail_notices q
  rw [← t_def] at table switched avail t_me t_sb t_cp t_clc t_smn target notices ⊢
  obtain ⟨u_battery, u_die, u_count, u_time, u_notices⟩ := t.checkPowerClose_levels s
  obtain ⟨u_on, -, u_chg, -⟩ := t.checkPowerClose_frame s
  rw [u_battery, u_die, u_count, u_time, u_notices, u_on, u_chg, t_smn, avail, switched]
  obtain ⟨battery, critical, die, standby⟩ := s.sweepLevels_smn q
  rw [← c_def] at battery critical die standby
  rw [c_table] at battery
  refine ⟨fun count counted => ?_, fun up down up_eq down_eq => ?_, fun p row cool charging limit limited => ?_,
    fun idle => ?_, fun moved => ?_, fun quiet => ?_, fun why more active absent reached left => ?_, t_on⟩
  · have count_eq : count = criticalCountAfter s.smn c.chg q.vBat := by
      simp only [counted, criticalCountAfter, c_table, ChargeController.short, Bool.or_eq_true, Bool.not_eq_true',
        Option.any_eq_true, decide_eq_true_eq, raise]
    rw [← count_eq] at battery critical
    refine ⟨?_, critical⟩
    rw [battery, batteryAfter.eq_def]
    cases s.smn.battery with
    | normal => rfl
    | low => rfl
    | critical =>
      dsimp only
      by_cases above : ((s.chg.pendingTable.getD s.chg.table).vCrit : Int) + 200 < q.vBat
      · rw [if_pos above, if_neg (not_le.mpr above)]
      · rw [if_neg above, if_pos (not_lt.mp above)]
  · rw [die, dieAfter_code, up_eq, down_eq]
  · have state : t.chg.state.charging = true := by
      rcases charging with e | e | e <;> rw [e] <;> rfl
    rw [target, targetOf, state, table, c_table, row]
    dsimp only
    rw [if_neg cool, limited, ceilingOf, table, c_table, budgetOf, avail]
    rfl
  · rw [target, targetOf, table, c_table]
    split
    · next row charging found =>
      rw [if_pos ((idle.resolve_left (by simp [found])).resolve_right (by simp [charging]))]
    · rfl
  · obtain ⟨n, posted⟩ := State.classifyDie_heat (s := (s.sweepInput q).classifyBattery q) (r := q)
      (by rw [← State.sweepLevels, ← c_def, State.classifyBattery_smn]; exact (s.sweepInput_spec q).2.2.1 ▸ moved)
    rw [← State.sweepLevels, ← c_def] at posted
    exact ⟨n, notices _ posted nofun⟩
  · have same : t.clc = s.clc := by
      rw [c_def] at quiet
      rw [t_clc, c_def, State.sweepLevels_kept quiet]
    rw [State.checkPowerClose_same (by rw [same]) (by rw [same]), same]
  · rw [c_def] at reached
    obtain ⟨y, ⟨y_clc, y_sb, y_me⟩, -, y_on, closes⟩ := State.sweepLevels_starts active reached
    rw [← c_def] at closes
    rw [← y_clc] at absent left
    have check : t.checkPowerClose s = t.endPowerClose := by
      rw [State.checkPowerClose, ← y_clc, absent]
      rfl
    have t_active : t.smn.standby = .active := by rw [t_smn]; exact standby.mpr active
    have stays : State.sameClips t (y.startPowerClose why) := State.sameClips.trans ⟨t_clc, t_sb, t_me⟩ closes
    rw [check, ← y_clc, ← y_sb]
    refine ⟨fun r mode opened => ?_, fun mode calm => ?_⟩
    · obtain ⟨u_t, idle, present, split, forced, queue, filling, overrun, k, mem, number, closing, reason, done⟩ :=
        stays.ends_recording (y_on.trans on) absent mode opened
      rw [u_t]
      exact ⟨idle, present, split, forced, queue, filling, overrun, t_active, k, mem, number, closing,
        reason.trans (by cases why <;> rfl), done⟩
    · obtain ⟨disarmed, still, parks⟩ := stays.ends_quiet absent mode calm t_active left
      refine ⟨disarmed, fun remains => ?_, fun none_left => ?_⟩
      · obtain ⟨u_t, clc⟩ := still remains
        rw [u_t]
        exact ⟨clc, t_active⟩
      · obtain ⟨clc, parked⟩ := parks none_left
        refine ⟨clc, ?_⟩
        rw [State.parked, t_cp, c_cp] at parked
        cases why <;> exact parked
end

section
/-!
A CLIP cell (R71 to R84, R121, R168, R169): its record in the buffer, the slot it opens or closes, and the drain it ends.
-/
set_option Elab.async false

namespace Sys2Proof.Machine

/-! ### The VIDEO record in the words of the statements (R71, R180) -/

theorem videoRecord_eq {sync frameEnd last gapped : Bool} {time : Time} {payload : List Byte} :
    beBytes 1 1 ++ beBytes 1 ((if sync then 1 else 0) + (if frameEnd then 2 else 0) + (if last then 4 else 0) +
      (if gapped then 8 else 0)) ++ beBytes 2 payload.length ++ beBytes 4 time.toNat ++ payload =
      recordBytes .video (videoFlags sync frameEnd last gapped) time payload := by
  have flags : beBytes 1 ((if sync then 1 else 0) + (if frameEnd then 2 else 0) + (if last then 4 else 0) +
      (if gapped then 8 else 0)) = [videoFlags sync frameEnd last gapped] := by
    cases sync <;> cases frameEnd <;> cases last <;> cases gapped <;> rfl
  rw [flags, recordBytes]
  simp only [List.append_assoc]
  rfl

section
variable {s t u v z : State} {n m fill : Nat} {stamped r : SlotRecord} {record payload : List Byte}
  {sync frameEnd last gap : Bool} {ring : List Nat}

/-! ### Records and cells that are lost (R83, R84, R121) -/

theorem State.addGap_eq (s : State) (n : Nat) : s.addGap n = { s with clc := s.gapped n } := by
  rw [← State.addGap_clc]
  unfold State.addGap; split <;> rfl

/-- The OPEN clip after a change of records that keeps their states (R121). -/
theorem find?_opened_map {clips : List ClipRecord} {f : ClipRecord → ClipRecord} (state : ∀ r, (f r).state = r.state) :
    (clips.map f).find? (fun r => decide (r.state = .opened)) =
      (clips.find? (fun r => decide (r.state = .opened))).map f := by
  rw [List.find?_map]
  congr 2
  funext r
  simp [state]

theorem State.gapped_receiving (s : State) (n : Nat) : (s.gapped n).receiving = s.clc.receiving := by
  have opened : (s.gapped n).openClip.map (·.number) = s.clc.openClip.map (·.number) := by
    rw [ClipController.openClip, State.gapped, find?_opened_map fun r => by split <;> rfl, Option.map_map]
    congr 1
    funext r
    simp only [Function.comp]
    split <;> rfl
  unfold ClipController.receiving
  rw [opened, show (s.gapped n).mode = s.clc.mode from rfl, show (s.gapped n).drain = s.clc.drain from rfl]

/-- The clip whose trailer is due after a change of records that keeps what R132 tests. -/
theorem trailerDue_map {c : ClipController} {f : ClipRecord → ClipRecord} (keeps : ∀ r, (f r).state = r.state ∧
    (f r).dataDone = r.dataDone ∧ (f r).written = r.written ∧ (f r).slotCount = r.slotCount ∧
    (f r).trailerFormed = r.trailerFormed) :
    ClipController.trailerDue { c with clips := c.clips.map f } = c.trailerDue.map f := by
  have found : (c.clips.map f).find? (fun r => decide (r.state = .closing)) =
      (c.clips.find? (fun r => decide (r.state = .closing))).map f := by
    rw [List.find?_map]
    congr 2
    funext r
    simp [(keeps r).1]
  simp only [ClipController.trailerDue, found]
  cases c.clips.find? (fun r => decide (r.state = .closing)) with
  | none => rfl
  | some r =>
    obtain ⟨-, done, written, count, formed⟩ := keeps r
    simp only [Option.map_some, done, written, count, formed]
    split <;> rfl

theorem State.gapped_trailerDue (calm : s.clc.trailerDue = none) (n : Nat) : (s.gapped n).trailerDue = none := by
  rw [State.gapped, trailerDue_map fun r => by split <;> exact ⟨rfl, rfl, rfl, rfl, rfl⟩, calm]
  rfl

/-- A gap and another gap count as their sum (R169). -/
theorem State.gapped_gapped (s : State) (a b : Nat) : State.gapped { s with clc := s.gapped a } b = s.gapped (a + b) := by
  unfold State.gapped
  rw [show ({ s with clc := _ } : State).clc.receiving = (s.gapped a).receiving from rfl, State.gapped_receiving]
  simp only [List.map_map]
  congr 2
  funext r
  by_cases named : some r.number = s.clc.receiving
  · simp only [Function.comp, named, if_true]
    congr 1
    omega
  · simp only [Function.comp, named, if_false]

/-- The record of the receiving clip after it lost records or cells (R83, R169). -/
theorem State.gapped_clip {k : Nat} (receiving : s.clc.receiving = some k) (n : Nat) : (s.gapped n).clip k =
    (s.clc.clip k).map (fun r => { r with gapCount := min 4294967295 (r.gapCount + n) }) := by
  simp only [ClipController.clip, State.gapped, receiving, Option.some.injEq]
  rw [find?_map_if (f := fun r => { r with gapCount := min 4294967295 (r.gapCount + n) }) fun _ => rfl]
  simp

/-- While ARMED no clip receives records, so none is missing any (R121). -/
theorem State.gapped_armed (armed : s.clc.mode = .armed) (n : Nat) : s.gapped n = s.clc := by
  have none : s.clc.receiving = none := by rw [ClipController.receiving, armed]
  simp [State.gapped, none]

theorem State.overrunStart_eq (s : State) : s.overrunStart = { s with
    lp := { s.lp with notices := s.overrunNotices s.lp.notices }, sb := { s.sb with overrun := true } } := by
  unfold State.overrunStart State.overrunNotices; split
  · next present => rw [← present]
  · rfl

/-- A discarded record: RECORDS DISCARDED, and the gap count of the receiving clip (R83, R84). -/
theorem State.discardRecord_eq (s : State) : s.discardRecord = { s with
    lp := { s.lp with counters := { s.lp.counters with
      recordsDiscarded := min 65535 (s.lp.counters.recordsDiscarded + 1) } }
    clc := s.gapped 1 } := State.addGap_eq _ 1

/-- A VIDEO record that an overrun discards: the notice at an episode's start, the count and the gap (R83, R84). -/
theorem State.handVideo_lost (h : s.sb.overrun = true ∧ sync = false ∨ s.noSlot) :
    s.handVideo sync frameEnd last gap payload = ({ s with
      lp := { s.lp with
        notices := s.overrunNotices s.lp.notices
        counters := { s.lp.counters with recordsDiscarded := min 65535 (s.lp.counters.recordsDiscarded + 1) } }
      sb := { s.sb with overrun := true }
      clc := s.gapped 1 }, false) := by
  unfold State.handVideo
  by_cases skipped : s.sb.overrun = true ∧ sync = false
  · obtain ⟨present, nosync⟩ := skipped
    rw [if_pos (by simp [present, nosync]), State.discardRecord_eq, State.overrunNotices, if_pos present, ← present]
  · have full := h.resolve_left skipped
    rw [if_neg (by simpa using fun a => by simpa using fun b => skipped ⟨a, b⟩), State.appendRecord_noSlot _ _ _ _ full]
    simp only [Bool.false_eq_true, if_false, State.discardRecord_eq, State.overrunStart_eq]
    rfl

/-! ### Records that are appended (R71, R73, R84) -/

/-- The bytes of a record that is handed in, with GAP where cells are missing or an overrun ends (R71, R84). -/
def State.videoBytes (s : State) (sync frameEnd last gap : Bool) (payload : List Byte) : List Byte :=
  recordBytes .video (videoFlags sync frameEnd last (gap || s.sb.overrun)) s.smn.partTime payload

/-- A VIDEO record that a slot receives is appended and ends an overrun (R73, R84). -/
theorem State.handVideo_receives (taken : s.sb.overrun = false ∨ sync = true)
    (room : s.receives (payload.length + 8) n r ring) : ∃ u,
      s.handVideo sync frameEnd last gap payload = (u, true) ∧
      s.appends u n r ring (s.videoBytes sync frameEnd last gap payload) sync ∧ u.sb.overrun = false ∧
      u.clc = s.clc ∧ u.lp = s.lp ∧ s.sameOutside u := by
  obtain ⟨u, append, appends, -, clc, lp, out⟩ := State.appendRecord_receives .video
    (videoFlags sync frameEnd last (gap || s.sb.overrun)) sync payload room
  refine ⟨u.setBuffer (fun b => { b with overrun := false }), ?_, appends, rfl, clc, lp, out⟩
  unfold State.handVideo
  rw [if_neg (by rcases taken with e | e <;> simp [e]), append]
  rfl

/-- A VIDEO record that does not fit: the FILLING slot closes as full, the record is appended to the slot that then receives
it, and a forced split ends with the trailer test (R73, R74, R131). -/
theorem State.handVideo_full (taken : s.sb.overrun = false ∨ sync = true) (full : s.needsRoom (payload.length + 8) = true)
    (closed : s.closeFull.sb.filling = none) (time : s.closeFull.smn.partTime = s.smn.partTime)
    (room : s.closeFull.receives (payload.length + 8) n r ring) : ∃ u,
      s.handVideo sync frameEnd last gap payload =
        ((u.splitTest s.forcesSplit).setBuffer (fun b => { b with overrun := false }), true) ∧
      s.closeFull.appends u n r ring (s.videoBytes sync frameEnd last gap payload) sync ∧
      u.clc = s.closeFull.clc ∧ u.lp = s.closeFull.lp ∧ s.closeFull.sameOutside u := by
  obtain ⟨u, append, appends, -, clc, lp, out⟩ := State.appendRecord_receives .video
    (videoFlags sync frameEnd last (gap || s.sb.overrun)) sync payload room
  rw [time] at appends
  refine ⟨u, ?_, appends, clc, lp, out⟩
  unfold State.handVideo
  rw [if_neg (by rcases taken with e | e <;> simp [e]), State.appendRecord_full _ _ _ _ full closed, append]
  rfl

/-! ### A slot that closes and the slot that opens after it (R73 to R76) -/

/-- Slot n closes for the write queue at a FILL LENGTH with the record `stamped`, and slot m opens with one record. -/
def State.rolls (s u : State) (n m fill : Nat) (stamped : SlotRecord) (record : List Byte) (sync : Bool) : Prop :=
  u.sb.slot n = stamped ∧ u.sb.queue = s.sb.queue ++ [n] ∧ u.sb.ring = s.sb.ring ∧ u.sb.filling = some m ∧
    u.sb.quarters = s.sb.quarters ∧
    u.sb.slot m = { SlotRecord.free with
      state := .filling, fill := 64 + record.length, count := 1, firstTime := some s.smn.partTime
      lastTime := some s.smn.partTime, firstSync := if sync then some 64 else none } ∧
    (∀ j, j ≠ n → j ≠ m → u.sb.slots.lookup j = s.sb.slots.lookup j) ∧
    (∀ i b, (slotHeader stamped)[i]? = some b → Memory.read u.sb.mem (65536 * n + i) = some b) ∧
    (∀ i b, (s.finish fill)[i]? = some b → Memory.read u.sb.mem (65536 * n + fill + i) = some b) ∧
    (∀ i b, record[i]? = some b → Memory.read u.sb.mem (65536 * m + 64 + i) = some b) ∧
    (∀ a, (a < 65536 * n ∨ 65536 * n + 64 ≤ a) → (a < 65536 * n + fill ∨ 65536 * n + 65536 ≤ a) →
      (a < 65536 * m + 64 ∨ 65536 * m + 64 + record.length ≤ a) →
      Memory.read u.sb.mem a = Memory.read s.sb.mem a)

/-- The buffer after slot n closed for the write queue (R74 to R77). -/
def SlotBuffer.queued (b : SlotBuffer) (n fill : Nat) (stamped : SlotRecord) (finish : List Byte) : SlotBuffer := { b with
  slots := setEntry n stamped b.slots, filling := none, queue := b.queue ++ [n]
  mem := Memory.write (Memory.write b.mem (65536 * n + fill) finish) (65536 * n) (slotHeader stamped) }

theorem SlotBuffer.queued_lookup (b : SlotBuffer) (finish : List Byte) (j : Nat) :
    (b.queued n fill stamped finish).slots.lookup j = if j = n then some stamped else b.slots.lookup j :=
  lookup_setEntry n j stamped b.slots

/-- The slot that opens after the closing is the lowest that was FREE before it (R73). -/
theorem State.lowestFreeIs.queued (free : s.lowestFreeIs m) (listed : (s.sb.slots.lookup n).isSome = true)
    {finish : List Byte} (sb : z.sb = s.sb.queued n fill stamped finish) : z.lowestFreeIs m ∧ m ≠ n := by
  obtain ⟨low, none, below⟩ := free
  have other : m ≠ n := by
    rintro rfl
    rw [none] at listed
    cases listed
  refine ⟨⟨low, ?_, fun j lower => ?_⟩, other⟩
  · rw [sb, SlotBuffer.queued_lookup, if_neg other, none]
  · rw [sb, SlotBuffer.queued_lookup]
    split
    · exact Option.some_ne_none _
    · exact below j lower

theorem State.rolls_of_appends (other : m ≠ n) (start : 64 ≤ fill) (inside : fill ≤ 65536)
    (fits : 64 + record.length ≤ 65536) (sb : z.sb = s.sb.queued n fill stamped (s.finish fill))
    (time : z.smn.partTime = s.smn.partTime) (mode : z.clc.mode ≠ .armed)
    (appends : z.appends u m { SlotRecord.free with state := .filling } s.sb.ring record sync) :
    s.rolls u n m fill stamped record sync := by
  obtain ⟨slot, lookup, filling, ring, queue, quarters, bytes, rest⟩ := appends
  have finish := s.length_finish inside
  have header := length_slotHeader stamped
  rw [sb, SlotBuffer.queued] at queue quarters
  have outside : ∀ a, (a < 65536 * m + 64 ∨ 65536 * m + 64 + record.length ≤ a) →
      Memory.read u.sb.mem a = Memory.read (Memory.write (Memory.write s.sb.mem (65536 * n + fill) (s.finish fill))
        (65536 * n) (slotHeader stamped)) a := by
    intro a out
    rw [rest a out, sb]
    rfl
  refine ⟨?_, queue, ring, filling, quarters, ?_, fun j j_n j_m => ?_, fun i b at_i => ?_, fun i b at_i => ?_, bytes,
    fun a a_header a_finish a_record => ?_⟩
  · rw [SlotBuffer.slot, lookup n (Ne.symm other), sb, SlotBuffer.queued_lookup, if_pos rfl]
    rfl
  · rw [slot, time]
    simp [SlotRecord.free, mode]
  · rw [lookup j j_m, sb, SlotBuffer.queued_lookup, if_neg j_n]
  · obtain ⟨lt, -⟩ := List.getElem?_eq_some_iff.mp at_i
    rw [outside _ (by omega), Memory.read_write_inside _ _ _ _ lt, at_i]
  · obtain ⟨lt, -⟩ := List.getElem?_eq_some_iff.mp at_i
    rw [outside _ (by omega), Memory.read_write_outside _ _ _ _ (by omega), Memory.read_write_inside _ _ _ _ lt, at_i]
  · rw [outside a a_record, Memory.read_write_outside _ _ _ _ (by omega), Memory.read_write_outside _ _ _ _ (by omega)]

theorem State.needsRoom_of {length : Nat} (filling : s.sb.filling = some n) (fill_eq : fill = (s.sb.slot n).fill)
    (beyond : 65536 < fill + length) : s.needsRoom length = true := by
  simp only [State.needsRoom, filling, ← fill_eq, Config.slotBytes]
  exact decide_eq_true beyond

/-- A VIDEO record that does not fit where the FILLING slot then closes for the write queue and a slot is FREE: the slots
change places, and the record is the first of the new one (R73 to R77, R131). -/
theorem State.handVideo_rolls (taken : s.sb.overrun = false ∨ sync = true) (filling : s.sb.filling = some n)
    (listed : (s.sb.slots.lookup n).isSome = true) (fill_eq : fill = (s.sb.slot n).fill) (start : 64 ≤ fill)
    (inside : fill ≤ 65536) (short : payload.length ≤ 4096) (beyond : 65536 < fill + (payload.length + 8))
    (free : s.lowestFreeIs m) (sb : s.closeFull.sb = s.sb.queued n fill stamped (s.finish fill))
    (mode : s.closeFull.clc.mode ≠ .armed) : ∃ u,
      s.handVideo sync frameEnd last gap payload =
        ((u.splitTest s.forcesSplit).setBuffer (fun b => { b with overrun := false }), true) ∧
      s.rolls u n m fill stamped (s.videoBytes sync frameEnd last gap payload) sync ∧
      u.clc = s.closeFull.clc ∧ u.lp = s.lp ∧ s.sameOutside u := by
  obtain ⟨free_after, other⟩ := free.queued listed sb
  obtain ⟨powered, me, wu, sp, lp, xm, cp, chg, smn, pending⟩ := s.closeFull_frame
  have room : s.closeFull.receives (payload.length + 8) m { SlotRecord.free with state := .filling } s.sb.ring := by
    obtain ⟨low, none, below⟩ := free_after
    refine ⟨low, ?_, .inr ⟨by rw [sb]; rfl, rfl, .inl ⟨none, below, by rw [sb]; rfl⟩⟩⟩
    show 64 + (payload.length + 8) + 9 ≤ 65536
    omega
  obtain ⟨u, hands, appends, u_clc, u_lp, out⟩ := State.handVideo_full (frameEnd := frameEnd) (last := last) (gap := gap)
    taken (State.needsRoom_of filling fill_eq beyond) (by rw [sb]; rfl) (by rw [smn]) room
  have length : (s.videoBytes sync frameEnd last gap payload).length = payload.length + 8 := length_recordBytes ..
  refine ⟨u, hands, State.rolls_of_appends other start inside (by omega) sb (by rw [smn]) mode appends, u_clc,
    u_lp.trans lp, ?_⟩
  simpa only [State.sameOutside, powered, me, wu, sp, xm, cp, chg, smn, pending] using out

/-- A stamped clip record in the words of the statements (R75, R81, R82). -/
theorem ClipRecord.stamped_eq (r : ClipRecord) (sync : Option Nat) : r.stamped sync = { r with
    slotCount := min 4294967295 (r.slotCount + 1)
    startOffset := if r.slotCount = 0 ∧ r.startOffset = none then some (sync.getD 64) else r.startOffset
    noSyncStart := r.noSyncStart || decide (r.slotCount = 0 ∧ r.startOffset = none ∧ sync = none) } := by
  simp only [ClipRecord.stamped, raise, lim32]
  by_cases first : r.slotCount = 0 ∧ r.startOffset = none
  · cases sync <;> simp [first]
  · have other : ∀ p : Prop, ¬(r.slotCount = 0 ∧ r.startOffset = none ∧ p) := fun p h => first ⟨h.1, h.2.1⟩
    simp [first, other]

/-! ### A CLIP cell that makes no split (R121, R130, R168, R169) -/

/-- The Link Port after the sequence test (R169). -/
def State.counted (s : State) (sequence : BitVec 16) (gap : Nat) : State := { s with lp := { s.lp with
  expectedSequence := some (sequence + 1)
  counters := { s.lp.counters with clipCellsMissing := min 65535 (s.lp.counters.clipCellsMissing + gap) } } }

theorem State.takeClipCell_eq {flags : Byte} {sequence : BitVec 16} {gap : Nat} (some : 1 ≤ payload.length)
    (short : payload.length ≤ 4096) (gap_eq : gap = s.lp.expectedSequence.elim 0 (fun e => (sequence - e).toNat)) :
    s.takeClipCell flags sequence payload =
      (s.counted sequence gap).placeCell gap (flags.getLsbD 0) (flags.getLsbD 1) (flags.getLsbD 2) payload := by
  have gapAt : s.lp.gapAt sequence = gap := by
    rw [gap_eq, LinkPort.gapAt]
    cases s.lp.expectedSequence <;> rfl
  rw [State.takeClipCell, clipLengthOk, decide_eq_true ⟨some, short⟩, if_pos rfl, State.sequenceTest, gapAt]
  rfl

/-- A cell that makes no split and ends no drain becomes a VIDEO record of the receiving clip (R121). -/
theorem State.placeCell_video {gap : Nat} (mode : s.clc.mode ≠ .idle ∨ s.clc.drain ≠ none ∧ last = false)
    (whole : sync = false ∨ s.clc.splitDue = false) : s.placeCell gap sync frameEnd last payload =
      (State.handVideo { s with clc := s.gapped gap } sync frameEnd last (decide (0 < gap)) payload).1 := by
  rw [← State.addGap_eq, State.placeCell]
  cases at_mode : s.clc.mode with
  | recording =>
    have unsplit : s.splitsAt sync = false := by rcases whole with e | e <;> simp [State.splitsAt, e]
    simp only [State.recordCell, unsplit]
  | armed => rw [State.addGap_eq, State.gapped_armed at_mode]
  | idle =>
    obtain ⟨drain, more⟩ := mode.resolve_left (not_not.mpr at_mode)
    simp only [Option.isSome_iff_ne_none.mpr drain, more, if_true, Bool.false_eq_true, if_false]

/-- A cell with LAST in a drain: its record, and then the end of the drain (R129). -/
theorem State.placeCell_last {gap : Nat} {d : Drain} (mode : s.clc.mode = .idle) (drain : s.clc.drain = some d) :
    s.placeCell gap sync frameEnd true payload = State.endDrain
      (State.handVideo { s with clc := s.gapped gap } sync frameEnd true (decide (0 < gap)) payload).1 := by
  rw [← State.addGap_eq, State.placeCell]
  simp only [mode, drain, Option.isSome_some, if_true]

/-! ### The FILLING slot closes as full (R74 to R78, R82) -/

/-- Outside ARMED and with no forced split due the full slot is stamped for the receiving clip, and the size test follows
(R74 to R76, R130). -/
theorem State.closeFull_queued {k : Nat} {c : ClipRecord} (filling : s.sb.filling = some n) (mode : s.clc.mode ≠ .armed)
    (low : n < 1024) (fill_eq : fill = (s.sb.slot n).fill) (inside : fill ≤ 65536) (unforced : s.clc.forcedSplitDue = false)
    (receiving : s.clc.receiving = some k) (held : s.clc.clip k = some c)
    (stamped_eq : stamped = { s.sb.slot n with
      state := .queued, clip := some k, sequence := some c.slotCount, final := false }) : s.closeFull = { s with
        sb := s.sb.queued n fill stamped (s.finish fill)
        clc := { s.clc with
          splitDue := s.clc.splitDue || decide (c.state = .opened ∧
            s.clc.table.clipSizeLimit ≤ min 4294967295 (c.slotCount + 1))
          clips := s.clc.clips.map (fun r => if r.number = k then r.stamped (s.sb.slot n).firstSync else r) } } := by
  have full : s.closeFull = s.closeSlot (some k) false := by
    have no_split : s.forcesSplit = false := by simp [State.forcesSplit, unforced]
    simp only [State.closeFull, no_split, receiving]
  have held' : ClipController.clip { s.clc with
      clips := s.clc.clips.map (fun r => if r.number = k then r.stamped (s.sb.slot n).firstSync else r) } k =
        some (c.stamped (s.sb.slot n).firstSync) := by
    rw [ClipController.clip, find?_map_if (f := fun r => r.stamped (s.sb.slot n).firstSync) fun r => r.stamped_number _,
      show s.clc.clips.find? (fun r => r.number == k) = some c from held]
    simp
  subst fill_eq
  rw [full, State.closeSlot_clip (stamped := stamped) filling mode low inside (by rw [held]; exact stamped_eq),
    State.sizeTest_eq (by exact held')]
  obtain ⟨state, -⟩ := c.stamped_fields (s.sb.slot n).firstSync
  simp only [state, c.stamped_slotCount]
  rfl

/-- While ARMED the full slot joins the ring, whose oldest member gives its place where the ring is at the pre-roll depth
(R78). -/
theorem State.closeFull_ring {rest : List Nat} {gone : Option Nat} (filling : s.sb.filling = some n)
    (armed : s.clc.mode = .armed) (low : n < 1024) (fill_eq : fill = (s.sb.slot n).fill) (inside : fill ≤ 65536)
    (outside : n ∉ s.sb.ring) (calm : s.clc.trailerDue = none)
    (member : s.sb.ring.length < s.clc.table.prerollDepth ∧ rest = s.sb.ring ∧ gone = none ∨
      s.clc.table.prerollDepth ≤ s.sb.ring.length ∧ ∃ o, s.sb.ring = o :: rest ∧ gone = some o) :
    ∃ slots, s.closeFull = { s with sb := { s.sb with
        slots := slots, filling := none, ring := rest ++ [n]
        mem := Memory.write s.sb.mem (65536 * n + fill) (s.finish fill) } } ∧
      ∀ j, slots.lookup j = if j = n then some { s.sb.slot n with state := .preroll }
        else if gone = some j then none else s.sb.slots.lookup j := by
  have full : s.closeFull = s.closeSlot s.clc.receiving false := by
    have no_split : s.forcesSplit = false := by simp [State.forcesSplit, armed]
    simp only [State.closeFull, no_split]
  subst fill_eq
  obtain ⟨t, t_def⟩ : ∃ t : State, t = { s with sb := { s.sb with
      filling := none
      mem := Memory.write s.sb.mem (65536 * n + (s.sb.slot n).fill) (s.finish (s.sb.slot n).fill) } } := ⟨_, rfl⟩
  rw [full, State.closeSlot_ring filling armed low inside, ← t_def, State.joinRing]
  have ring : t.sb.ring = s.sb.ring := by rw [t_def]
  have table : t.clc.table = s.clc.table := by rw [t_def]
  rcases member with ⟨room, rfl, rfl⟩ | ⟨depth, o, members, rfl⟩
  · rw [if_neg (by rw [ring, table]; omega), t_def]
    refine ⟨_, rfl, fun j => ?_⟩
    simp only [reduceCtorEq, if_false]
    exact lookup_setEntry n j _ _
  · have freed : t.dropMember = (t.setBuffer (fun b => { b with ring := rest })).freeSlots [o] := by
      rw [State.dropMember, ring, members]
      exact State.release_calm (by rw [t_def]; exact calm)
    rw [if_pos (by rw [ring, table]; exact depth), freed, t_def]
    have n_o : n ≠ o := by
      rintro rfl
      exact outside (by rw [members]; exact List.mem_cons_self)
    refine ⟨_, rfl, fun j => (lookup_setEntry n j _ _).trans ?_⟩
    have lookup := fun j => State.lookup_freeSlots (({ s with sb := { s.sb with
      filling := none
      mem := Memory.write s.sb.mem (65536 * n + (s.sb.slot n).fill) (s.finish (s.sb.slot n).fill) } } : State).setBuffer
        (fun b => { b with ring := rest })) [o] j
    by_cases j_n : j = n
    · rw [if_pos j_n, if_pos j_n, SlotBuffer.slot, lookup n, if_neg (by simpa using n_o)]
      rfl
    · rw [if_neg j_n, if_neg j_n, lookup j]
      simp [eq_comm]

/-- A VIDEO record that does not fit while ARMED: the full slot joins the ring, and the record is the first of the slot that
is then the lowest FREE one (R73, R78, R79). -/
theorem State.handVideo_rings {rest : List Nat} {gone : Option Nat} (taken : s.sb.overrun = false ∨ sync = true)
    (filling : s.sb.filling = some n) (armed : s.clc.mode = .armed) (low : n < 1024)
    (listed : (s.sb.slots.lookup n).isSome = true) (fill_eq : fill = (s.sb.slot n).fill) (inside : fill ≤ 65536)
    (short : payload.length ≤ 4096) (beyond : 65536 < fill + (payload.length + 8)) (outside : n ∉ s.sb.ring)
    (calm : s.clc.trailerDue = none)
    (member : s.sb.ring.length < s.clc.table.prerollDepth ∧ rest = s.sb.ring ∧ gone = none ∨
      s.clc.table.prerollDepth ≤ s.sb.ring.length ∧ ∃ o, s.sb.ring = o :: rest ∧ gone = some o)
    (free_low : m < 1024) (free : s.sb.slots.lookup m = none ∨ gone = some m)
    (below : ∀ j, j < m → s.sb.slots.lookup j ≠ none ∧ gone ≠ some j) : ∃ u,
      s.handVideo sync frameEnd last gap payload =
        ((u.splitTest false).setBuffer (fun b => { b with overrun := false }), true) ∧
      u.sb.ring = rest ++ [n] ∧ u.sb.queue = s.sb.queue ∧ u.sb.slot n = { s.sb.slot n with state := .preroll } ∧
      u.sb.filling = some m ∧ u.sb.quarters = s.sb.quarters ∧
      u.sb.slot m = { SlotRecord.free with
        state := .filling, fill := 64 + (s.videoBytes sync frameEnd last gap payload).length, count := 1
        firstTime := some s.smn.partTime, lastTime := some s.smn.partTime
        firstSync := if sync then some 64 else none, prerollOrigin := true } ∧
      (∀ j, gone = some j → j ≠ m → u.sb.slots.lookup j = none) ∧
      (∀ j, j ≠ n → j ≠ m → gone ≠ some j → u.sb.slots.lookup j = s.sb.slots.lookup j) ∧
      (∀ i b, (s.videoBytes sync frameEnd last gap payload)[i]? = some b →
        Memory.read u.sb.mem (65536 * m + 64 + i) = some b) ∧
      (∀ i b, (s.finish fill)[i]? = some b → Memory.read u.sb.mem (65536 * n + fill + i) = some b) ∧
      (∀ a, (a < 65536 * n + fill ∨ 65536 * n + 65536 ≤ a) →
        (a < 65536 * m + 64 ∨ 65536 * m + 64 + (s.videoBytes sync frameEnd last gap payload).length ≤ a) →
        Memory.read u.sb.mem a = Memory.read s.sb.mem a) ∧
      u.clc = s.clc ∧ u.lp = s.lp ∧ s.sameOutside u := by
  have length : (s.videoBytes sync frameEnd last gap payload).length = payload.length + 8 := length_recordBytes ..
  obtain ⟨slots, closes, lookup⟩ := State.closeFull_ring filling armed low fill_eq inside outside calm member
  have gone_other : gone ≠ some n := by
    rcases member with ⟨-, -, rfl⟩ | ⟨-, o, members, rfl⟩
    · nofun
    · rintro ⟨rfl⟩
      exact outside (by rw [members]; exact List.mem_cons_self)
  have other : m ≠ n := by
    rintro rfl
    rcases free with none | gone_m
    · rw [none] at listed
      cases listed
    · exact gone_other gone_m
  have room : s.closeFull.receives (payload.length + 8) m { SlotRecord.free with state := .filling } (rest ++ [n]) := by
    rw [closes]
    refine ⟨free_low, ?_, .inr ⟨rfl, rfl, .inl ⟨?_, fun j lower => ?_, rfl⟩⟩⟩
    · show 64 + (payload.length + 8) + 9 ≤ 65536
      omega
    · rw [lookup, if_neg other]
      rcases free with none | gone_m
      · simp [none]
      · exact if_pos gone_m
    · obtain ⟨taken_j, kept_j⟩ := below j lower
      rw [lookup, if_neg kept_j]
      split
      · exact Option.some_ne_none _
      · exact taken_j
  obtain ⟨u, hands, appends, u_clc, u_lp, out⟩ := State.handVideo_full (frameEnd := frameEnd) (last := last) (gap := gap)
    taken (State.needsRoom_of filling fill_eq beyond) (by rw [closes]) (by rw [closes]) room
  rw [closes] at appends u_clc u_lp out
  obtain ⟨slot, others, u_filling, ring, queue, quarters, bytes, kept⟩ := appends
  have unsplit : s.forcesSplit = false := by
    rw [State.forcesSplit, armed]
    simp
  have finish := s.length_finish inside
  have apart : ∀ a, (a < 65536 * m + 64 ∨ 65536 * m + 64 + (s.videoBytes sync frameEnd last gap payload).length ≤ a) →
      Memory.read u.sb.mem a = Memory.read (Memory.write s.sb.mem (65536 * n + fill) (s.finish fill)) a := kept
  rw [unsplit] at hands
  refine ⟨u, hands, ring, queue, ?_, u_filling, quarters, ?_, fun j gone_j j_m => ?_, fun j j_n j_m kept_j => ?_, bytes,
    fun i b at_i => ?_, fun a a_finish a_record => ?_, u_clc, u_lp, out⟩
  · rw [SlotBuffer.slot, others n (Ne.symm other)]
    show (slots.lookup n).getD _ = _
    rw [lookup, if_pos rfl]
    rfl
  · rw [slot]
    simp [SlotRecord.free, armed]
  · rw [others j j_m]
    show slots.lookup j = none
    rw [lookup, if_neg (by rintro rfl; exact gone_other gone_j), if_pos gone_j]
  · rw [others j j_m]
    show slots.lookup j = _
    rw [lookup, if_neg j_n, if_neg kept_j]
  · obtain ⟨lt, -⟩ := List.getElem?_eq_some_iff.mp at_i
    rw [apart _ (by omega), Memory.read_write_inside _ _ _ _ lt, at_i]
  · rw [apart a a_record, Memory.read_write_outside _ _ _ _ (by omega)]

end

/-! ### What the whole event does -/

section
variable {s : State} {flags : Byte} {sequence : BitVec 16} {payload record : List Byte} {gap : Nat} {lp : LinkPort}

/-- The state in which the record of a cell is handed in: its gap is counted for the link and for the receiving clip
(R169). -/
def State.missed (s : State) (sequence : BitVec 16) (gap : Nat) : State :=
  { s.counted sequence gap with clc := s.gapped gap }

/-- The record of a cell. -/
def State.cellRecord (s : State) (flags : Byte) (gap : Nat) (payload : List Byte) : List Byte :=
  s.videoBytes (flags.getLsbD 0) (flags.getLsbD 1) (flags.getLsbD 2) (decide (0 < gap)) payload

theorem State.cellRecord_eq (s : State) (flags : Byte) (gap : Nat) (payload : List Byte) :
    beBytes 1 1 ++ beBytes 1 ((if flags.getLsbD 0 then 1 else 0) + (if flags.getLsbD 1 then 2 else 0) +
      (if flags.getLsbD 2 then 4 else 0) + (if 0 < gap ∨ s.sb.overrun = true then 8 else 0)) ++
      beBytes 2 payload.length ++ beBytes 4 s.smn.partTime.toNat ++ payload = s.cellRecord flags gap payload := by
  rw [State.cellRecord, State.videoBytes, ← videoRecord_eq]
  simp

theorem State.length_cellRecord (s : State) (flags : Byte) (gap : Nat) (payload : List Byte) :
    (s.cellRecord flags gap payload).length = payload.length + 8 := length_recordBytes ..

/-- The state after a cell whose record an overrun discards (R83, R84). -/
def State.cellLost (s : State) (sequence : BitVec 16) (gap : Nat) : State := { s.counted sequence gap with
  lp := { (s.counted sequence gap).lp with
    notices := s.overrunNotices s.lp.notices
    counters := { (s.counted sequence gap).lp.counters with
      recordsDiscarded := min 65535 (s.lp.counters.recordsDiscarded + 1) } }
  sb := { s.sb with overrun := true }
  clc := s.gapped (gap + 1) }

/-- What handing in the record of a cell gives, its flags being those of the cell. -/
def State.handsCell (s : State) (flags : Byte) (sequence : BitVec 16) (gap : Nat) (payload : List Byte) : State × Bool :=
  (s.missed sequence gap).handVideo (flags.getLsbD 0) (flags.getLsbD 1) (flags.getLsbD 2) (decide (0 < gap)) payload

theorem State.handsCell_lost (lost : s.sb.overrun = true ∧ flags.getLsbD 0 = false ∨ s.noSlot) :
    s.handsCell flags sequence gap payload = (s.cellLost sequence gap, false) := by
  have notices : (s.missed sequence gap).overrunNotices s.lp.notices = s.overrunNotices s.lp.notices := by
    simp only [State.overrunNotices, State.missed, s.gapped_receiving]
    rfl
  have gaps : (s.missed sequence gap).gapped 1 = s.gapped (gap + 1) := s.gapped_gapped gap 1
  rw [State.handsCell, State.handVideo_lost (by exact lost), gaps,
    show (s.missed sequence gap).lp.notices = s.lp.notices from rfl, notices]
  rfl

theorem State.handsCell_receives {n : Nat} {r : SlotRecord} {ring : List Nat}
    (taken : s.sb.overrun = false ∨ flags.getLsbD 0 = true)
    (room : s.receives (s.cellRecord flags gap payload).length n r ring) : ∃ u,
      s.handsCell flags sequence gap payload = (u, true) ∧
      s.appends u n r ring (s.cellRecord flags gap payload) (flags.getLsbD 0) ∧ u.sb.overrun = false ∧
      u.clc = s.gapped gap ∧ u.lp = (s.counted sequence gap).lp ∧ s.sameOutside u := by
  rw [State.length_cellRecord] at room
  have room : (s.missed sequence gap).receives (payload.length + 8) n r ring := by
    obtain ⟨low, fits, place⟩ := room
    refine ⟨low, fits, place.imp id fun ⟨empty, fresh, way⟩ => ⟨empty, fresh, way.imp id fun ⟨full, member, calm⟩ => ?_⟩⟩
    exact ⟨full, member, State.gapped_trailerDue calm gap⟩
  obtain ⟨u, hands, appends, overrun, clc, lp, out⟩ := State.handVideo_receives (s := s.missed sequence gap)
    (n := n) (r := r) (ring := ring) (payload := payload) (frameEnd := flags.getLsbD 1) (last := flags.getLsbD 2) (gap := decide (0 < gap)) taken
    room
  exact ⟨u, hands, appends, overrun, clc, lp, out⟩

/-- What a cell that makes no split and ends no drain does (R121, R168, R169). -/
theorem State.exec_clipCell (on : s.powered = true) (some : 1 ≤ payload.length) (short : payload.length ≤ 4096)
    (gap_eq : gap = s.lp.expectedSequence.elim 0 (fun e => (sequence - e).toNat))
    (mode : s.clc.mode ≠ .idle ∨ s.clc.drain ≠ none ∧ flags.getLsbD 2 = false)
    (whole : flags.getLsbD 0 = false ∨ s.clc.splitDue = false) {u : State} {appended : Bool}
    (hands : s.handsCell flags sequence gap payload = (u, appended)) (drain : u.clc.drain = s.clc.drain)
    (close : u.clc.powerClose = s.clc.powerClose) : exec (.clipCell flags sequence payload) s = u.settled := by
  have effect : exec (.clipCell flags sequence payload) s =
      ((s.takeClipCell flags sequence payload).checkPowerClose s).settled :=
    State.take_powered on fun t => (t.takeClipCell flags sequence payload).checkPowerClose t
  have placed : s.takeClipCell flags sequence payload = u := by
    rw [State.takeClipCell_eq some short gap_eq, State.placeCell_video (by exact mode) (by exact whole)]
    exact congrArg Prod.fst hands
  rw [effect, placed, State.checkPowerClose_same drain close]

/-- A cell with LAST in a drain: its record is handed in, and then the drain of the CLOSING clip ends; that clip is still to
be closed, so no power close ends (R121, R129, R137). -/
theorem State.exec_clipCell_last (on : s.powered = true) (some : 1 ≤ payload.length) (short : payload.length ≤ 4096)
    (gap_eq : gap = s.lp.expectedSequence.elim 0 (fun e => (sequence - e).toNat)) {d : Drain} {c : ClipRecord}
    (mode : s.clc.mode = .idle) (drain : s.clc.drain = Option.some d) (held : s.clc.clip d.clip = Option.some c)
    (closing : c.state = .closing) (last : flags.getLsbD 2 = true) {v : State} {appended : Bool} {lost : Nat}
    (hands : s.handsCell flags sequence gap payload = (v, appended)) (clc : v.clc = s.gapped lost)
    (v_on : v.powered = true) : ∃ u q, exec (.clipCell flags sequence payload) s = u.settled ∧
      u.clc.clip d.clip = Option.some q ∧ q.endReason = c.endReason ∧
      q.gapCount = min 4294967295 (c.gapCount + lost) ∧ v.drained u d.clip c.slotCount q ∧ u.me = v.me ∧ u.smn = v.smn := by
  have effect : exec (.clipCell flags sequence payload) s =
      ((s.takeClipCell flags sequence payload).checkPowerClose s).settled :=
    State.take_powered on fun t => (t.takeClipCell flags sequence payload).checkPowerClose t
  have receiving : s.clc.receiving = Option.some d.clip := by rw [ClipController.receiving, mode, drain]; rfl
  have v_held : v.clc.clip d.clip = Option.some { c with gapCount := min 4294967295 (c.gapCount + lost) } := by
    rw [clc, State.gapped_clip receiving, held]
    rfl
  have placed : s.takeClipCell flags sequence payload = v.finishClip d.clip := by
    have ends : v.endDrain = v.finishClip d.clip := by
      rw [State.endDrain, clc, show (s.gapped lost).drain = Option.some d from drain]
    rw [State.takeClipCell_eq some short gap_eq, last, State.placeCell_last (by exact mode) (by exact drain), ← ends, ← last]
    exact congrArg State.endDrain (congrArg Prod.fst hands)
  obtain ⟨q, found, reason, gaps, drained, -⟩ := State.finishClip_ends v_on (by rw [clc]; exact mode) v_held closing
  obtain ⟨-, me, -, -, -, -, -, -, smn, -⟩ := v.finishClip_frame d.clip
  have remains : (v.finishClip d.clip).clc.allEnded = false :=
    (ClipController.allEnded_iff _).mpr (.inr ⟨q, List.mem_of_find?_eq_some found, .inr drained.1⟩)
  refine ⟨v.finishClip d.clip, q, ?_, found, reason, gaps, drained, me, smn⟩
  rw [effect, placed, State.checkPowerClose_more remains]

end

end Sys2Proof.Machine

open Sys2Proof.Machine

/-- Settles O49: what a cell's record meets (`State.handsCell_lost`, `State.handsCell_receives`, `State.handVideo_rolls`,
`State.handVideo_rings`), and the event around it (`State.exec_clipCell`, `State.exec_clipCell_last`). -/
theorem clipCellBecomesAVideoRecord : Obligations.ClipCellBecomesAVideoRecord := by
  intro s flags sequence payload gap on gap_eq
  have effect : exec (.clipCell flags sequence payload) s =
      ((s.takeClipCell flags sequence payload).checkPowerClose s).settled :=
    State.take_powered on fun t => (t.takeClipCell flags sequence payload).checkPowerClose t
  have length : (s.cellRecord flags gap payload).length = payload.length + 8 := length_recordBytes ..
  refine ⟨fun long => ?_, fun some short idle undrained => ?_,
    fun record lp some short mode whole record_eq lp_eq => ?_, ?_⟩
  · have bad : clipLengthOk payload = false := by
      rw [clipLengthOk, decide_eq_false]
      omega
    rw [effect, State.takeClipCell, bad, if_neg Bool.false_ne_true, State.checkPowerClose_same (by rfl) (by rfl)]
    rfl
  · rw [effect, State.takeClipCell_eq some short gap_eq, State.placeCell, show (s.counted sequence gap).clc = s.clc from rfl,
      idle, undrained, State.checkPowerClose_same (by rfl) (by rfl)]
    rfl
  · subst lp_eq
    rw [State.cellRecord_eq] at record_eq
    subst record_eq
    have cell := @State.exec_clipCell s flags sequence payload gap on some short gap_eq mode whole
    refine ⟨fun lost => ?_, fun taken => ⟨fun n r ring room => ?_, ?_, ?_⟩⟩
    · exact cell (State.handsCell_lost lost) rfl rfl
    · obtain ⟨u, hands, appends, overrun, clc, lp, out⟩ := State.handsCell_receives (sequence := sequence) taken room
      exact ⟨u, cell hands (by rw [clc]; rfl) (by rw [clc]; rfl), appends, clc, lp, overrun, out⟩
    · intro n m k fill c stamped filling unarmed low listed fill_eq start inside beyond unforced receiving held free stamped_eq
      rw [length] at beyond
      have held' : (s.gapped gap).clip k = Option.some { c with gapCount := min 4294967295 (c.gapCount + gap) } := by
        rw [State.gapped_clip receiving, held]
        rfl
      have closes := State.closeFull_queued (s := s.missed sequence gap) filling unarmed low fill_eq inside unforced
        ((s.gapped_receiving gap).trans receiving) held' stamped_eq
      obtain ⟨u, hands, rolls, clc, lp, out⟩ := State.handVideo_rolls (s := s.missed sequence gap) (stamped := stamped)
        (frameEnd := flags.getLsbD 1) (last := flags.getLsbD 2) (gap := decide (0 < gap)) taken filling listed fill_eq start
        inside short beyond free (by rw [closes]) (by rw [closes]; exact unarmed)
      rw [closes] at clc
      have unsplit : (s.missed sequence gap).forcesSplit = false := by
        rw [State.forcesSplit, show (s.missed sequence gap).clc.forcedSplitDue = false from unforced]
        simp
      rw [unsplit] at hands
      obtain ⟨slot, queue, ring, u_filling, quarters, opened, others, header, finish, bytes, rest⟩ := rolls
      refine ⟨_, cell hands (congrArg (·.drain) clc) (congrArg (·.powerClose) clc), lp, rfl, out,
        slot, queue, ring, u_filling, quarters, opened, others, header, finish, bytes, rest, clc.trans ?_⟩
      have clips : (s.gapped gap).clips.map (fun r => if r.number = k then r.stamped (s.sb.slot n).firstSync else r) =
          s.clc.clips.map (fun r => if r.number = k then { r with
            gapCount := min 4294967295 (r.gapCount + gap), slotCount := min 4294967295 (r.slotCount + 1)
            startOffset := if r.slotCount = 0 ∧ r.startOffset = none then Option.some ((s.sb.slot n).firstSync.getD 64)
              else r.startOffset
            noSyncStart := r.noSyncStart || decide (r.slotCount = 0 ∧ r.startOffset = none ∧
              (s.sb.slot n).firstSync = none) } else r) := by
        rw [State.gapped, List.map_map]
        congr 1
        funext r
        by_cases named : r.number = k <;> simp [receiving, named, ClipRecord.stamped_eq]
      exact congrArg (fun l => { s.clc with
        splitDue := s.clc.splitDue || decide (c.state = ClipState.opened ∧
          s.clc.table.clipSizeLimit ≤ min 4294967295 (c.slotCount + 1))
        clips := l }) clips
    · intro n m fill rest gone filling armed low listed fill_eq inside beyond outside calm member free_low free below
      rw [length] at beyond
      have clc_eq : s.gapped gap = s.clc := State.gapped_armed armed gap
      obtain ⟨u, hands, ring, queue, closed, u_filling, quarters, opened, dropped, others, bytes, finish, kept, clc, lp,
        out⟩ := State.handVideo_rings (s := s.missed sequence gap) (frameEnd := flags.getLsbD 1) (last := flags.getLsbD 2)
          (gap := decide (0 < gap)) taken filling armed low listed fill_eq inside short beyond outside
          (State.gapped_trailerDue calm gap) member free_low free below
      rw [show (s.missed sequence gap).clc = s.clc from clc_eq] at clc
      exact ⟨_, cell hands (congrArg (·.drain) clc) (congrArg (·.powerClose) clc), lp, rfl, out, ring, queue, closed,
        u_filling, quarters, opened, dropped, others, bytes, finish, kept, clc⟩
  · intro record lp d c ended some short idle drain held closing last record_eq lp_eq ended_iff
    subst lp_eq
    have with_last : record = s.cellRecord flags gap payload := by
      rw [record_eq, ← State.cellRecord_eq, last]
      rfl
    subst with_last
    have cell := @State.exec_clipCell_last s flags sequence payload gap on some short gap_eq d c idle drain held closing last
    refine ⟨fun lost => ?_, fun n r ring taken room => ?_⟩
    · obtain ⟨u, q, effect, ends⟩ := cell (State.handsCell_lost lost) rfl on
      exact (ended_iff _ _).mpr ⟨u, q, effect, ends⟩
    · obtain ⟨v, hands, appends, overrun, clc, lp, out⟩ := State.handsCell_receives (sequence := sequence) taken room
      obtain ⟨me, -, -, -, -, -, smn, powered, -⟩ := id out
      obtain ⟨u, q, effect, found, reason, gaps, drained, u_me, u_smn⟩ := cell hands clc (powered.trans on)
      exact ⟨v, appends, clc, lp, overrun, out, (ended_iff _ _).mpr
        ⟨u, q, effect, found, reason, gaps, drained, u_me.trans me, u_smn.trans smn⟩⟩
end

section
/-!
STOP RECORD, the drain deadline and ABORT CLIP (R128, R129, R135, R137).
-/
set_option Elab.async false

namespace Sys2Proof.Machine

section
variable {s t u : State} {tag : Byte} {k : Nat} {c : ClipRecord}

/-! ### STOP RECORD and the drain deadline (R128, R129) -/

/-- The recorder after STOP RECORD with a DRAIN TIME above 0 (R128). -/
def State.draining (s : State) (k : Nat) : State := { s with
  me := { s.me with queue := [] }
  clc := { s.clc with
    mode := .idle, splitDue := false, forcedSplitDue := false
    drain := some ⟨k, s.smn.partTime + BitVec.ofNat 48 (1000 * s.clc.table.drainTime)⟩
    clips := s.clc.clips.map (fun r => if r.number = k then
      { r with state := .closing, endReason := some .stop } else r) } }

/-- STOP RECORD in RECORDING: the drain starts, and a DRAIN TIME of 0 ends it at once (R128). -/
theorem State.stopRecord_recording (absent : s.clc.powerClose = none) (mode : s.clc.mode = .recording)
    (opened : s.clc.openClip = some c) : s.stopRecord =
      (if s.clc.table.drainTime = 0 then (s.draining c.number).finishClip c.number else s.draining c.number,
        .done (.clipNumber c.number)) := by
  have unpowered : ¬s.clc.powerClose.isSome = true := by simp [absent]
  rw [State.stopRecord, if_neg unpowered, if_pos mode, opened]
  rfl

theorem State.draining_held (held : s.clc.clip k = some c) :
    (s.draining k).clc.clip k = some { c with state := .closing, endReason := some .stop } :=
  State.endRecording_held held

/-- The end of a drain of a CLOSING clip while IDLE, and the check for the end of a power close, which the clip itself keeps
present (R129, R137). -/
theorem State.endDrain_ends {d : Drain} (on : s.powered = true) (mode : s.clc.mode = .idle) (drain : s.clc.drain = some d)
    (held : s.clc.clip d.clip = some c) (closing : c.state = .closing) : ∃ u q, s.endDrain.endPowerClose = u ∧
      u.clc.clip d.clip = some q ∧ q.endReason = c.endReason ∧ s.drained u d.clip c.slotCount q ∧ u.me = s.me ∧
      u.smn = s.smn := by
  obtain ⟨q, found, reason, -, drained, -⟩ := State.finishClip_ends on mode held closing
  obtain ⟨-, me, -, -, -, -, -, -, smn, -⟩ := s.finishClip_frame d.clip
  have remains : (s.finishClip d.clip).clc.allEnded = false :=
    (ClipController.allEnded_iff _).mpr (.inr ⟨q, List.mem_of_find?_eq_some found, .inr drained.1⟩)
  refine ⟨s.finishClip d.clip, q, ?_, found, reason, drained, me, smn⟩
  rw [State.endDrain, drain]
  exact State.endPowerClose_more remains

/-! ### ABORT CLIP (R135) -/

/-- What the trailer test makes of one slot: nothing, or the trailer of the clip that is due (R77, R132). -/
theorem State.trailerTest_each (s : State) (n : Nat) :
    s.trailerTest.sb.slots.lookup n = s.sb.slots.lookup n ∧ (n ∈ s.trailerTest.sb.queue ↔ n ∈ s.sb.queue) ∨
      ∃ c, s.clc.trailerDue = some c ∧ s.sb.slots.lookup n = none ∧ n ∈ s.trailerTest.sb.queue ∧
        s.trailerTest.sb.slots.lookup n = some (trailerRecord c s.smn.partTime) := by
  rcases s.trailerTest_cases with same | ⟨c, m, due, ⟨-, free, -⟩, formed⟩
  · rw [same]
    exact .inl ⟨rfl, Iff.rfl⟩
  · obtain ⟨mem, trailer, -⟩ := s.formTrailer_differs c m
    rw [formed, trailer]
    by_cases n_m : n = m
    · subst n_m
      exact .inr ⟨c, due, free, List.mem_cons_self, (lookup_setEntry n n _ _).trans (if_pos rfl)⟩
    · refine .inl ⟨(lookup_setEntry m n _ _).trans (if_neg n_m), ?_⟩
      simp [n_m]

/-- An abort before the trailer test: the drain, the slots and the record of the clip, and the notice (R135, steps 1 to 4). -/
def State.clipAborted (s : State) (k : Nat) : State :=
  ((((s.abandonDrain k).setBuffer (fun b => { b with
    queue := b.queue.filter (fun n => !(s.abortedSlots k).contains n) })).freeSlots (s.abortedSlots k)).modifyClip k
      (fun r => { r with state := .aborted, endReason := some .abort })).post .clipAborted (.number k)

/-- While IDLE, and with fewer than 32 entries waiting, an abort makes no MOTION record (R85, R135). -/
theorem State.abortNow_quiet (quiet : s.clc.mode = .idle ∨ s.me.queue.length < 32) :
    s.abortNow k = (s.clipAborted k).trailerTest := by
  have kept : (s.clipAborted k).trailerTest.clc.mode = s.clc.mode ∧ (s.clipAborted k).trailerTest.me = s.me := by
    obtain ⟨f, -, clc, -⟩ := (s.clipAborted k).trailerTest_keeps
    have mode : (s.abandonDrain k).clc.mode = s.clc.mode := by unfold State.abandonDrain; split <;> rfl
    have me : (s.clipAborted k).me = s.me := by simp [State.clipAborted]
    rw [clc]
    exact ⟨mode, by simp [me]⟩
  have again : (s.clipAborted k).trailerTest.retryMotion = (s.clipAborted k).trailerTest := by
    unfold State.retryMotion; split
    · rfl
    · next busy => exact State.pump_short (by rw [kept.2]; exact quiet.resolve_left (kept.1 ▸ busy))
  show (if (s.abortedSlots k).isEmpty then (s.clipAborted k).trailerTest
    else (s.clipAborted k).trailerTest.retryMotion) = _
  rw [again, ite_self]

/-- The drain of the clip, and with it the FILLING slot and the overrun, where it runs; else nothing (R135, step 1). -/
theorem State.clipAborted_parts (s : State) (k : Nat) :
    ((∀ d, s.clc.drain = some d → d.clip ≠ k) → (s.clipAborted k).clc.drain = s.clc.drain ∧
      (s.clipAborted k).sb.filling = s.sb.filling ∧ (s.clipAborted k).sb.overrun = s.sb.overrun) ∧
    (∀ d, s.clc.drain = some d → d.clip = k → (s.clipAborted k).clc.drain = none ∧
      (s.clipAborted k).sb.filling = none ∧ (s.clipAborted k).sb.overrun = false) ∧
    (s.clipAborted k).sb.ring = s.sb.ring ∧
    (s.clipAborted k).sb.queue = s.sb.queue.filter (fun n => !(s.abortedSlots k).contains n) ∧
    (∀ n, (s.clipAborted k).sb.slots.lookup n = if n ∈ s.abortedSlots k then none else s.sb.slots.lookup n) ∧
    (s.clipAborted k).clc.mode = s.clc.mode ∧ (s.clipAborted k).clc.nextClip = s.clc.nextClip ∧
    (s.clipAborted k).clc.powerClose = s.clc.powerClose ∧
    (s.clipAborted k).clc.clips = s.clc.clips.map (fun r => if r.number = k then
      { r with state := .aborted, endReason := some .abort } else r) := by
  have slots : ∀ n, (s.clipAborted k).sb.slots.lookup n =
      if n ∈ s.abortedSlots k then none else (s.abandonDrain k).sb.slots.lookup n :=
    fun n => State.lookup_freeSlots _ (s.abortedSlots k) n
  cases runs : s.clc.drain.any (fun d => d.clip == k) with
  | false =>
    have stays : s.abandonDrain k = s := by simp [State.abandonDrain, runs]
    have other : ∀ d, s.clc.drain = some d → d.clip ≠ k := by
      intro d drain
      simpa [drain] using runs
    refine ⟨fun _ => ?_, fun d drain same => absurd same (other d drain), ?_, ?_, ?_, ?_, ?_, ?_, ?_⟩
    · simp only [State.clipAborted, stays]
      exact ⟨rfl, rfl, rfl⟩
    · simp only [State.clipAborted, stays]; rfl
    · simp only [State.clipAborted, stays]; rfl
    · simpa only [stays] using slots
    all_goals simp only [State.clipAborted, stays]; rfl
  | true =>
    have ends : s.abandonDrain k = (s.setRecorder (fun c => { c with drain := none })).setBuffer
        (fun b => { b with filling := none, overrun := false }) := by simp [State.abandonDrain, runs]
    refine ⟨fun other => ?_, fun _ _ _ => ?_, ?_, ?_, ?_, ?_, ?_, ?_, ?_⟩
    · obtain ⟨d, drain, same⟩ := Option.any_eq_true _ _ |>.mp runs
      exact absurd (by simpa using same) (other d drain)
    · simp only [State.clipAborted, ends]
      exact ⟨rfl, rfl, rfl⟩
    · simp only [State.clipAborted, ends]; rfl
    · simp only [State.clipAborted, ends]; rfl
    · simp only [ends] at slots
      exact slots
    all_goals simp only [State.clipAborted, ends]; rfl

theorem ClipController.trailerDue_mem {d : ClipController} (due : d.trailerDue = some c) :
    c ∈ d.clips ∧ c.state = .closing := by
  obtain ⟨found, -⟩ := ClipController.trailerDue_eq_some.mp due
  exact ⟨List.mem_of_find?_eq_some found, by simpa using List.find?_some found⟩

/-- The FREE slots, the write queue and the trailers after an abort (R132, R135). -/
theorem State.clipAborted_slots (s : State) (k : Nat) :
    (∀ n ∈ s.sb.queue, (s.sb.slot n).clip ≠ some k → s.sb.filling ≠ some n →
      n ∈ (s.clipAborted k).trailerTest.sb.queue) ∧
    (∀ n ∈ (s.clipAborted k).trailerTest.sb.queue, ((s.clipAborted k).trailerTest.sb.slot n).clip ≠ some k) ∧
    (∀ n ∈ s.sb.queue, (s.sb.slot n).clip = some k → (s.clipAborted k).trailerTest.sb.slots.lookup n = none ∨
      ((s.clipAborted k).trailerTest.sb.slot n).trailer = true) := by
  obtain ⟨-, -, -, queue, lookup, -, -, -, clips⟩ := s.clipAborted_parts k
  have freed : ∀ n, n ∈ s.sb.queue → (s.sb.slot n).clip = some k → n ∈ s.abortedSlots k := fun n mem clip =>
    List.mem_append_right _ (List.mem_filter.mpr ⟨mem, decide_eq_true clip⟩)
  have waits : ∀ n, n ∈ (s.clipAborted k).sb.queue ↔ n ∈ s.sb.queue ∧ n ∉ s.abortedSlots k := by
    intro n
    rw [queue]
    simp
  refine ⟨fun n mem other unfilled => ?_, fun n mem => ?_, fun n mem clip => ?_⟩
  · have stays : n ∈ (s.clipAborted k).sb.queue := by
      refine (waits n).mpr ⟨mem, fun gone => ?_⟩
      rcases List.mem_append.mp gone with ends | queued
      · split at ends
        · exact unfilled (Option.mem_toList.mp ends)
        · exact List.not_mem_nil ends
      · exact other (of_decide_eq_true (List.mem_filter.mp queued).2)
    rcases (s.clipAborted k).trailerTest_each n with ⟨-, same⟩ | ⟨c, -, -, there, -⟩
    · exact same.mpr stays
    · exact there
  · rcases (s.clipAborted k).trailerTest_each n with ⟨slot, same⟩ | ⟨c, due, -, -, slot⟩
    · obtain ⟨queued, kept⟩ := (waits n).mp (same.mp mem)
      rw [SlotBuffer.slot, slot, lookup, if_neg kept, ← SlotBuffer.slot]
      exact fun clip => kept (freed n queued clip)
    · rw [SlotBuffer.slot, slot]
      obtain ⟨mem_c, closing⟩ := ClipController.trailerDue_mem due
      rw [clips] at mem_c
      obtain ⟨r, -, r_c⟩ := List.mem_map.mp mem_c
      rintro ⟨rfl⟩
      split at r_c
      · rw [← r_c] at closing
        cases closing
      · next other => exact other (by rw [r_c])
  · rcases (s.clipAborted k).trailerTest_each n with ⟨slot, -⟩ | ⟨c, -, -, -, slot⟩
    · exact .inl (by rw [slot, lookup, if_pos (freed n mem clip)])
    · exact .inr (by rw [SlotBuffer.slot, slot]; rfl)

/-- The clips after an abort: that of the abort is ABORTED, and the others are as many steps from their end as before (R135,
R137). -/
theorem State.clipAborted_clips {more : Prop} (held : s.clc.clip k = some c)
    (left : more ↔ (∃ q ∈ s.clc.clips, q.number ≠ k ∧ (q.state = .opened ∨ q.state = .closing)) ∨
      ∃ d, s.clc.drain = some d ∧ d.clip ≠ k) :
    (∃ q, (s.clipAborted k).trailerTest.clc.clip k = some q ∧ q.state = .aborted ∧ q.endReason = some .abort) ∧
    ((s.clipAborted k).trailerTest.clc.allEnded = false ↔ more) := by
  obtain ⟨drain_other, drain_same, -, -, -, -, -, -, clips⟩ := s.clipAborted_parts k
  obtain ⟨f, marks, clc, -⟩ := (s.clipAborted k).trailerTest_keeps
  have number : ∀ r, (f r).number = r.number := by
    intro r; rcases marks r with e | e <;> rw [e]
  have state : ∀ r, (f r).state = r.state := by
    intro r; rcases marks r with e | e <;> rw [e]
  refine ⟨⟨f { c with state := .aborted, endReason := some .abort }, ?_, state _, ?_⟩, ?_⟩
  · rw [clc, ClipController.clip, find?_map_number number, clips,
      find?_map_if (f := fun r => { r with state := .aborted, endReason := some .abort }) (fun _ => rfl),
      show s.clc.clips.find? (fun r => r.number == k) = some c from held]
    simp
  · rcases marks { c with state := .aborted, endReason := some .abort } with e | e <;> rw [e]
  · rw [ClipController.allEnded_iff, left, clc]
    dsimp only
    rw [clips, List.map_map, or_comm]
    refine or_congr ⟨?_, ?_⟩ ⟨fun drain => ?_, ?_⟩
    · rintro ⟨r, mem, live⟩
      obtain ⟨q, mem_q, rfl⟩ := List.mem_map.mp mem
      simp only [Function.comp, state] at live
      split at live
      · rcases live with e | e <;> cases e
      · next other => exact ⟨q, mem_q, other, live⟩
    · rintro ⟨q, mem, other, live⟩
      exact ⟨f q, List.mem_map.mpr ⟨q, mem, by simp [other]⟩, by rwa [state]⟩
    · by_contra none_other
      push Not at none_other
      cases runs : s.clc.drain with
      | none => exact drain (by rw [(drain_other (by simp [runs])).1, runs])
      | some d => exact drain (drain_same d runs (none_other d runs)).1
    · rintro ⟨d, runs, other⟩
      rw [(drain_other (by rintro e he; rw [runs] at he; cases he; exact other)).1, runs]
      exact Option.some_ne_none _

/-- The other blocks at an abort: only its notice is posted (R135, step 4). -/
theorem State.clipAborted_frame (s : State) (k : Nat) :
    (s.clipAborted k).trailerTest.lp = { s.lp with notices := postNotice .clipAborted (.number k) s.smn.partTime s.lp.notices } ∧
    (s.clipAborted k).trailerTest.powered = s.powered ∧ (s.clipAborted k).trailerTest.me = s.me ∧
    (s.clipAborted k).trailerTest.wu = s.wu ∧ (s.clipAborted k).trailerTest.sp = s.sp ∧
    (s.clipAborted k).trailerTest.xm = s.xm ∧ (s.clipAborted k).trailerTest.cp = s.cp ∧
    (s.clipAborted k).trailerTest.chg = s.chg ∧ (s.clipAborted k).trailerTest.smn = s.smn ∧
    (s.clipAborted k).trailerTest.pending = s.pending := by
  refine ⟨?_, by simp [State.clipAborted], by simp [State.clipAborted], by simp [State.clipAborted],
    by simp [State.clipAborted], by simp [State.clipAborted], by simp [State.clipAborted], by simp [State.clipAborted],
    by simp [State.clipAborted], by simp [State.clipAborted]⟩
  simp [State.clipAborted, State.post]

/-- An abort ends a power close where nothing is left to close; while something is, or with none present, the part stays as
the abort leaves it (R137). -/
theorem State.endPowerClose_stays {more : Prop} (ended : s.clc.allEnded = false ↔ more)
    (h : s.clc.powerClose = none ∨ more) : s.endPowerClose = s := by
  rcases h with absent | remains
  · exact State.endPowerClose_absent absent
  · exact State.endPowerClose_more (ended.mpr remains)

/-- The end of a power close in a part that is in standby already (R137). -/
theorem State.endPowerClose_asleep {why : PowerReason} (present : s.clc.powerClose = some why)
    (ended : s.clc.allEnded = true) (asleep : s.smn.standby ≠ .active) :
    s.endPowerClose = { s with clc := { s.clc with powerClose := none } } := by
  simp only [State.endPowerClose, present, ended, if_true, asleep, if_false]
  rfl

/-- Where the power close ends or stays: the buffer's slots and lists, the clips, the mode and the drain are those before
(R137, R164). -/
theorem State.endPowerClose_keeps (s : State) :
    s.endPowerClose.clc = { s.clc with powerClose := s.endPowerClose.clc.powerClose } ∧
    s.endPowerClose.sb.slots = s.sb.slots ∧ s.endPowerClose.sb.queue = s.sb.queue ∧ s.endPowerClose.sb.ring = s.sb.ring ∧
    s.endPowerClose.sb.filling = s.sb.filling ∧ (s.sb.overrun = false → s.endPowerClose.sb.overrun = false) := by
  cases present : s.clc.powerClose with
  | none => rw [State.endPowerClose_absent present]; exact ⟨rfl, rfl, rfl, rfl, rfl, id⟩
  | some why =>
    cases ended : s.clc.allEnded with
    | false => rw [State.endPowerClose_more ended]; exact ⟨rfl, rfl, rfl, rfl, rfl, id⟩
    | true =>
      by_cases active : s.smn.standby = .active
      · rw [State.endPowerClose_parks present ended active]
        exact ⟨rfl, rfl, rfl, rfl, rfl, fun _ => rfl⟩
      · rw [State.endPowerClose_asleep present ended active]
        exact ⟨rfl, rfl, rfl, rfl, rfl, id⟩

/-- ABORT CLIP of a held clip by its state (R135). -/
theorem State.abortClip_held (held : s.clc.clip k = some c) : s.abortClip k =
    (if c.state = .closed ∨ c.state = .aborted then (s, .refused .badRange)
    else if c.state = .opened then (s, .refused .recording)
    else if s.clipWriting k then (s, .busy)
    else ((s.abortNow k).endPowerClose, .done .plain)) := by
  simp only [State.abortClip, held, State.answered]
  cases c.state <;> simp

end

end Sys2Proof.Machine
end

section
/-!
A split of the OPEN clip at a CLIP cell (R123, R130, R131).
-/
set_option Elab.async false

namespace Sys2Proof.Machine

section
variable {s t u : State} {n m k fill gap : Nat} {c : ClipRecord} {stamped : SlotRecord} {payload : List Byte}
  {sync frameEnd last : Bool} {flags : Byte} {sequence : BitVec 16}

/-! ### The records at a split (R123, R130) -/

/-- A change that ends no clip and revives none commutes with the removal of the oldest ended one (R123). -/
theorem dropOldest_map {f : ClipRecord → ClipRecord} {clips : List ClipRecord} (ended : ∀ r ∈ clips,
    ((f r).state = .closed ∨ (f r).state = .aborted) ↔ (r.state = .closed ∨ r.state = .aborted)) :
    dropOldest (clips.map f) = (dropOldest clips).map f := by
  induction clips with
  | nil => rfl
  | cons r rest ih =>
    have same := ended r List.mem_cons_self
    have later := ih fun q mem => ended q (List.mem_cons_of_mem r mem)
    unfold dropOldest at later ⊢
    by_cases gone : r.state = .closed ∨ r.state = .aborted
    · rw [List.map_cons, List.eraseP_cons_of_pos (by simpa using same.mpr gone),
        List.eraseP_cons_of_pos (by simpa using gone)]
    · rw [List.map_cons, List.eraseP_cons_of_neg (by simpa using fun e => gone (same.mp e)),
        List.eraseP_cons_of_neg (by simpa using gone), later, List.map_cons]

theorem keptRecords_map {c : ClipController} {f : ClipRecord → ClipRecord}
    (ended : ∀ r ∈ c.clips, ((f r).state = .closed ∨ (f r).state = .aborted) ↔ (r.state = .closed ∨ r.state = .aborted)) :
    ClipController.keptRecords { c with clips := c.clips.map f } = c.keptRecords.map f := by
  simp only [ClipController.keptRecords, List.length_map]
  split
  · exact dropOldest_map ended
  · rfl

/-- A clip's record after it ended by a split, its FILLING slot closed as FINAL (R75, R130). -/
def ClipRecord.parted (r : ClipRecord) (sync : Option Nat) : ClipRecord :=
  { r.stamped sync with state := .closing, endReason := some .split, dataDone := true }

/-- The records after a split (R123, R130, R131). -/
def ClipController.partedClips (d : ClipController) (old : Nat) (sync : Option Nat) : List ClipRecord :=
  d.keptRecords.map (fun r => if r.number = old then r.parted sync else r)

/-- The FILLING slot closes FINAL for the OPEN clip, and a new clip opens (R130, R131, steps 1 to 3). -/
theorem State.closeSlot_split (filling : s.sb.filling = some n) (mode : s.clc.mode = .recording) (low : n < 1024)
    (fill_eq : fill = (s.sb.slot n).fill) (inside : fill ≤ 65536) (order : s.clc.ordered)
    (opened : s.clc.openClip = some c) (next : s.clc.nextClip = some k)
    (stamped_eq : stamped = { s.sb.slot n with
      state := .queued, clip := some c.number, sequence := some c.slotCount, final := true }) :
    (s.closeSlot (some c.number) true).splitClip c.number = { s with
      sb := s.sb.queued n fill stamped (s.finish fill)
      clc := { s.clc with
        splitDue := false, forcedSplitDue := false, nextClip := numberAfter k
        clips := s.clc.partedClips c.number (s.sb.slot n).firstSync ++ [ClipRecord.fresh k s.smn.partTime false] } } := by
  obtain ⟨mem, state⟩ := ClipController.openClip_mem opened
  have held : s.clc.clip c.number = some c := (ClipController.clip_eq_some order).mpr ⟨mem, rfl⟩
  obtain ⟨f, f_def⟩ : ∃ f, f = fun r : ClipRecord =>
      if r.number = c.number then r.stamped (s.sb.slot n).firstSync else r := ⟨_, rfl⟩
  have held' : ClipController.clip { s.clc with clips := s.clc.clips.map f } c.number =
      some (c.stamped (s.sb.slot n).firstSync) := by
    rw [ClipController.clip, f_def, find?_map_if (f := fun r => r.stamped (s.sb.slot n).firstSync)
      fun r => r.stamped_number _, show s.clc.clips.find? (fun r => r.number == c.number) = some c from held]
    simp
  subst fill_eq
  have closes := State.closeSlot_clip (stamped := stamped) (k := c.number) (final := true) filling (by simp [mode]) low
    inside (by rw [held]; exact stamped_eq)
  rw [← f_def, State.sizeTest_eq (by exact held')] at closes
  have parts : (s.clc.clips.map f).map (fun r => if r.number = c.number then { r with
      state := .closing, endReason := some .split, dataDone := true } else r) =
        s.clc.clips.map (fun r => if r.number = c.number then r.parted (s.sb.slot n).firstSync else r) := by
    rw [List.map_map]
    refine List.map_congr_left fun r _ => ?_
    by_cases same : r.number = c.number <;> simp [f_def, same, ClipRecord.parted]
  have kept := keptRecords_map (c := s.clc)
    (f := fun r => if r.number = c.number then r.parted (s.sb.slot n).firstSync else r) (fun r mem_r => by
      by_cases same : r.number = c.number
      · rw [if_pos same, order.unique mem_r mem same, state]
        simp [ClipRecord.parted]
      · rw [if_neg same])
  rw [ClipController.partedClips, ← kept, ← parts, closes]
  simp only [State.splitClip, State.addClip, State.modifyClip, State.setRecorder, next]
  rfl

/-! ### What the records tell after a split (R121, R132) -/

/-- At most one clip is OPEN (R121). -/
theorem State.recorderOk.one_open {r q : ClipRecord} (h : s.recorderOk) (mem_r : r ∈ s.clc.clips) (mem_q : q ∈ s.clc.clips)
    (open_r : r.state = .opened) (open_q : q.state = .opened) : r = q := by
  obtain ⟨-, one, -⟩ := h
  rw [List.countP_eq_length_filter] at one
  have there : ∀ x ∈ s.clc.clips, x.state = .opened → x ∈ s.clc.clips.filter (fun r => decide (r.state = .opened)) :=
    fun x mem state => List.mem_filter.mpr ⟨mem, decide_eq_true state⟩
  have r_there := there r mem_r open_r
  have q_there := there q mem_q open_q
  rcases opened : s.clc.clips.filter (fun r => decide (r.state = .opened)) with _ | ⟨x, _ | ⟨y, rest⟩⟩
  · rw [opened] at r_there
    cases r_there
  · rw [opened, List.mem_singleton] at r_there q_there
    rw [r_there, q_there]
  · rw [opened] at one
    simp at one

/-- After a split the new clip is the only OPEN one, and its number the highest (R121, R123). -/
theorem State.parted_apart (numbers : s.numbersOk) (recorder : s.recorderOk) (opened : s.clc.openClip = some c)
    (next : s.clc.nextClip = some k) {sync : Option Nat} : ∀ r ∈ s.clc.partedClips c.number sync,
      r.state ≠ .opened ∧ r.number < k := by
  obtain ⟨order, -, below⟩ := numbers
  obtain ⟨mem, state⟩ := ClipController.openClip_mem opened
  intro r mem_r
  obtain ⟨q, mem_q, rfl⟩ := List.mem_map.mp mem_r
  have mem_q := s.clc.keptRecords_sublist.subset mem_q
  have lower := (below k next).2.2 q mem_q
  by_cases same : q.number = c.number
  · rw [if_pos same]
    exact ⟨nofun, by simpa [ClipRecord.parted] using lower⟩
  · rw [if_neg same]
    exact ⟨fun also => same (congrArg ClipRecord.number (recorder.one_open mem_q mem also state)), lower⟩

/-- A split leaves no trailer due where none was: the clip that ends has a slot more than it has written (R132). -/
theorem State.parted_calm (order : s.clc.ordered) (mem : c ∈ s.clc.clips) (calm : s.clc.trailerDue = none)
    (written : c.written ≤ c.slotCount) (room : c.slotCount < 4294967295) {sync : Option Nat} {d : ClipController}
    {r : ClipRecord} (clips : d.clips = s.clc.partedClips c.number sync ++ [r]) (fresh : r.state ≠ .closing) :
    d.trailerDue = none := by
  rw [Option.eq_none_iff_forall_ne_some]
  intro q due
  obtain ⟨found, done, all, unformed⟩ := ClipController.trailerDue_eq_some.mp due
  rw [clips, List.find?_append, List.find?_cons_of_neg (by simpa using fresh), List.find?_nil, Option.or_none,
    ClipController.partedClips, List.find?_map] at found
  obtain ⟨p, first, rfl⟩ := Option.map_eq_some_iff.mp found
  have mem_p := s.clc.keptRecords_sublist.subset (List.mem_of_find?_eq_some first)
  by_cases same : p.number = c.number
  · rw [if_pos same, order.unique mem_p mem same] at all
    simp only [ClipRecord.parted, ClipRecord.stamped_slotCount, (c.stamped_fields sync).2.2.2.2.1] at all
    omega
  · rw [if_neg same] at unformed all done
    have lowest : s.clc.clips.find? (fun r => decide (r.state = .closing)) = some p := by
      rw [← s.clc.keptRecords_closing]
      obtain ⟨closing, as, bs, parts, before⟩ := List.find?_eq_some_iff_append.mp first
      refine List.find?_eq_some_iff_append.mpr ⟨by simpa [same] using closing, as, bs, parts, fun x x_mem => ?_⟩
      have := before x x_mem
      by_cases x_same : x.number = c.number
      · simp [x_same, ClipRecord.parted] at this
      · simpa [x_same] using this
    rw [ClipController.trailerDue_eq_some.mpr ⟨lowest, done, all, unformed⟩] at calm
    cases calm

theorem ClipController.openClip_last {d : ClipController} {others : List ClipRecord} {r : ClipRecord}
    (clips : d.clips = others ++ [r]) (apart : ∀ q ∈ others, q.state ≠ .opened) (opened : r.state = .opened) :
    d.openClip = some r := by
  have none_before : others.find? (fun q => decide (q.state = .opened)) = none := by simpa using apart
  simp [ClipController.openClip, clips, none_before, opened]

/-! ### A split for the CLIP SIZE LIMIT (R130) -/

/-- The recorder after a split (R123, R130, R131). -/
def State.splitClc (s : State) (n k old : Nat) (opened : ClipRecord) : ClipController := { s.clc with
  splitDue := false, forcedSplitDue := false, nextClip := numberAfter k
  clips := s.clc.partedClips old (s.sb.slot n).firstSync ++ [opened] }

theorem State.splitClc_open {old : Nat} {r : ClipRecord}
    (apart : ∀ q ∈ s.clc.partedClips old (s.sb.slot n).firstSync, q.state ≠ .opened) (opened : r.state = .opened) :
    (s.splitClc n k old r).openClip = some r :=
  ClipController.openClip_last rfl apart opened

theorem State.splitClc_receiving {old : Nat} {r : ClipRecord} (mode : s.clc.mode = .recording)
    (apart : ∀ q ∈ s.clc.partedClips old (s.sb.slot n).firstSync, q.state ≠ .opened) (opened : r.state = .opened) :
    (s.splitClc n k old r).receiving = some r.number := by
  have recording : (s.splitClc n k old r).mode = .recording := mode
  rw [ClipController.receiving, recording, State.splitClc_open apart opened]
  rfl

/-- A change to the new clip's record alone. -/
theorem State.splitClc_map {old : Nat} {r : ClipRecord} {f : ClipRecord → ClipRecord}
    (below : ∀ q ∈ s.clc.partedClips old (s.sb.slot n).firstSync, q.number < k) (number : r.number = k) :
    { s.splitClc n k old r with
      clips := (s.splitClc n k old r).clips.map (fun q => if q.number = k then f q else q) } =
      s.splitClc n k old (f r) := by
  have last := map_last (others := s.clc.partedClips old (s.sb.slot n).firstSync) (r := r)
    (fun q mem => by have := below q mem; omega) f
  rw [number] at last
  exact congrArg (fun l : List ClipRecord => { s.splitClc n k old r with clips := l }) last

/-- The split at a cell with SYNC: the old clip's FILLING slot closes FINAL, and the cell's record is the first of the new
clip, which counts the gap (R130). -/
theorem State.splitAtCell_rolls (filling : s.sb.filling = some n) (mode : s.clc.mode = .recording) (low : n < 1024)
    (listed : (s.sb.slots.lookup n).isSome = true) (fill_eq : fill = (s.sb.slot n).fill) (start : 64 ≤ fill)
    (inside : fill ≤ 65536) (short : payload.length ≤ 4096) (free : s.lowestFreeIs m) (numbers : s.numbersOk)
    (recorder : s.recorderOk) (opened : s.clc.openClip = some c) (next : s.clc.nextClip = some k)
    (calm : s.clc.trailerDue = none) (written : c.written ≤ c.slotCount) (room : c.slotCount < 4294967295)
    (few : gap ≤ 4294967295)
    (stamped_eq : stamped = { s.sb.slot n with
      state := .queued, clip := some c.number, sequence := some c.slotCount, final := true }) : ∃ u,
      s.splitAtCell c.number gap frameEnd last payload = u ∧
      s.rolls u n m fill stamped (s.videoBytes true frameEnd last (decide (0 < gap)) payload) true ∧
      u.sb.overrun = false ∧ u.lp = s.lp ∧ s.sameOutside u ∧ u.clc = s.splitClc n k c.number
        { ClipRecord.fresh k s.smn.partTime false with gapCount := gap, startOffset := some 64 } := by
  have order := numbers.1
  have closes := State.closeSlot_split filling mode low fill_eq inside order opened next stamped_eq
  have apart := State.parted_apart numbers recorder opened next (sync := (s.sb.slot n).firstSync)
  obtain ⟨z, z_def⟩ : ∃ z, z = (s.closeSlot (some c.number) true).splitClip c.number := ⟨_, rfl⟩
  rw [← z_def] at closes
  have z_clc : z.clc = s.splitClc n k c.number (ClipRecord.fresh k s.smn.partTime false) := by rw [closes]; rfl
  have z_sb : z.sb = s.sb.queued n fill stamped (s.finish fill) := by rw [closes]
  -- the new clip receives the gap
  have receiving : z.clc.receiving = some k := by
    rw [z_clc]
    exact State.splitClc_receiving mode (fun q mem => (apart q mem).1) rfl
  have gapped : z.gapped gap = s.splitClc n k c.number
      { ClipRecord.fresh k s.smn.partTime false with gapCount := gap } := by
    have count : min 4294967295 (0 + gap) = gap := by omega
    simp only [State.gapped, receiving, Option.some.injEq]
    rw [z_clc, State.splitClc_map (fun q mem => (apart q mem).2) rfl]
    simp only [ClipRecord.fresh, count]
  obtain ⟨y, y_def⟩ : ∃ y : State, y = { z with clc := (s.splitClc n k c.number
      { ClipRecord.fresh k s.smn.partTime false with gapCount := gap }) } := ⟨_, rfl⟩
  have y_sb : y.sb = s.sb.queued n fill stamped (s.finish fill) := by rw [y_def]; exact z_sb
  have out : s.sameOutside y := by rw [y_def, closes]; exact ⟨rfl, rfl, rfl, rfl, rfl, rfl, rfl, rfl, rfl⟩
  have time : y.smn.partTime = s.smn.partTime := by rw [y_def, closes]
  have lp : y.lp = s.lp := by rw [y_def, closes]
  obtain ⟨free_after, other⟩ := free.queued listed y_sb
  have place : y.receives (payload.length + 8) m { SlotRecord.free with state := .filling } s.sb.ring := by
    obtain ⟨low, none, below⟩ := free_after
    refine ⟨low, ?_, .inr ⟨by rw [y_sb]; rfl, rfl, .inl ⟨none, below, by rw [y_sb]; rfl⟩⟩⟩
    show 64 + (payload.length + 8) + 9 ≤ 65536
    omega
  obtain ⟨u, hands, appends, overrun, u_clc, u_lp, u_out⟩ := State.handVideo_receives (sync := true)
    (frameEnd := frameEnd) (last := last) (gap := decide (0 < gap)) (.inr rfl) place
  have bytes : y.videoBytes true frameEnd last (decide (0 < gap)) payload =
      s.videoBytes true frameEnd last (decide (0 < gap)) payload := by
    rw [State.videoBytes, time, y_sb]
    rfl
  have length : (s.videoBytes true frameEnd last (decide (0 < gap)) payload).length = payload.length + 8 :=
    length_recordBytes ..
  rw [bytes] at appends
  have rolls := State.rolls_of_appends other start inside (by omega) y_sb time
    (by rw [y_def]; exact fun armed => by rw [show (s.splitClc n k c.number _).mode = .recording from mode] at armed; cases armed)
    appends
  have settled : (u.settleSplit true).trailerTest = { u with clc := (s.splitClc n k c.number
      { ClipRecord.fresh k s.smn.partTime false with gapCount := gap, startOffset := some 64 }) } := by
    have u_clc : u.clc = s.splitClc n k c.number
        { ClipRecord.fresh k s.smn.partTime false with gapCount := gap } := by rw [u_clc, y_def]
    have settles : u.settleSplit true = { u with clc := (s.splitClc n k c.number
        { ClipRecord.fresh k s.smn.partTime false with gapCount := gap, startOffset := some 64 }) } := by
      have last_open := State.splitClc_open (s := s) (n := n) (k := k) (old := c.number)
        (r := { ClipRecord.fresh k s.smn.partTime false with gapCount := gap }) (fun q mem => (apart q mem).1) rfl
      rw [← u_clc] at last_open
      simp only [State.settleSplit, last_open, State.modifyClip, State.setRecorder]
      have moved := State.splitClc_map (s := s) (n := n) (k := k) (old := c.number)
        (r := { ClipRecord.fresh k s.smn.partTime false with gapCount := gap })
        (f := fun r => { r with startOffset := some 64 }) (fun q mem => (apart q mem).2) rfl
      rw [← u_clc] at moved
      exact congrArg (fun d => { u with clc := d }) moved
    rw [settles]
    exact State.trailerTest_calm (State.parted_calm order (ClipController.openClip_mem opened).1 calm written room rfl nofun)
  refine ⟨{ u with clc := (s.splitClc n k c.number
    { ClipRecord.fresh k s.smn.partTime false with gapCount := gap, startOffset := some 64 }) }, ?_, rolls, overrun,
    u_lp.trans lp, ?_, rfl⟩
  · rw [State.splitAtCell, ← z_def, State.addGap_eq, gapped, ← y_def]
    simp only [hands]
    exact settled
  · obtain ⟨me, wu, sp, xm, cp, chg, smn, powered, pending⟩ := out
    simpa only [State.sameOutside, me, wu, sp, xm, cp, chg, smn, powered, pending] using u_out

end

end Sys2Proof.Machine
end

section
/-!
A forced split at a full slot (R131), and the ends of a clip put together.
-/
set_option Elab.async false

namespace Sys2Proof.Machine

section
variable {s t u : State} {n m k fill gap : Nat} {c : ClipRecord} {stamped : SlotRecord} {payload : List Byte}
  {sync frameEnd last : Bool} {flags : Byte} {sequence : BitVec 16}

/-! ### A gap counted changes neither the clips' numbers nor their states (R121, R169) -/

theorem State.gapped_numbers (numbers : s.numbersOk) (n : Nat) : State.numbersOk { s with clc := s.gapped n } := by
  obtain ⟨order, each, below⟩ := numbers
  refine ⟨List.pairwise_map.mpr (order.imp fun {r q} less => ?_), fun r mem => ?_, fun k next => ?_⟩
  · have number : ∀ x : ClipRecord, (if some x.number = s.clc.receiving then
        { x with gapCount := min 4294967295 (x.gapCount + n) } else x).number = x.number := fun x => by split <;> rfl
    rw [number, number]
    exact less
  · obtain ⟨q, mem_q, rfl⟩ := List.mem_map.mp mem
    have := each q mem_q
    split <;> exact this
  · obtain ⟨low, high, less⟩ := below k next
    refine ⟨low, high, fun r mem => ?_⟩
    obtain ⟨q, mem_q, rfl⟩ := List.mem_map.mp mem
    have := less q mem_q
    split <;> exact this

theorem State.gapped_openClip (mode : s.clc.mode = .recording) (opened : s.clc.openClip = some c) (n : Nat) :
    (s.gapped n).openClip = some { c with gapCount := min 4294967295 (c.gapCount + n) } := by
  have receiving : s.clc.receiving = some c.number := by rw [ClipController.receiving, mode, opened]; rfl
  rw [ClipController.openClip, State.gapped, find?_opened_map fun r => by split <;> rfl]
  rw [ClipController.openClip] at opened
  simp [opened, receiving]

/-- The records after a split at a cell that was counted with a gap (R130, R131, R169). -/
theorem State.gapped_parted (receiving : s.clc.receiving = some c.number) (n : Nat) (sync : Option Nat) :
    (s.gapped n).partedClips c.number sync = s.clc.keptRecords.map (fun r => if r.number = c.number then
      ClipRecord.parted { r with gapCount := min 4294967295 (r.gapCount + n) } sync else r) := by
  rw [ClipController.partedClips, State.gapped, keptRecords_map fun r _ => by split <;> rfl, List.map_map]
  refine List.map_congr_left fun r _ => ?_
  by_cases same : r.number = c.number <;> simp [receiving, same]

/-! ### A forced split (R131) -/

/-- A record that does not fit, where a forced split is due: the FILLING slot closes FINAL for the old clip, and the record
is the first of the new one (R131). -/
theorem State.handVideo_parts (taken : s.sb.overrun = false ∨ sync = true) (filling : s.sb.filling = some n)
    (mode : s.clc.mode = .recording) (low : n < 1024)
    (listed : (s.sb.slots.lookup n).isSome = true) (fill_eq : fill = (s.sb.slot n).fill) (start : 64 ≤ fill)
    (inside : fill ≤ 65536) (short : payload.length ≤ 4096) (beyond : 65536 < fill + (payload.length + 8))
    (free : s.lowestFreeIs m) (numbers : s.numbersOk)
    (opened : s.clc.openClip = some c) (next : s.clc.nextClip = some k)
    (calm : s.clc.trailerDue = none) (written : c.written ≤ c.slotCount) (room : c.slotCount < 4294967295)
    (due : s.clc.forcedSplitDue = true) (record : s.clc.recordFree = true) {gap : Bool}
    (stamped_eq : stamped = { s.sb.slot n with
      state := .queued, clip := some c.number, sequence := some c.slotCount, final := true }) : ∃ u,
      s.handVideo sync frameEnd last gap payload = (u, true) ∧
      s.rolls u n m fill stamped (s.videoBytes sync frameEnd last gap payload) sync ∧
      u.sb.overrun = false ∧ u.lp = s.lp ∧ s.sameOutside u ∧
      u.clc = s.splitClc n k c.number (ClipRecord.fresh k s.smn.partTime false) := by
  have forces : s.forcesSplit = true := by simp [State.forcesSplit, mode, due, record, next]
  have closes := State.closeSlot_split filling mode low fill_eq inside numbers.1 opened next stamped_eq
  have full : s.closeFull = (s.closeSlot (some c.number) true).splitClip c.number := by
    simp only [State.closeFull, forces, opened]
  rw [← full] at closes
  have clc : s.closeFull.clc = s.splitClc n k c.number (ClipRecord.fresh k s.smn.partTime false) := by rw [closes]; rfl
  obtain ⟨u, hands, rolls, u_clc, lp, out⟩ := State.handVideo_rolls (stamped := stamped) (frameEnd := frameEnd)
    (last := last) (gap := gap) taken filling listed fill_eq start inside short beyond free (by rw [closes])
    (by rw [clc]; exact fun armed => by rw [State.splitClc, mode] at armed; cases armed)
  have tested : u.splitTest true = u := State.trailerTest_calm (State.parted_calm numbers.1
    (ClipController.openClip_mem opened).1 calm written room (r := ClipRecord.fresh k s.smn.partTime false)
    (by rw [u_clc, clc]; rfl) nofun)
  rw [forces, tested] at hands
  exact ⟨_, hands, rolls, rfl, lp, out, u_clc.trans clc⟩

end

end Sys2Proof.Machine
end

section
/-!
The ends of a clip: STOP RECORD, the drain deadline, ABORT CLIP and a split (R128 to R131, R135, R137).
-/
set_option Elab.async false

namespace Sys2Proof.Machine

section
variable {s t u : State} {n m k fill gap : Nat} {c : ClipRecord} {stamped : SlotRecord} {payload : List Byte}
  {flags : Byte} {sequence : BitVec 16}

/-! ### STOP RECORD (R128, R129) -/

/-- A DRAIN TIME of 0 ends the drain at once: the FILLING slot is QUEUED FINAL and the data is done (R128, R129). -/
theorem State.stopRecord_drained (on : s.powered = true) (held : s.clc.clip k = some c) :
    (∃ q, ((s.draining k).finishClip k).clc.clip k = some q ∧ q.endReason = some .stop ∧
      s.drained ((s.draining k).finishClip k) k c.slotCount q) ∧
    ((s.draining k).finishClip k).clc.splitDue = false ∧ ((s.draining k).finishClip k).clc.forcedSplitDue = false ∧
    ((s.draining k).finishClip k).clc.nextClip = s.clc.nextClip ∧
    ((s.draining k).finishClip k).me = { s.me with queue := [] } ∧ ((s.draining k).finishClip k).smn = s.smn := by
  obtain ⟨q, found, reason, -, drained, clips, clc⟩ :=
    State.finishClip_ends (s := s.draining k) on rfl (State.draining_held held) rfl
  obtain ⟨-, me, -, -, -, -, -, -, smn, -⟩ := (s.draining k).finishClip_frame k
  refine ⟨⟨q, found, reason, drained.of_same⟩, ?_, ?_, ?_, me, smn⟩
  all_goals rw [clc]; rfl

/-! ### ABORT CLIP (R135, R137) -/

/-- What an accepted abort leaves where it makes no MOTION record. -/
theorem State.abortNow_ends {more : Prop} (on : s.powered = true) (held : s.clc.clip k = some c)
    (quiet : s.clc.mode = .idle ∨ s.me.queue.length < 32)
    (left : more ↔ (∃ q ∈ s.clc.clips, q.number ≠ k ∧ (q.state = .opened ∨ q.state = .closing)) ∨
      ∃ d, s.clc.drain = some d ∧ d.clip ≠ k) : ∃ u, (s.abortNow k).endPowerClose = u ∧
    (∃ q, u.clc.clip k = some q ∧ q.state = .aborted ∧ q.endReason = some .abort) ∧
    u.clc.mode = s.clc.mode ∧ u.clc.nextClip = s.clc.nextClip ∧
    (∀ d, s.clc.drain = some d → d.clip = k → u.clc.drain = none ∧ u.sb.filling = none ∧ u.sb.overrun = false) ∧
    ((∀ d, s.clc.drain = some d → d.clip ≠ k) → u.clc.drain = s.clc.drain ∧ u.sb.filling = s.sb.filling) ∧
    (∀ n ∈ s.sb.queue, (s.sb.slot n).clip ≠ some k → s.sb.filling ≠ some n → n ∈ u.sb.queue) ∧
    (∀ n ∈ u.sb.queue, (u.sb.slot n).clip ≠ some k) ∧
    (∀ n ∈ s.sb.queue, (s.sb.slot n).clip = some k → u.sb.slots.lookup n = none ∨ (u.sb.slot n).trailer = true) ∧
    u.sb.ring = s.sb.ring ∧ u.xm = s.xm ∧ u.chg = s.chg ∧ u.powered = true ∧ u.pending = s.pending ∧
    (s.clc.powerClose = none ∨ more →
      u.lp = { s.lp with notices := postNotice .clipAborted (.number k) s.smn.partTime s.lp.notices } ∧
      ((∀ d, s.clc.drain = some d → d.clip ≠ k) → u.sb.overrun = s.sb.overrun) ∧
      u.clc.powerClose = s.clc.powerClose ∧ u.me = s.me ∧ u.wu = s.wu ∧ u.sp = s.sp ∧ u.cp = s.cp ∧ u.smn = s.smn) ∧
    (∀ why, s.clc.powerClose = some why → ¬more → u.clc.powerClose = none ∧
      (s.smn.standby = .standby → u.smn = s.smn ∧ u.cp = s.cp) ∧
      (s.smn.standby = .active →
        u.smn = { s.smn with standby := .standby, reason := some why.standbyReason } ∧ u.sp.running = false ∧
        u.me.reading = false ∧ u.wu.frame = none ∧
        u.lp = { s.lp with
          lines := [], notices := postNotice .clipAborted (.number k) s.smn.partTime s.lp.notices } ∧
        u.cp.write = none ∧ u.cp.wait = none ∧ u.cp.supplyOn = false ∧
        u.cp.card = (if s.cp.card = .absent then .absent else .off))) := by
  rw [State.abortNow_quiet quiet]
  obtain ⟨drain_other, drain_same, ring, queue, lookup, mode, next, close, clips⟩ := s.clipAborted_parts k
  obtain ⟨f, marks, clc, -⟩ := (s.clipAborted k).trailerTest_keeps
  obtain ⟨filling, t_ring, overrun⟩ := (s.clipAborted k).trailerTest_places
  obtain ⟨stays, waits, freed⟩ := s.clipAborted_slots k
  obtain ⟨aborted, ended⟩ := State.clipAborted_clips held left
  obtain ⟨lp, powered, me, wu, sp, xm, cp, chg, smn, pending⟩ := s.clipAborted_frame k
  obtain ⟨t, t_def⟩ : ∃ t, t = (s.clipAborted k).trailerTest := ⟨_, rfl⟩
  rw [← t_def] at clc filling t_ring overrun stays waits freed aborted ended lp powered me wu sp xm cp chg smn pending ⊢
  have t_close : t.clc.powerClose = s.clc.powerClose := by rw [clc]; exact close
  obtain ⟨u_clc, slots, u_queue, u_ring, u_filling, u_overrun⟩ := t.endPowerClose_keeps
  have slot : ∀ n, t.endPowerClose.sb.slot n = t.sb.slot n := fun n => by rw [SlotBuffer.slot, slots, SlotBuffer.slot]
  have all_ended : ¬more → t.clc.allEnded = true := fun done => Bool.eq_true_of_not_eq_false (mt ended.mp done)
  refine ⟨t.endPowerClose, rfl, ?_, ?_, ?_, fun d drain same => ?_, fun other => ?_, ?_, ?_, ?_, ?_, ?_, ?_, ?_, ?_,
    fun still => ?_, fun why present done => ⟨?_, fun asleep => ?_, fun active => ?_⟩⟩
  · rw [u_clc]; exact aborted
  · rw [u_clc, ← mode, clc]
  · rw [u_clc, ← next, clc]
  · obtain ⟨gone, unfilled, calm⟩ := drain_same d drain same
    exact ⟨by rw [u_clc, ← gone, clc], by rw [u_filling, filling, unfilled], u_overrun (overrun.trans calm)⟩
  · obtain ⟨runs, fills, -⟩ := drain_other other
    exact ⟨by rw [u_clc, ← runs, clc], by rw [u_filling, filling, fills]⟩
  · rw [u_queue]; exact stays
  · simp only [u_queue, slot]; exact waits
  · simp only [slots, slot]; exact freed
  · rw [u_ring, t_ring, ring]
  · simp [xm]
  · simp [chg]
  · simp [powered, on]
  · simp [pending]
  · rw [State.endPowerClose_stays ended (t_close ▸ still)]
    exact ⟨lp, fun other => overrun.trans (drain_other other).2.2, t_close, me, wu, sp, cp, smn⟩
  · by_cases active : t.smn.standby = .active
    · rw [State.endPowerClose_parks (t_close.trans present) (all_ended done) active]; rfl
    · rw [State.endPowerClose_asleep (t_close.trans present) (all_ended done) active]
  · rw [State.endPowerClose_asleep (t_close.trans present) (all_ended done) (by simp [smn, asleep])]
    exact ⟨smn, cp⟩
  · obtain ⟨⟨-, -, running, reading, frame, -, write, wait, supply, card⟩, -⟩ :=
      State.endPowerClose_parked (t_close.trans present) (all_ended done) (by rw [smn, active])
    refine ⟨?_, running, reading, frame, ?_, write, wait, supply, by rw [card, cp]⟩ <;>
      rw [State.endPowerClose_parks (t_close.trans present) (all_ended done) (by rw [smn, active])]
    · rw [← smn]; rfl
    · show { t.lp with lines := [] } = _
      rw [lp]

/-! ### A CLIP cell that makes a split (R130, R131) -/

/-- A CLIP cell while RECORDING, once it is known what its record meets. -/
theorem State.exec_recordCell (on : s.powered = true) (mode : s.clc.mode = .recording) (some : 1 ≤ payload.length)
    (short : payload.length ≤ 4096) (gap_eq : gap = s.lp.expectedSequence.elim 0 (fun e => (sequence - e).toNat))
    (records : (s.counted sequence gap).recordCell gap (flags.getLsbD 0) (flags.getLsbD 1) (flags.getLsbD 2) payload = u)
    (drain : u.clc.drain = s.clc.drain) (close : u.clc.powerClose = s.clc.powerClose) :
    exec (.clipCell flags sequence payload) s = u.settled := by
  have effect : exec (.clipCell flags sequence payload) s =
      ((s.takeClipCell flags sequence payload).checkPowerClose s).settled :=
    State.take_powered on fun t => (t.takeClipCell flags sequence payload).checkPowerClose t
  have placed : s.takeClipCell flags sequence payload = u := by
    rw [State.takeClipCell_eq some short gap_eq, State.placeCell, show (s.counted sequence gap).clc.mode = .recording from mode]
    exact records
  rw [effect, placed, State.checkPowerClose_same drain close]

/-- A cell with SYNC where split due is set and no clip is CLOSING splits (R130). -/
theorem State.recordCell_splits (mode : s.clc.mode = .recording) (opened : s.clc.openClip = some c)
    (next : s.clc.nextClip = some k) (due : s.clc.splitDue = true) (unended : ∀ r ∈ s.clc.clips, r.state ≠ .closing)
    {frameEnd last : Bool} :
    s.recordCell gap true frameEnd last payload = s.splitAtCell c.number gap frameEnd last payload := by
  have splits : s.splitsAt true = true := by
    have all : s.clc.clips.all (fun r => decide (r.state ≠ .closing)) = true :=
      List.all_eq_true.mpr fun r mem => decide_eq_true (unended r mem)
    rw [State.splitsAt, due, mode, next, all]
    rfl
  simp only [State.recordCell, splits, opened]

/-- Where no split is due at the cell its record is handed in (R130). -/
theorem State.recordCell_whole {sync frameEnd last : Bool} (whole : sync = false ∨ s.clc.splitDue = false) :
    s.recordCell gap sync frameEnd last payload =
      (State.handVideo { s with clc := s.gapped gap } sync frameEnd last (decide (0 < gap)) payload).1 := by
  have unsplit : s.splitsAt sync = false := by rcases whole with e | e <;> simp [State.splitsAt, e]
  simp only [State.recordCell, unsplit, State.addGap_eq]

/-- A clip's record after a split in the words of the statements (R75, R130, R131). -/
theorem ClipRecord.parted_eq {r : ClipRecord} (room : r.slotCount < 4294967295) (sync : Option Nat) :
    r.parted sync = { r with
      state := .closing, endReason := some .split, dataDone := true, slotCount := r.slotCount + 1
      startOffset := if r.slotCount = 0 ∧ r.startOffset = none then some (sync.getD 64) else r.startOffset
      noSyncStart := r.noSyncStart || decide (r.slotCount = 0 ∧ r.startOffset = none ∧ sync = none) } := by
  rw [ClipRecord.parted, ClipRecord.stamped_eq, Nat.min_eq_right room]

/-- The record of the clip that ends by a split in the words of the statements (R75, R130, R131, R169). -/
def ClipRecord.splitWords (r : ClipRecord) (bySize : Bool) (gap : Nat) (sync : Option Nat) : ClipRecord := { r with
  state := .closing, endReason := some .split, dataDone := true, slotCount := r.slotCount + 1
  gapCount := if bySize then r.gapCount else min 4294967295 (r.gapCount + gap)
  startOffset := if r.slotCount = 0 ∧ r.startOffset = none then some (sync.getD 64) else r.startOffset
  noSyncStart := r.noSyncStart || decide (r.slotCount = 0 ∧ r.startOffset = none ∧ sync = none) }

theorem ClipRecord.splitWords_parted {r : ClipRecord} (room : r.slotCount < 4294967295) (gap : Nat) (sync : Option Nat) :
    r.splitWords true gap sync = r.parted sync ∧
      r.splitWords false gap sync = ClipRecord.parted { r with gapCount := min 4294967295 (r.gapCount + gap) } sync := by
  rw [ClipRecord.parted_eq room, ClipRecord.parted_eq (by exact room)]
  exact ⟨rfl, rfl⟩

/-- The records after a split in the words of the statements; a gap counts for the old clip where the split is forced. -/
theorem State.splitRecords_eq (order : s.clc.ordered) (mode : s.clc.mode = .recording) (opened : s.clc.openClip = some c)
    (room : c.slotCount < 4294967295) (gap : Nat) (sync : Option Nat) :
    s.clc.partedClips c.number sync = s.clc.keptRecords.map (fun r =>
      if r.number = c.number then r.splitWords true gap sync else r) ∧
    (s.gapped gap).partedClips c.number sync = s.clc.keptRecords.map (fun r =>
      if r.number = c.number then r.splitWords false gap sync else r) := by
  have receiving : s.clc.receiving = some c.number := by rw [ClipController.receiving, mode, opened]; rfl
  have old : ∀ r ∈ s.clc.keptRecords, r.number = c.number → r.slotCount < 4294967295 := fun r mem same => by
    rwa [order.unique (s.clc.keptRecords_sublist.subset mem) (ClipController.openClip_mem opened).1 same]
  rw [State.gapped_parted receiving, ClipController.partedClips]
  constructor <;> refine List.map_congr_left fun r mem => ?_ <;> by_cases same : r.number = c.number
  · rw [if_pos same, if_pos same, (ClipRecord.splitWords_parted (old r mem same) gap sync).1]
  · rw [if_neg same, if_neg same]
  · rw [if_pos same, if_pos same, (ClipRecord.splitWords_parted (old r mem same) gap sync).2]
  · rw [if_neg same, if_neg same]

/-- The recorder after a split in the words of the statements (R123, R130, R131). -/
def State.splitWords (s : State) (n k old gap : Nat) (bySize : Bool) : ClipController := { s.clc with
  splitDue := false, forcedSplitDue := false, nextClip := numberAfter k
  clips := s.clc.keptRecords.map (fun r =>
      if r.number = old then r.splitWords bySize gap (s.sb.slot n).firstSync else r) ++
    [{ ClipRecord.fresh k s.smn.partTime false with
      gapCount := if bySize then gap else 0, startOffset := if bySize then some 64 else none }] }

/-- What a split at a CLIP cell leaves. -/
def State.splitsTo (s u : State) (flags : Byte) (sequence : BitVec 16) (payload : List Byte) (n m k fill old gap : Nat)
    (bySize : Bool) (stamped : SlotRecord) : Prop :=
  exec (.clipCell flags sequence payload) s = u.settled ∧ s.sameOutside u ∧ u.lp = (s.counted sequence gap).lp ∧
    u.clc = s.splitWords n k old gap bySize ∧ u.sb.overrun = false ∧
    s.rolls u n m fill stamped (s.cellRecord flags gap payload) (flags.getLsbD 0)

section
variable (on : s.powered = true) (mode : s.clc.mode = .recording) (filled : 1 ≤ payload.length)
  (short : payload.length ≤ 4096) (gap_eq : gap = s.lp.expectedSequence.elim 0 (fun e => (sequence - e).toNat))
  (numbers : s.numbersOk) (opened : s.clc.openClip = some c)
  (next : s.clc.nextClip = some k) (calm : s.clc.trailerDue = none) (written : c.written ≤ c.slotCount)
  (room : c.slotCount < 4294967295) (filling : s.sb.filling = some n) (low : n < 1024)
  (listed : (s.sb.slots.lookup n).isSome = true) (fill_eq : fill = (s.sb.slot n).fill) (start : 64 ≤ fill)
  (inside : fill ≤ 65536) (free : s.lowestFreeIs m)
  (stamped_eq : stamped = { s.sb.slot n with
    state := .queued, clip := some c.number, sequence := some c.slotCount, final := true })
include on mode filled short gap_eq numbers opened next calm written room filling low listed fill_eq start inside free
  stamped_eq

/-- A split for the CLIP SIZE LIMIT (R130). -/
theorem State.cell_splits (recorder : s.recorderOk) (sync : flags.getLsbD 0 = true) (due : s.clc.splitDue = true)
    (unended : ∀ r ∈ s.clc.clips, r.state ≠ .closing) :
    ∃ u, s.splitsTo u flags sequence payload n m k fill c.number gap true stamped := by
  have few : gap ≤ 4294967295 := by
    rw [gap_eq]
    cases s.lp.expectedSequence with
    | none => simp
    | some e => have := (sequence - e).isLt; simp only [Option.elim]; omega
  obtain ⟨u, splits, rolls, overrun, lp, out, clc⟩ := State.splitAtCell_rolls (s := s.counted sequence gap)
    (frameEnd := flags.getLsbD 1) (last := flags.getLsbD 2) filling mode low listed fill_eq start inside short free
    numbers recorder opened next calm written room few stamped_eq
  have records : (s.counted sequence gap).recordCell gap (flags.getLsbD 0) (flags.getLsbD 1) (flags.getLsbD 2) payload = u := by
    rw [sync]
    exact (State.recordCell_splits (s := s.counted sequence gap) mode opened next due unended).trans splits
  refine ⟨u, State.exec_recordCell on mode filled short gap_eq records (by rw [clc]; rfl) (by rw [clc]; rfl), out, lp, ?_,
    overrun, ?_⟩
  · rw [clc, State.splitWords, ← (State.splitRecords_eq numbers.1 mode opened room gap (s.sb.slot n).firstSync).1]
    rfl
  · rw [State.cellRecord, sync]
    exact rolls

/-- A forced split (R131). -/
theorem State.cell_parts (taken : s.sb.overrun = false ∨ flags.getLsbD 0 = true)
    (whole : flags.getLsbD 0 = false ∨ s.clc.splitDue = false) (due : s.clc.forcedSplitDue = true)
    (beyond : 65536 < fill + (payload.length + 8))
    (record : s.clc.clips.length < 4 ∨ ∃ r ∈ s.clc.clips, r.state = .closed ∨ r.state = .aborted) :
    ∃ u, s.splitsTo u flags sequence payload n m k fill c.number gap false stamped := by
  have receiving : s.clc.receiving = some c.number := by rw [ClipController.receiving, mode, opened]; rfl
  have kept : (s.gapped gap).recordFree = true := by
    rw [ClipController.recordFree, State.gapped, List.length_map, List.any_map, Bool.or_eq_true, decide_eq_true_eq,
      List.any_eq_true]
    refine record.imp_right fun ⟨r, mem, ended⟩ => ⟨r, mem, ?_⟩
    simp only [Function.comp]
    split <;> exact decide_eq_true ended
  obtain ⟨u, hands, rolls, overrun, lp, out, clc⟩ := State.handVideo_parts (s := s.missed sequence gap)
    (frameEnd := flags.getLsbD 1) (last := flags.getLsbD 2) (gap := decide (0 < gap)) taken filling mode low listed
    fill_eq start inside short beyond free (State.gapped_numbers numbers gap) (State.gapped_openClip mode opened gap)
    next (State.gapped_trailerDue calm gap) written room due kept stamped_eq
  have records : (s.counted sequence gap).recordCell gap (flags.getLsbD 0) (flags.getLsbD 1) (flags.getLsbD 2) payload = u := by
    rw [State.recordCell_whole (by exact whole)]
    exact congrArg Prod.fst hands
  refine ⟨u, State.exec_recordCell on mode filled short gap_eq records (by rw [clc]; rfl) (by rw [clc]; rfl), out, lp, ?_,
    overrun, rolls⟩
  rw [clc, State.splitWords, ← (State.splitRecords_eq numbers.1 mode opened room gap (s.sb.slot n).firstSync).2]
  rfl

end

end

end Sys2Proof.Machine

open Sys2Proof.Machine

/-- Settles O48: the drain (`State.finishClip_ends`), an abort (`State.abortNow_ends`) and the two splits
(`State.splitAtCell_rolls`, `State.handVideo_parts`). -/
theorem stopDrainAndAbortEndAClip : Obligations.StopDrainAndAbortEndAClip := by
  intro s tag
  have stop : s.obeys → exec (.stopRecord tag []) s = s.stopRecord.1.replied tag 0x09 s.stopRecord.2 :=
    fun obeys => State.take_control obeys rfl _
  have abort : s.obeys → ∀ {k : Nat} {p : List (BitVec 8)}, k < 4294967296 → p = beBytes 4 k →
      exec (.abortClip tag p) s = (s.abortClip k).1.replied tag 0x0A (s.abortClip k).2 := by
    rintro obeys k p small rfl
    have value : beNat (beBytes 4 k) = k := beNat_beBytes small
    have control := State.take_control (tag := tag) (code := 0x0A) (query := false) obeys
      (decide_eq_true (length_beBytes 4 k)) (fun u => u.abortClip (beNat (beBytes 4 k)))
    exact control.trans (by rw [value])
  refine ⟨fun obeys present => ?_, fun obeys absent mode => ?_, fun c obeys absent mode opened time => ?_,
    fun c obeys absent mode opened time numbers => ?_, fun d r on mode drain held closing => ?_,
    fun k p obeys small param => ⟨fun unknown => ?_, fun c held => ⟨fun ended => ?_, fun opened => ?_,
      fun closing writing => ?_, fun more closing unwritten quiet left => ?_⟩⟩, ?_⟩
  · rw [stop obeys, State.stopRecord, if_pos (Option.isSome_iff_ne_none.mpr present)]
    rfl
  · rw [stop obeys, State.stopRecord, if_neg (by simp [absent]), if_neg mode]
  · rw [stop obeys, State.stopRecord_recording absent mode opened, if_neg (by omega)]
    rfl
  · have held : s.clc.clip c.number = some c :=
      (ClipController.clip_eq_some numbers.1).mpr ⟨(ClipController.openClip_mem opened).1, rfl⟩
    refine ⟨(s.draining c.number).finishClip c.number, ?_, State.stopRecord_drained obeys.1.1 held⟩
    rw [stop obeys, State.stopRecord_recording absent mode opened, if_pos time]
  · obtain ⟨u, q, ends, found, reason, drained, me, smn⟩ :=
      State.endDrain_ends (s := s.reach d.deadline) on mode drain held closing
    refine ⟨u, ?_, smn, ⟨q, found, reason, drained.of_same⟩, me⟩
    rw [show exec .drainTimeout s = s.drainExpires.settled from State.take_powered on State.drainExpires,
      State.drainExpires, drain, ← ends]
  · rw [abort obeys small param, State.abortClip, unknown]
    rfl
  · rw [abort obeys small param, State.abortClip_held held, if_pos ended]
  · rw [abort obeys small param, State.abortClip_held held, if_neg (by simp [opened]), if_pos opened]
  · obtain ⟨q, mem, state, clip⟩ := writing
    have busy : s.clipWriting k = true := List.any_eq_true.mpr ⟨q, mem, decide_eq_true ⟨state, clip⟩⟩
    rw [abort obeys small param, State.abortClip_held held, if_neg (by simp [closing]), if_neg (by simp [closing]),
      if_pos busy]
  · have free : ¬s.clipWriting k = true := by
      intro busy
      obtain ⟨q, mem, both⟩ := List.any_eq_true.mp busy
      obtain ⟨state, clip⟩ := of_decide_eq_true both
      exact unwritten q mem state clip
    obtain ⟨u, ends, left⟩ := State.abortNow_ends obeys.1.1 held quiet left
    refine ⟨u, ?_, left⟩
    rw [abort obeys small param, State.abortClip_held held, if_neg (by simp [closing]), if_neg (by simp [closing]),
      if_neg free, ← ends]
  · intro flags sequence payload record gap n m k fill bySize c kept stamped on mode numbers recorder opened next calm written
      room kept_eq gap_eq some short taken record_eq filling low listed fill_eq start inside free way stamped_eq
    rw [State.cellRecord_eq] at record_eq
    subst record_eq
    rw [show (if 4 ≤ s.clc.clips.length then
      s.clc.clips.eraseP (fun r => decide (r.state = .closed ∨ r.state = .aborted)) else s.clc.clips) = s.clc.keptRecords from
        rfl] at kept_eq
    subst kept_eq
    rcases way with ⟨rfl, sync, due, unended⟩ | ⟨rfl, whole, due, beyond, record⟩
    · obtain ⟨u, effect, out, lp, clc, overrun, slot, queue, ring, u_filling, quarters, rest⟩ := State.cell_splits on mode some
        short gap_eq numbers opened next calm written room filling low listed fill_eq start inside free stamped_eq recorder
        sync due unended
      exact ⟨u, effect, out, lp, clc, overrun, slot, queue, ring, u_filling, quarters, rest⟩
    · rw [State.length_cellRecord] at beyond
      obtain ⟨u, effect, out, lp, clc, overrun, slot, queue, ring, u_filling, quarters, rest⟩ := State.cell_parts on mode some
        short gap_eq numbers opened next calm written room filling low listed fill_eq start inside free stamped_eq taken
        whole due beyond record
      exact ⟨u, effect, out, lp, clc, overrun, slot, queue, ring, u_filling, quarters, rest⟩
end

section
/-!
The slot buffer and the clips as a ledger (R70 to R82, R110, R121 to R135): where each slot is, what each clip's account
says, and the moves that the operations of the model make on it.
-/
set_option Elab.async false

namespace Sys2Proof.Machine

/-! ### The ledger -/

/-- What the laws of the slot buffer read of a slot record. -/
structure Tag where
  state : SlotState
  clip : Option Nat
  trailer : Bool

def SlotRecord.tag (r : SlotRecord) : Tag := ⟨r.state, r.clip, r.trailer⟩

/-- What they read of a clip record. -/
structure Account where
  number : Nat
  state : ClipState
  slotCount : Nat
  written : Nat
  dataDone : Bool
  formed : Bool
  position : Option Nat

def ClipRecord.account (r : ClipRecord) : Account :=
  ⟨r.number, r.state, r.slotCount, r.written, r.dataDone, r.trailerFormed, r.trailerPosition⟩

/-- The slots and the clips. A slot held is between two places inside an operation. -/
@[ext] structure Ledger where
  slots : Nat → Option Tag
  filling : Option Nat
  ring : List Nat
  queue : List Nat
  flight : Option Nat
  held : List Nat
  mode : Mode
  depth : Nat
  clips : List Account
  next : Option Nat
  drain : Option Nat

/-- The ledger of a state, for a slot of the write in flight and slots held. -/
def State.ledger (s : State) (flight : Option Nat) (held : List Nat) : Ledger where
  slots n := (s.sb.slots.lookup n).map SlotRecord.tag
  filling := s.sb.filling
  ring := s.sb.ring
  queue := s.sb.queue
  flight := flight
  held := held
  mode := s.clc.mode
  depth := s.clc.table.prerollDepth
  clips := s.clc.clips.map ClipRecord.account
  next := s.clc.nextClip
  drain := s.clc.drain.map (·.clip)

/-- The slot of the write in flight. -/
def State.flight (s : State) : Option Nat := s.cp.write.bind (·.slot)

def Account.live (r : Account) : Prop := r.state = .opened ∨ r.state = .closing

namespace Ledger

/-- The tag of a slot; a FREE slot has that of the reset record. -/
def tag (L : Ledger) (n : Nat) : Tag := (L.slots n).getD ⟨.free, none, false⟩

def placed (L : Ledger) : List Nat := L.filling.toList ++ L.ring ++ L.queue ++ L.flight.toList ++ L.held

def clipOf (L : Ledger) (n : Nat) : Nat := (L.tag n).clip.getD 0

/-- The clip whose trailer is due (R132). -/
def due (L : Ledger) : Option Account :=
  match L.clips.find? (fun r => decide (r.state = .closing)) with
  | some r => if r.dataDone && decide (r.written = r.slotCount) && !r.formed then some r else none
  | none => none

/-! ### Changes of the ledger -/

/-- A slot gets a tag, or becomes FREE. -/
def put (L : Ledger) (n : Nat) (t : Option Tag) : Ledger := { L with slots := fun m => if m = n then t else L.slots m }

/-- Slots become FREE. -/
def erase (L : Ledger) (ns : List Nat) : Ledger := { L with slots := fun m => if m ∈ ns then none else L.slots m }

/-- A clip's account changes. -/
def edit (L : Ledger) (k : Nat) (f : Account → Account) : Ledger :=
  { L with clips := L.clips.map (fun r => if r.number = k then f r else r) }

/-- SLOT COUNT and WRITTEN stand still at the end of their range (R122). -/
def counted (r : Account) : Account := { r with slotCount := min lim32 (r.slotCount + 1) }

def writtenOne (r : Account) : Account := { r with written := min lim32 (r.written + 1) }

/-- A slot is stamped for a clip and joins the tail of the write queue (R76, R77). -/
def stamp (L : Ledger) (n k : Nat) : Ledger :=
  { (L.put n (some ⟨.queued, some k, (L.tag n).trailer⟩)).edit k counted with queue := L.queue ++ [n] }

/-- A clip's trailer is formed in a slot and enters the head of the write queue (R77, R132). -/
def form (L : Ledger) (c : Account) (m : Nat) : Ledger :=
  { (L.put m (some ⟨.queued, some c.number, true⟩)).edit c.number (fun r => { r with formed := true }) with
    queue := m :: L.queue }

/-- A slot that is FREE becomes FILLING (R73). -/
def fill (L : Ledger) (n : Nat) : Ledger := { L.put n (some ⟨.filling, none, false⟩) with filling := some n }

/-- The records that R123 keeps where a clip opens. -/
def kept (clips : List Account) : List Account :=
  if 4 ≤ clips.length then clips.eraseP (fun r => decide (r.state = .closed ∨ r.state = .aborted)) else clips

/-- A clip opens (R123). -/
def opens (L : Ledger) (k : Nat) : Ledger :=
  { L with clips := kept L.clips ++ [⟨k, .opened, 0, 0, false, false, none⟩], next := numberAfter k }

/-- The OPEN clip ends by a split, and the next one opens (R130, R131). -/
def split (L : Ledger) (k j : Nat) : Ledger :=
  (L.edit k (fun r => { r with state := .closing, dataDone := true })).opens j

/-- The slots that an abort of a clip gives back; ends says that the drain is the clip's (R135). -/
def gone (L : Ledger) (ends : Bool) (k : Nat) : List Nat :=
  (if ends then L.filling.toList else []) ++ L.queue.filter (fun n => decide ((L.tag n).clip = some k))

/-- An abort of a clip before the trailer test (R135). -/
def aborted (L : Ledger) (ends : Bool) (k : Nat) : Ledger :=
  { (L.erase (L.gone ends k)).edit k (fun r => { r with state := .aborted }) with
    queue := L.queue.filter (fun n => !(L.gone ends k).contains n), filling := if ends then none else L.filling
    drain := if ends then none else L.drain }

/-- The trailer test (R132). -/
inductive Tested (L : Ledger) : Ledger → Prop
  | calm : L.due = none → Tested L L
  | full : (∀ m, m < 1024 → L.slots m ≠ none) → Tested L L
  | formed (c : Account) (m : Nat) : L.due = some c → m < 1024 → L.slots m = none → Tested L (L.form c m)

/-- The slot of a completed write is claimed for a trailer that is due, or becomes FREE (R127, R132). -/
inductive Landed (L : Ledger) (n : Nat) : Ledger → Prop
  | claimed (c : Account) : L.due = some c → Landed L n (L.form c n)
  | freed : L.due = none → Landed L n (L.put n none)

/-- A record can be opened or dropped, or no clip is CLOSING (R123, R130). -/
def roomy (L : Ledger) : Prop :=
  L.clips.length < 4 ∨ (∃ r ∈ L.clips, r.state = .closed ∨ r.state = .aborted) ∨ ∀ r ∈ L.clips, r.state ≠ .closing

/-- A clip of the table is OPEN. -/
def isOpen (L : Ledger) (k : Nat) : Prop := ∃ r ∈ L.clips, r.number = k ∧ r.state = .opened

/-- One change that an operation makes beside the end of a clip by its trailer or an abort. G says that the card laws hold,
by which no slot is left without its write. -/
inductive Move (G : Prop) : Ledger → Ledger → Prop
  | fill (L : Ledger) (n : Nat) : L.filling = none → L.slots n = none → n < 1024 → (L.mode ≠ .idle ∨ L.drain ≠ none) →
      Move G L (L.fill n)
  | stamp (L : Ledger) (n k : Nat) : L.filling = some n → (L.mode = .recording ∧ L.isOpen k ∨ L.drain = some k) →
      Move G L { L.stamp n k with filling := none }
  | hold (L : Ledger) (n : Nat) : L.filling = some n → L.held = [] → Move G L { L with filling := none, held := [n] }
  | drop (L : Ledger) (o : Nat) (rest : List Nat) : L.ring = o :: rest → Move G L { L.put o none with ring := rest }
  | test (L M : Ledger) : L.Tested M → Move G L M
  | join (L : Ledger) (n : Nat) : L.held = [n] → L.mode = .armed → L.ring.length < L.depth →
      Move G L { L.put n (some { L.tag n with state := .preroll }) with held := [], ring := L.ring ++ [n] }
  | free (L : Ledger) (a b : List Nat) : L.held = a ++ b → Move G L { L.erase a with held := b }
  | start (L : Ledger) (k : Nat) : L.mode ≠ .recording → L.drain = none → L.next = some k → L.held = [] →
      (L.clips.length < 4 ∨ ∃ r ∈ L.clips, r.state = .closed ∨ r.state = .aborted) →
      Move G L { L.opens k with mode := .recording, held := L.ring, ring := [] }
  | stampHeld (L : Ledger) (n k : Nat) (rest : List Nat) : L.held = n :: rest → L.mode = .recording → L.isOpen k →
      Move G L { L.stamp n k with held := rest }
  | stop (L : Ledger) (k : Nat) : L.mode = .recording → L.isOpen k →
      Move G L { L.edit k (fun r => { r with state := .closing }) with mode := .idle, drain := some k }
  | finish (L M : Ledger) (k : Nat) : L.drain = some k → L.filling = none → L.held = [] →
      Tested { L.edit k (fun r => { r with dataDone := true }) with drain := none } M → Move G L M
  | stampSplit (L : Ledger) (n k j : Nat) : L.filling = some n → L.mode = .recording → L.isOpen k → L.next = some j →
      L.roomy → Move G L { (L.stamp n k).split k j with filling := none }
  | split (L M N : Ledger) (k j : Nat) : L.filling = none → L.held = [] → L.mode = .recording → L.isOpen k →
      L.next = some j → (∀ r ∈ L.clips, r.state ≠ .closing) →
      (M = L.split k j ∨ ∃ n, n < 1024 ∧ L.slots n = none ∧ M = (L.split k j).fill n) → M.Tested N → Move G L N
  | disarm (L : Ledger) : L.mode = .armed → L.held = [] →
      Move G L { L.erase (L.ring ++ L.filling.toList) with ring := [], filling := none, mode := .idle }
  | arm (L : Ledger) : L.mode = .idle → L.drain = none → 0 < L.depth → Move G L { L with mode := .armed }
  | resize (L : Ledger) (d : Nat) : L.mode = .idle → Move G L { L with depth := d }
  | take (L : Ledger) (n : Nat) (rest : List Nat) : L.flight = none → L.queue = n :: rest →
      Move G L { L.put n (some { L.tag n with state := .writing }) with flight := some n, queue := rest }
  | back (L : Ledger) (n : Nat) : L.flight = some n →
      Move G L { L.put n (some { L.tag n with state := .queued }) with flight := none, queue := n :: L.queue }
  | lose (L : Ledger) : (G → L.flight = none ∨ ∀ r ∈ L.clips, ¬r.live) → Move G L { L with flight := none }
  | land (L M : Ledger) (n : Nat) : L.flight = some n → (L.tag n).trailer = false → L.held = [] →
      Landed { L.edit (L.clipOf n) writtenOne with flight := none } n M → Move G L M

/-- The end of a clip by its trailer or by an abort, or the loss of all of them at RESTART; each comes first in its step. -/
inductive Start : Ledger → Ledger → Prop
  | same (L : Ledger) : Start L L
  | close (L M : Ledger) (n f : Nat) : L.flight = some n → (L.tag n).trailer = true → L.held = [] →
      Landed { L.edit (L.clipOf n) (fun r => { r with position := some f, state := .closed }) with flight := none } n M →
      Start L M
  | abort (L M : Ledger) (k : Nat) (ends : Bool) : L.held = [] → (∃ r ∈ L.clips, r.number = k ∧ r.state = .closing) →
      (∀ n t, L.slots n = some t → t.state = .writing → t.clip ≠ some k) → (ends = true ↔ L.drain = some k) →
      (L.aborted ends k).Tested M → Start L M
  | blank (L : Ledger) : Start L ⟨fun _ => none, none, [], [], none, [], .idle, L.depth, [], L.next, none⟩

def Path (G : Prop) : Ledger → Ledger → Prop := Relation.ReflTransGen (Move G)

end Ledger

end Sys2Proof.Machine
end

section
/-!
The moves keep each slot in one place, and its state names that place (R70, R78, R79, R110).
-/
set_option Elab.async false

namespace Sys2Proof.Machine

namespace Ledger

variable {G : Prop} {L M N : Ledger} {n m k j : Nat}

/-- The third and fourth laws (R70, R72, R78, R79): a slot is below 1,024 and at one place at most, and one at a place is
not FREE. -/
structure Placed (L : Ledger) : Prop where
  low : ∀ n, L.slots n ≠ none → n < 1024
  once : ∀ n, L.placed.count n ≤ if (L.slots n).isSome then 1 else 0
  ring : L.mode ≠ .armed → L.ring = []
  depth : L.mode = .armed → L.ring.length ≤ L.depth ∧ 0 < L.depth
  busy : L.filling ≠ none → L.mode ≠ .idle ∨ L.drain ≠ none

/-- A slot's state names its place, but for a slot held (R70). -/
def Named (L : Ledger) : Prop := ∀ n t, L.slots n = some t →
  (L.filling = some n → t.state = .filling) ∧ (n ∈ L.ring → t.state = .preroll) ∧ (n ∈ L.queue → t.state = .queued) ∧
    (L.flight = some n → t.state = .writing) ∧
    (n ∉ L.held → t.state ≠ .free ∧ (t.state = .filling → L.filling = some n) ∧ (t.state = .preroll → n ∈ L.ring) ∧
      (t.state = .queued → n ∈ L.queue))

/-- A slot that is WRITING is that of the write in flight (R110). -/
def Written (L : Ledger) : Prop :=
  ∀ n t, L.slots n = some t → n ∉ L.held → t.state = .writing → L.flight = some n

/-! ### The changes, slot by slot -/

theorem count_toList (o : Option Nat) (n : Nat) : o.toList.count n = if o = some n then 1 else 0 := by
  cases o <;> simp [List.count_cons]

/-- How often a slot number stands in the five places. -/
theorem count_placed (L : Ledger) (n : Nat) : L.placed.count n = (if L.filling = some n then 1 else 0) + L.ring.count n +
    L.queue.count n + (if L.flight = some n then 1 else 0) + L.held.count n := by
  simp only [placed, List.count_append, count_toList]

theorem count_filter (q : Nat → Bool) (l : List Nat) (n : Nat) : (l.filter q).count n = if q n then l.count n else 0 := by
  split
  · next h => exact List.count_filter h
  · next h => exact List.count_eq_zero.mpr fun mem => h (List.mem_filter.mp mem).2

theorem Tested.placed (h : L.Tested M) (p : L.Placed) : M.Placed := by
  cases h with
  | calm => exact p
  | full => exact p
  | formed c m due low free =>
    refine ⟨fun n => ?_, fun n => ?_, p.ring, p.depth, p.busy⟩
    · have := p.low n
      simp only [form, edit, put]
      grind
    · have := p.once n
      simp only [count_placed, form, edit, put, List.count_cons] at this ⊢
      grind

theorem Landed.placed (h : L.Landed n M) (p : L.Placed) (low : n < 1024) (out : L.placed.count n = 0) : M.Placed := by
  cases h with
  | claimed c due =>
    refine ⟨fun m => ?_, fun m => ?_, p.ring, p.depth, p.busy⟩
    · have := p.low m
      simp only [form, edit, put]
      grind
    · have := p.once m
      simp only [count_placed, form, edit, put, List.count_cons] at this out ⊢
      grind
  | freed =>
    refine ⟨fun m => ?_, fun m => ?_, p.ring, p.depth, p.busy⟩
    · have := p.low m
      simp only [put]
      grind
    · have := p.once m
      simp only [count_placed, put] at this out ⊢
      grind

theorem Placed.fill (p : L.Placed) (unfilled : L.filling = none) (free : L.slots n = none) (below : n < 1024)
    (opening : L.mode ≠ .idle ∨ L.drain ≠ none) : (L.fill n).Placed := by
  refine ⟨fun m => ?_, fun m => ?_, p.ring, p.depth, fun _ => opening⟩
  · have := p.low m
    grind [Ledger.fill, put]
  · have := p.once m
    simp only [count_placed, Ledger.fill, put] at this ⊢
    grind

theorem Move.placed (h : Move G L M) (p : L.Placed) : M.Placed := by
  have low := p.low
  have once := p.once
  have depth := p.depth
  have ring := p.ring
  have busy := p.busy
  simp only [count_placed] at once
  cases h with
  | test _ tested => exact tested.placed p
  | fill n unfilled free below opening =>
    exact p.fill unfilled free below opening
  | stamp n k filling receives =>
    refine ⟨fun m => ?_, fun m => ?_, p.ring, p.depth, nofun⟩
    · have := low m; have := once m
      grind [Ledger.stamp, edit, put]
    · have := once m
      simp only [count_placed, Ledger.stamp, edit, put, List.count_append, List.count_cons, List.count_nil]
      grind
  | hold n filling empty =>
    refine ⟨p.low, fun m => ?_, p.ring, p.depth, nofun⟩
    have := once m
    simp only [count_placed, List.count_cons, List.count_nil]
    grind
  | drop o rest members =>
    refine ⟨fun m => ?_, fun m => ?_, fun mode => ?_, fun mode => ?_, p.busy⟩
    · have := low m
      grind [put]
    · have := once m
      simp only [count_placed, put]
      grind
    · grind [put]
    · grind [put]
  | join n holds armed room =>
    refine ⟨fun m => ?_, fun m => ?_, fun mode => ?_, fun mode => ?_, p.busy⟩
    · have := low m; have := once m
      grind [put]
    · have := once m
      simp only [count_placed, put, List.count_append, List.count_cons, List.count_nil]
      grind
    · exact absurd armed mode
    · grind [put]
  | free a b holds =>
    refine ⟨fun m => ?_, fun m => ?_, p.ring, p.depth, p.busy⟩
    · have := low m
      grind [erase]
    · have := once m
      simp only [count_placed, erase]
      grind
  | start k mode drain next empty room =>
    refine ⟨fun m => low m, fun m => ?_, fun _ => rfl, nofun, fun _ => .inl nofun⟩
    have := once m
    simp only [count_placed, opens]
    grind
  | stampHeld n k rest holds mode isOpen =>
    refine ⟨fun m => ?_, fun m => ?_, p.ring, p.depth, p.busy⟩
    · have := low m; have := once m
      grind [Ledger.stamp, edit, put]
    · have := once m
      simp only [count_placed, Ledger.stamp, edit, put, List.count_append, List.count_cons, List.count_nil]
      grind
  | stop k mode isOpen =>
    exact ⟨low, p.once, fun _ => ring (by simp [mode]), nofun, fun _ => .inr nofun⟩
  | finish _ k drain filling empty tested =>
    exact tested.placed ⟨low, p.once, ring, depth, fun h => absurd filling h⟩
  | stampSplit n k j filling mode isOpen next room =>
    refine ⟨fun m => ?_, fun m => ?_, p.ring, p.depth, nofun⟩
    · have := low m; have := once m
      grind [Ledger.stamp, Ledger.split, opens, edit, put]
    · have := once m
      simp only [count_placed, Ledger.stamp, Ledger.split, opens, edit, put, List.count_append, List.count_cons,
        List.count_nil]
      grind
  | split _ _ k j filling empty mode isOpen next closing first tested =>
    have parts : (L.split k j).Placed := ⟨low, p.once, ring, depth, busy⟩
    refine tested.placed ?_
    rcases first with rfl | ⟨n, below, free, rfl⟩
    · exact parts
    · exact parts.fill filling free below (.inl (by simp [Ledger.split, opens, edit, mode]))
  | disarm armed empty =>
    refine ⟨fun m => ?_, fun m => ?_, fun _ => rfl, nofun, fun h => absurd rfl h⟩
    · have := low m
      grind [erase]
    · have := once m
      simp only [count_placed, erase, List.mem_append, Option.mem_toList]
      grind
  | arm idle drain room =>
    refine ⟨low, p.once, fun h => absurd rfl h, fun _ => ⟨?_, room⟩, fun _ => .inl nofun⟩
    simp [ring (by simp [idle])]
  | resize d idle =>
    exact ⟨low, p.once, ring, fun h => by simp [idle] at h, busy⟩
  | take n rest flight queue =>
    refine ⟨fun m => ?_, fun m => ?_, p.ring, p.depth, p.busy⟩
    · have := low m; have := once m
      grind [put]
    · have := once m
      simp only [count_placed, put]
      grind
  | back n flight =>
    refine ⟨fun m => ?_, fun m => ?_, p.ring, p.depth, p.busy⟩
    · have := low m; have := once m
      grind [put]
    · have := once m
      simp only [count_placed, put, List.count_cons]
      grind
  | lose _ =>
    refine ⟨low, fun m => ?_, ring, depth, busy⟩
    have := once m
    simp only [count_placed]
    grind
  | land _ n flight trailer empty landed =>
    have once_n := once n
    refine landed.placed (n := n) ⟨low, fun m => ?_, ring, depth, busy⟩ (low n ?_) ?_
    · have := once m
      simp only [count_placed, edit]
      grind
    · grind
    · simp only [count_placed, edit]
      grind

theorem Path.placed (h : Path G L M) (p : L.Placed) : M.Placed := by
  induction h with
  | refl => exact p
  | tail _ move ih => exact move.placed ih

theorem mem_gone {ends : Bool} : m ∈ L.gone ends k ↔
    ends = true ∧ L.filling = some m ∨ m ∈ L.queue ∧ (L.tag m).clip = some k := by
  cases ends <;> simp [gone]

/-- What an abort leaves of the five places and the slots. -/
theorem aborted_places (L : Ledger) (ends : Bool) (k m : Nat) :
    (L.aborted ends k).slots m = (if m ∈ L.gone ends k then none else L.slots m) ∧
    (L.aborted ends k).queue.count m = (if m ∈ L.gone ends k then 0 else L.queue.count m) ∧
    (m ∈ (L.aborted ends k).queue ↔ m ∈ L.queue ∧ m ∉ L.gone ends k) ∧
    ((L.aborted ends k).filling = some m ↔ ends = false ∧ L.filling = some m) := by
  refine ⟨rfl, ?_, ?_, ?_⟩
  · simp [aborted, count_filter]
  · simp [aborted]
  · cases ends <;> simp [aborted]

theorem Placed.abort (p : L.Placed) (ends : Bool) (k : Nat) : (L.aborted ends k).Placed := by
  refine ⟨fun m => ?_, fun m => ?_, p.ring, p.depth, fun h => ?_⟩
  · have := p.low m
    rw [(L.aborted_places ends k m).1]
    grind
  · have := p.once m
    have gone := mem_gone (L := L) (ends := ends) (k := k) (m := m)
    obtain ⟨slots, count, -, filling⟩ := L.aborted_places ends k m
    have ring : (L.aborted ends k).ring = L.ring := rfl
    have flight : (L.aborted ends k).flight = L.flight := rfl
    have held : (L.aborted ends k).held = L.held := rfl
    simp only [count_placed, slots, count, ring, flight, held, filling] at this ⊢
    grind
  · cases ends with
    | true => exact absurd rfl h
    | false => exact p.busy h

theorem Start.placed (h : Start L M) (p : L.Placed) : M.Placed := by
  have low := p.low
  have once := p.once
  simp only [count_placed] at once
  cases h with
  | same => exact p
  | close _ n f flight trailer empty landed =>
    have once_n := once n
    refine landed.placed (n := n) ⟨low, fun m => ?_, p.ring, p.depth, p.busy⟩ (low n ?_) ?_
    · have := once m
      simp only [count_placed, edit]
      grind
    · grind
    · simp only [count_placed, edit]
      grind
  | abort _ k ends empty held writing drains tested =>
    exact tested.placed (p.abort ends k)
  | blank => exact ⟨nofun, fun _ => by simp [placed], fun _ => rfl, nofun, nofun⟩

/-! ### The states name the places -/

theorem Tested.named (h : L.Tested M) (p : L.Placed) (s : L.Named) : M.Named := by
  cases h with
  | calm => exact s
  | full => exact s
  | formed c m due low free =>
    intro n t
    have := s n t
    have := p.once m
    simp only [count_placed, form, edit, put] at this ⊢
    grind

theorem Landed.named (h : L.Landed n M) (s : L.Named) (out : L.placed.count n = 0) : M.Named := by
  simp only [count_placed] at out
  cases h with
  | claimed c due =>
    intro m t
    have := s m t
    simp only [form, edit, put] at this ⊢
    grind
  | freed =>
    intro m t
    have := s m t
    simp only [put] at this ⊢
    grind

theorem Named.fill (s : L.Named) (p : L.Placed) (free : L.slots n = none) (unfilled : L.filling = none) :
    (L.fill n).Named := by
  intro m t
  have := s m t
  have := p.once n
  simp only [count_placed] at this
  simp only [Ledger.fill, put]
  grind

theorem Move.named (h : Move G L M) (p : L.Placed) (s : L.Named) : M.Named := by
  have once := p.once
  simp only [count_placed] at once
  cases h with
  | test _ tested => exact tested.named p s
  | fill n unfilled free below opening => exact s.fill p free unfilled
  | stamp n k filling receives =>
    intro m t
    have := s m t
    have := once n
    simp only [Ledger.stamp, edit, put]
    grind
  | hold n filling empty =>
    intro m t
    have := s m t
    have := once n
    grind
  | drop o rest members =>
    intro m t
    have := s m t
    have := once o
    simp only [put]
    grind
  | join n holds armed room =>
    intro m t
    have := s m t
    have := once n
    simp only [put]
    grind
  | free a b holds =>
    intro m t
    have := s m t
    have := once m
    simp only [erase]
    grind
  | start k mode drain next empty room =>
    intro m t
    have := s m t
    simp only [opens]
    grind
  | stampHeld n k rest holds mode isOpen =>
    intro m t
    have := s m t
    have := once n
    simp only [Ledger.stamp, edit, put]
    grind
  | stop k mode isOpen => exact s
  | finish _ k drain filling empty tested => exact tested.named ⟨p.low, p.once, p.ring, p.depth, fun h => absurd filling h⟩ s
  | stampSplit n k j filling mode isOpen next room =>
    intro m t
    have := s m t
    have := once n
    simp only [Ledger.stamp, Ledger.split, opens, edit, put]
    grind
  | split _ _ k j filling empty mode isOpen next closing first tested =>
    have parts : (L.split k j).Placed := ⟨p.low, p.once, p.ring, p.depth, p.busy⟩
    rcases first with rfl | ⟨n, below, free, rfl⟩
    · exact tested.named parts s
    · exact tested.named (parts.fill filling free below (.inl (by simp [Ledger.split, opens, edit, mode])))
        (Named.fill s parts free filling)
  | disarm armed empty =>
    intro m t
    have := s m t
    simp only [erase]
    grind
  | arm idle drain room => exact s
  | resize d idle => exact s
  | take n rest flight queue =>
    intro m t
    have := s m t
    have := once n
    simp only [put]
    grind
  | back n flight =>
    intro m t
    have := s m t
    have := once n
    simp only [put]
    grind
  | lose _ =>
    intro m t
    have := s m t
    grind
  | land _ n flight trailer empty landed =>
    have once_n := once n
    refine landed.named (n := n) (fun m t => ?_) ?_
    · have := s m t
      grind [edit]
    · simp only [count_placed, edit]
      grind

theorem Path.named (h : Path G L M) (p : L.Placed) (s : L.Named) : M.Named := by
  induction h with
  | refl => exact s
  | tail path move ih => exact move.named (Path.placed path p) ih

theorem Start.named (h : Start L M) (p : L.Placed) (s : L.Named) : M.Named := by
  have once := p.once
  simp only [count_placed] at once
  cases h with
  | same => exact s
  | close _ n f flight trailer empty landed =>
    have once_n := once n
    refine landed.named (n := n) (fun m t => ?_) ?_
    · have := s m t
      grind [edit]
    · simp only [count_placed, edit]
      grind
  | abort _ k ends empty held writing drains tested =>
    refine tested.named (p.abort ends k) (fun m t => ?_)
    have := s m t
    have := once m
    have gone := mem_gone (L := L) (ends := ends) (k := k) (m := m)
    obtain ⟨slots, -, queue, filling⟩ := L.aborted_places ends k m
    have ring : (L.aborted ends k).ring = L.ring := rfl
    have flight : (L.aborted ends k).flight = L.flight := rfl
    have holds : (L.aborted ends k).held = L.held := rfl
    simp only [slots, queue, ring, flight, holds, filling]
    by_cases out : m ∈ L.gone ends k
    · simp [out]
    · have gone := mt gone.mpr out
      simp only [out, if_false, not_false_eq_true, and_true]
      cases ends <;> grind
  | blank => exact fun _ _ => nofun

/-! ### No slot is WRITING without its write -/

theorem Tested.written (h : L.Tested M) (w : L.Written) : M.Written := by
  cases h with
  | calm => exact w
  | full => exact w
  | formed c m due low free =>
    intro n t
    have := w n t
    simp only [form, edit, put]
    grind

theorem Landed.written (h : L.Landed n M) (w : ∀ m t, m ≠ n → L.slots m = some t → m ∉ L.held → t.state = .writing →
    L.flight = some m) : M.Written := by
  cases h with
  | claimed c due =>
    intro m t
    have := w m t
    simp only [form, edit, put]
    grind
  | freed =>
    intro m t
    have := w m t
    simp only [put]
    grind

theorem Written.fill (w : L.Written) : (L.fill n).Written := by
  intro m t
  have := w m t
  simp only [Ledger.fill, put]
  grind

theorem Move.written (h : Move G L M) (g : G) (p : L.Placed) (w : L.Written)
    (lost : (∀ r ∈ L.clips, ¬r.live) → L.flight = none) : M.Written := by
  have once := p.once
  simp only [count_placed] at once
  cases h with
  | test _ tested => exact tested.written w
  | fill n unfilled free below opening => exact w.fill
  | stamp n k filling receives =>
    intro m t
    have := w m t
    simp only [Ledger.stamp, edit, put]
    grind
  | hold n filling empty =>
    intro m t
    have := w m t
    grind
  | drop o rest members =>
    intro m t
    have := w m t
    simp only [put]
    grind
  | join n holds armed room =>
    intro m t
    have := w m t
    simp only [put]
    grind
  | free a b holds =>
    intro m t
    have := w m t
    simp only [erase]
    grind
  | start k mode drain next empty room =>
    intro m t
    have := w m t
    simp only [opens]
    grind
  | stampHeld n k rest holds mode isOpen =>
    intro m t
    have := w m t
    simp only [Ledger.stamp, edit, put]
    grind
  | stop k mode isOpen => exact w
  | finish _ k drain filling empty tested => exact tested.written w
  | stampSplit n k j filling mode isOpen next room =>
    intro m t
    have := w m t
    simp only [Ledger.stamp, Ledger.split, opens, edit, put]
    grind
  | split _ _ k j filling empty mode isOpen next closing first tested =>
    have parts : (L.split k j).Written := w
    rcases first with rfl | ⟨n, below, free, rfl⟩
    · exact tested.written parts
    · exact tested.written parts.fill
  | disarm armed empty =>
    intro m t
    have := w m t
    simp only [erase]
    grind
  | arm idle drain room => exact w
  | resize d idle => exact w
  | take n rest flight queue =>
    intro m t
    have := w m t
    simp only [put]
    grind
  | back n flight =>
    intro m t
    have := w m t
    simp only [put]
    grind
  | lose without =>
    have none : L.flight = none := (without g).elim id lost
    intro m t
    have := w m t
    grind
  | land _ n flight trailer empty landed =>
    refine landed.written (n := n) fun m t other => ?_
    have := w m t
    simp only [edit]
    grind

theorem Start.written (h : Start L M) (w : L.Written) : M.Written := by
  cases h with
  | same => exact w
  | close _ n f flight trailer empty landed =>
    refine landed.written (n := n) fun m t other => ?_
    have := w m t
    simp only [edit]
    grind
  | abort _ k ends empty held writing drains tested =>
    refine tested.written fun m t => ?_
    have := w m t
    rw [(L.aborted_places ends k m).1]
    exact fun at_m out => this (by grind) out
  | blank => exact fun _ _ => nofun

end Ledger
end Sys2Proof.Machine
end

section
/-!
The tenth law in the books of the buffer and the clips (R75, R77, R121 to R134): the slots that wait for the card in their
order, and the accounts of the clips.
-/
set_option Elab.async false

namespace Sys2Proof.Machine

/-- The clip and the kind of a slot that waits for the card. -/
abbrev Entry := Option Nat × Bool

/-- What the tenth law reads: the write queue, the slot of the write in flight, and the clips. -/
@[ext] structure Books where
  line : List Entry
  aboard : Option Entry
  clips : List Account
  mode : Mode
  next : Option Nat
  drain : Option Nat

/-- The data of a clip is all written, and its trailer is not formed (R132). -/
def Account.ready (r : Account) : Prop := r.dataDone = true ∧ r.written = r.slotCount ∧ r.formed = false

/-- A change of one clip's account. -/
def Account.upd (k : Nat) (f : Account → Account) (r : Account) : Account := if r.number = k then f r else r

/-- What a change keeps of an account it keeps of every account. -/
theorem Account.upd_of {α : Type} {k : Nat} {f : Account → Account} (p : Account → α) (keeps : ∀ r, p (f r) = p r)
    (r : Account) : p (r.upd k f) = p r := by
  unfold Account.upd; split
  · exact keeps r
  · rfl

/-- In the order of the clip numbers a number names one clip (R122). -/
theorem Account.unique {l : List Account} (order : l.Pairwise (fun r q => r.number < q.number)) {r q : Account}
    (mem_r : r ∈ l) (mem_q : q ∈ l) (same : r.number = q.number) : r = q := by
  by_contra other
  have := List.Pairwise.forall_of_forall_of_flip (l := l) (R := fun r q => r = q ∨ r.number ≠ q.number) (by simp)
    (order.imp fun h => .inr (Nat.ne_of_lt h)) (order.imp fun h => .inr (Nat.ne_of_gt h)) mem_r mem_q
  tauto

theorem exists_mem_map {α β : Type} {g : α → β} {l : List α} {p : β → Prop} :
    (∃ y ∈ l.map g, p y) ↔ ∃ x ∈ l, p (g x) := by simp

namespace Books

variable {B : Books} {k j : Nat} {c r : Account} {x : Entry} {f : Account → Account}

/-- How many slots of a clip and a kind wait. -/
def waits (B : Books) (x : Entry) : Nat := (B.line ++ B.aboard.toList).count x

/-- No trailer is due (R132). -/
def Calm (B : Books) : Prop :=
  ∀ r ∈ B.clips, r.state = .closing → (∀ q ∈ B.clips, q.state = .closing → r.number ≤ q.number) → ¬r.ready

/-- R122, R123: at most four clips, in the order of their numbers and below the next one. -/
structure Numbered (B : Books) : Prop where
  few : B.clips.length ≤ 4
  order : B.clips.Pairwise (fun r q => r.number < q.number)
  range : ∀ r ∈ B.clips, 1 ≤ r.number ∧ r.number ≤ lim32 ∧ (r.state = .opened → r.position = none)
  below : ∀ n, B.next = some n → 1 ≤ n ∧ n ≤ lim32 ∧ ∀ r ∈ B.clips, r.number < n

/-- The order in which clips open and end (R121, R128 to R134). -/
structure Staged (B : Books) : Prop where
  idle : B.mode ≠ .recording → ∀ r ∈ B.clips, r.state ≠ .opened
  drainIdle : B.drain ≠ none → B.mode = .idle
  opened : ∀ r ∈ B.clips, r.state = .opened → r.dataDone = false ∧ ∀ q ∈ B.clips, q.number ≤ r.number
  closing : ∀ r ∈ B.clips, r.state = .closing → (r.dataDone = false ↔ B.drain = some r.number)
  closed : ∀ r ∈ B.clips, r.state = .closed → ∀ q ∈ B.clips, q.live → r.number < q.number
  drains : ∀ k, B.drain = some k → ∃ r ∈ B.clips, r.state = .closing ∧ r.number = k ∧ ∀ q ∈ B.clips, q.number ≤ k

/-- The order of the write queue (R77). -/
structure Queued (B : Books) : Prop where
  owned : ∀ x ∈ B.line ++ B.aboard.toList, ∃ r ∈ B.clips, r.live ∧ x.1 = some r.number
  sorted : B.line.Pairwise (fun x y => x.1.getD 0 ≤ y.1.getD 0)
  lowest : ∀ x, B.aboard = some x → ∀ r ∈ B.clips, r.live → x.1.getD 0 ≤ r.number

/-- The accounts of the live clips (R75, R127, R132). -/
structure Accounted (B : Books) : Prop where
  data : ∀ r ∈ B.clips, r.live → B.waits (some r.number, false) + r.written = r.slotCount
  trailers : ∀ r ∈ B.clips, r.live → B.waits (some r.number, true) = if r.formed then 1 else 0
  formed : ∀ r ∈ B.clips, r.live → r.formed = true → r.state = .closing ∧ r.dataDone = true ∧ r.written = r.slotCount ∧
    ∀ q ∈ B.clips, q.live → r.number ≤ q.number

/-- The tenth law (R134) and what it rests on, but for the trailer that is due. -/
structure Kept (B : Books) : Prop where
  numbered : B.Numbered
  staged : B.Staged
  queued : B.Queued
  accounted : B.Accounted

def edit (B : Books) (k : Nat) (f : Account → Account) : Books := { B with clips := B.clips.map (·.upd k f) }

/-! ### Changes that keep a part -/

/-- A number names one clip (R122). -/
theorem Numbered.unique (h : B.Numbered) {r q : Account} (mem_r : r ∈ B.clips) (mem_q : q ∈ B.clips)
    (same : r.number = q.number) : r = q := Account.unique h.order mem_r mem_q same

/-- A change of a clip's account that keeps its number and does not open it. -/
theorem Numbered.edit (h : B.Numbered) (number : ∀ r, (f r).number = r.number := by exact fun _ => rfl)
    (opened : ∀ r, (f r).state = .opened → r.state = .opened ∧ (f r).position = r.position) : (B.edit k f).Numbered := by
  have same := Account.upd_of (k := k) (·.number) number
  obtain ⟨few, order, range, below⟩ := h
  refine ⟨by simpa [Books.edit] using few, List.pairwise_map.mpr (order.imp fun less => ?_), ?_, fun n next => ?_⟩
  · rwa [same, same]
  · simp only [Books.edit, List.forall_mem_map, same]
    intro r mem
    have := range r mem
    unfold Account.upd
    grind
  · simp only [Books.edit, List.forall_mem_map, same]
    exact below n next

theorem Staged.edit (h : B.Staged) (number : ∀ r, (f r).number = r.number := by exact fun _ => rfl)
    (state : ∀ r, (f r).state = r.state := by exact fun _ => rfl)
    (done : ∀ r, (f r).dataDone = r.dataDone := by exact fun _ => rfl) : (B.edit k f).Staged := by
  have number := Account.upd_of (k := k) (·.number) number
  have state := Account.upd_of (k := k) (·.state) state
  have done := Account.upd_of (k := k) (·.dataDone) done
  obtain ⟨idle, drainIdle, opened, closing, closed, drains⟩ := h
  refine ⟨?_, drainIdle, ?_, ?_, ?_, ?_⟩ <;>
    simp only [Books.edit, List.forall_mem_map, exists_mem_map, Account.live, number, state, done] <;> assumption

/-- The queue after a change that ends no clip. -/
theorem Queued.edit (h : B.Queued) (number : ∀ r, (f r).number = r.number := by exact fun _ => rfl)
    (live : ∀ r, (f r).live ↔ r.live) : (B.edit k f).Queued := by
  have number := Account.upd_of (k := k) (·.number) number
  have live := fun r => iff_of_eq (Account.upd_of (k := k) (·.live) (fun r => propext (live r)) r)
  obtain ⟨owned, sorted, lowest⟩ := h
  refine ⟨?_, sorted, ?_⟩ <;> simp only [Books.edit, List.forall_mem_map, exists_mem_map, number, live] <;> assumption

/-- A live clip after a change that ends none. -/
theorem live_edit (mem : r ∈ B.clips) (live : r.live) (number : ∀ r, (f r).number = r.number := by exact fun _ => rfl)
    (lives : ∀ r, (f r).live ↔ r.live := by exact fun _ => Iff.rfl) :
    ∃ q ∈ (B.edit k f).clips, q.live ∧ some r.number = some q.number := by
  refine exists_mem_map.mpr ⟨r, mem, ?_, congrArg some (Account.upd_of (k := k) (·.number) number r).symm⟩
  unfold Account.upd; split
  · exact (lives r).mpr live
  · exact live

/-! ### The clip that receives slots -/

/-- The clip that receives the next slot: the OPEN one, or that of the drain (R121). -/
def receives (B : Books) (k : Nat) : Prop :=
  B.mode = .recording ∧ (∃ r ∈ B.clips, r.number = k ∧ r.state = .opened) ∨ B.drain = some k

/-- It is live and the latest, and its trailer is not formed (R121, R128). -/
theorem Kept.receiver (b : B.Kept) (receives : B.receives k) : ∃ r ∈ B.clips, r.number = k ∧ r.live ∧ r.formed = false ∧
    r.dataDone = false ∧ ∀ q ∈ B.clips, q.number ≤ k := by
  rcases receives with ⟨-, r, mem, rfl, state⟩ | drain
  · obtain ⟨undone, latest⟩ := b.staged.opened r mem state
    refine ⟨r, mem, rfl, .inl state, ?_, undone, latest⟩
    cases formed : r.formed with
    | false => rfl
    | true => simp [(b.accounted.formed r mem (.inl state) formed).2.1] at undone
  · obtain ⟨r, mem, state, rfl, latest⟩ := b.staged.drains k drain
    have undone := (b.staged.closing r mem state).mpr drain
    refine ⟨r, mem, rfl, .inr state, ?_, undone, latest⟩
    cases formed : r.formed with
    | false => rfl
    | true => simp [(b.accounted.formed r mem (.inr state) formed).2.1] at undone

/-! ### A slot is stamped (R75, R76) -/

def stamp (B : Books) (k : Nat) : Books := { B.edit k Ledger.counted with line := B.line ++ [(some k, false)] }

theorem Kept.stamp (b : B.Kept) (receives : B.receives k) (room : ∀ r ∈ B.clips, r.live → r.slotCount < lim32) :
    (B.stamp k).Kept := by
  obtain ⟨r0, mem0, number0, live0, unformed0, undone0, latest0⟩ := b.receiver receives
  have unique := @b.numbered.unique
  have numbered : (B.edit k Ledger.counted).Numbered := b.numbered.edit (opened := fun _ e => ⟨e, rfl⟩)
  have staged : (B.edit k Ledger.counted).Staged := b.staged.edit
  have queued : (B.edit k Ledger.counted).Queued := b.queued.edit (live := fun _ => Iff.rfl)
  refine ⟨⟨numbered.few, numbered.order, numbered.range, numbered.below⟩, ⟨staged.idle, staged.drainIdle, staged.opened,
    staged.closing, staged.closed, staged.drains⟩, ⟨?_, ?_, queued.lowest⟩, ⟨?_, ?_, ?_⟩⟩
  · intro x mem
    rcases List.mem_append.mp mem with (waits | aboard)
    · rcases List.mem_append.mp waits with (old | new)
      · exact queued.owned x (List.mem_append_left _ old)
      · cases List.mem_singleton.mp new
        rw [← number0]
        exact live_edit (B := B) mem0 live0
    · exact queued.owned x (List.mem_append_right _ aboard)
  · refine List.pairwise_append.mpr ⟨b.queued.sorted, List.pairwise_singleton _ _, fun x mem y new => ?_⟩
    obtain ⟨r, mem_r, -, clip⟩ := b.queued.owned x (List.mem_append_left _ mem)
    cases List.mem_singleton.mp new
    rw [clip]
    exact latest0 r mem_r
  · simp only [Books.stamp, Books.edit, waits, List.forall_mem_map]
    intro r mem live
    have := b.accounted.data r mem
    simp only [waits] at this
    unfold Account.upd at *
    grind [Ledger.counted, Account.live]
  · simp only [Books.stamp, Books.edit, waits, List.forall_mem_map]
    intro r mem live
    have := b.accounted.trailers r mem
    simp only [waits] at this
    unfold Account.upd at *
    grind [Ledger.counted, Account.live]
  · simp only [Books.stamp, Books.edit, List.forall_mem_map]
    intro r mem live
    have := b.accounted.formed r mem
    unfold Account.upd at *
    grind [Ledger.counted, Account.live]

/-- A change that makes no trailer due (R132). -/
theorem Calm.edit (h : B.Calm) (number : ∀ r, (f r).number = r.number := by exact fun _ => rfl)
    (state : ∀ r, (f r).state = r.state := by exact fun _ => rfl)
    (ready : ∀ r ∈ B.clips, r.state = .closing → r.number = k → (f r).ready → r.ready) : (B.edit k f).Calm := by
  have number := Account.upd_of (k := k) (·.number) number
  have state := Account.upd_of (k := k) (·.state) state
  simp only [Calm, Books.edit, List.forall_mem_map, number, state]
  intro r mem closing least due
  refine h r mem closing least ?_
  unfold Account.upd at due
  split at due
  · next same => exact ready r mem closing same due
  · exact due

theorem Kept.stamp_calm (b : B.Kept) (calm : B.Calm) (receives : B.receives k) : (B.stamp k).Calm := by
  refine Calm.edit (B := B) (f := Ledger.counted) (number := fun _ => rfl) (state := fun _ => rfl) calm
    fun r mem closing same ready => ?_
  obtain ⟨r0, mem0, number0, -, -, undone, -⟩ := b.receiver receives
  cases b.numbered.unique mem mem0 (same.trans number0.symm)
  exact absurd ready.1 (by simp [Ledger.counted, undone])

/-! ### A trailer is formed (R77, R132) -/

def form (B : Books) (k : Nat) : Books :=
  { B.edit k (fun r => { r with formed := true }) with line := (some k, true) :: B.line }

/-- The lowest CLOSING clip is the lowest live one (R121). -/
theorem Kept.closing_lowest (b : B.Kept) (mem : c ∈ B.clips) (least : ∀ q ∈ B.clips, q.state = .closing → c.number ≤ q.number) :
    ∀ q ∈ B.clips, q.live → c.number ≤ q.number := fun q mem_q live => by
  rcases live with opened | closing
  · exact (b.staged.opened q mem_q opened).2 c mem
  · exact least q mem_q closing

theorem Kept.form (b : B.Kept) (mem : c ∈ B.clips) (closing : c.state = .closing)
    (least : ∀ q ∈ B.clips, q.state = .closing → c.number ≤ q.number) (ready : c.ready) : (B.form c.number).Kept := by
  have unique := @b.numbered.unique
  have lowest := b.closing_lowest mem least
  have numbered : (B.edit c.number (fun r => { r with formed := true })).Numbered :=
    b.numbered.edit (opened := fun _ e => ⟨e, rfl⟩)
  have staged : (B.edit c.number (fun r => { r with formed := true })).Staged := b.staged.edit
  have queued : (B.edit c.number (fun r => { r with formed := true })).Queued := b.queued.edit (live := fun _ => Iff.rfl)
  obtain ⟨done, all, unformed⟩ := ready
  refine ⟨⟨numbered.few, numbered.order, numbered.range, numbered.below⟩, ⟨staged.idle, staged.drainIdle, staged.opened,
    staged.closing, staged.closed, staged.drains⟩, ⟨?_, ?_, queued.lowest⟩, ⟨?_, ?_, ?_⟩⟩
  · intro x waits
    rcases List.mem_cons.mp waits with rfl | old
    · exact live_edit (B := B) mem (.inr closing)
    · exact queued.owned x old
  · refine List.pairwise_cons.mpr ⟨fun x mem_x => ?_, b.queued.sorted⟩
    obtain ⟨r, mem_r, live, clip⟩ := b.queued.owned x (List.mem_append_left _ mem_x)
    rw [clip]
    exact lowest r mem_r live
  · simp only [Books.form, Books.edit, waits, List.forall_mem_map]
    intro r mem live
    have := b.accounted.data r mem
    simp only [waits] at this
    unfold Account.upd at *
    grind [Account.live]
  · simp only [Books.form, Books.edit, waits, List.forall_mem_map]
    intro r mem_r live
    have := b.accounted.trailers r mem_r
    simp only [waits] at this
    unfold Account.upd at *
    grind [Account.live]
  · simp only [Books.form, Books.edit, List.forall_mem_map]
    intro r mem_r live
    have := b.accounted.formed r mem_r
    unfold Account.upd at *
    grind [Account.live]

theorem Kept.form_calm (b : B.Kept) (mem : c ∈ B.clips) (closing : c.state = .closing)
    (least : ∀ q ∈ B.clips, q.state = .closing → c.number ≤ q.number) : (B.form c.number).Calm := by
  have number := Account.upd_of (k := c.number) (f := fun r => { r with formed := true }) (·.number) fun _ => rfl
  have state := Account.upd_of (k := c.number) (f := fun r => { r with formed := true }) (·.state) fun _ => rfl
  simp only [Calm, Books.form, Books.edit, List.forall_mem_map, number, state]
  intro r mem_r closing_r least_r ready
  cases b.numbered.unique mem_r mem (Nat.le_antisymm (least_r c mem closing) (least r mem_r closing_r))
  rw [Account.upd, if_pos rfl] at ready
  cases ready.2.2

/-! ### The write in flight (R77, R110, R113, R117) -/

/-- Of the clips that are CLOSING one is the lowest. -/
theorem exists_least (mem : r ∈ B.clips) (closing : r.state = .closing) : ∃ c ∈ B.clips, c.state = .closing ∧
    c.number ≤ r.number ∧ ∀ q ∈ B.clips, q.state = .closing → c.number ≤ q.number := by
  classical
  have some : ∃ n, ∃ q ∈ B.clips, q.state = .closing ∧ q.number = n := ⟨_, r, mem, closing, rfl⟩
  obtain ⟨c, mem_c, closing_c, number⟩ := Nat.find_spec some
  refine ⟨c, mem_c, closing_c, ?_, fun q mem_q closing_q => ?_⟩ <;> rw [number]
  · exact Nat.find_min' some ⟨r, mem, closing, rfl⟩
  · exact Nat.find_min' some ⟨q, mem_q, closing_q, rfl⟩

/-- With no slot of a CLOSING clip waiting, and a later live clip, its trailer would be due (R132). -/
theorem Kept.ready_of_done (b : B.Kept) (mem : c ∈ B.clips) (closing : c.state = .closing)
    (waits : ∀ t, B.waits (some c.number, t) = 0) (later : B.drain ≠ some c.number) : c.ready := by
  have data := b.accounted.data c mem (.inr closing)
  have trailers := b.accounted.trailers c mem (.inr closing)
  rw [waits] at data trailers
  refine ⟨?_, by omega, ?_⟩
  · exact Bool.eq_true_of_not_eq_false (mt (b.staged.closing c mem closing).mp later)
  · cases formed : c.formed with
    | false => rfl
    | true => simp [formed] at trailers

/-- With no trailer due, the clip at the head of the queue is the lowest live one (R134). -/
theorem Kept.head_lowest (b : B.Kept) (calm : B.Calm) {rest : List Entry} (grounded : B.aboard = none)
    (line : B.line = x :: rest) (mem : r ∈ B.clips) (clip : x.1 = some r.number) :
    ∀ q ∈ B.clips, q.live → r.number ≤ q.number := by
  intro q mem_q live_q
  by_contra lower
  have latest : ∀ c ∈ B.clips, c.number < r.number → c.state ≠ .opened ∧ B.drain ≠ some c.number := by
    refine fun c mem_c before => ⟨fun opened => ?_, fun drain => ?_⟩
    · exact absurd ((b.staged.opened c mem_c opened).2 r mem) (by omega)
    · obtain ⟨-, -, -, -, latest⟩ := b.staged.drains _ drain
      exact absurd (latest r mem) (by omega)
  have closing_q : q.state = .closing := live_q.resolve_left (latest q mem_q (by omega)).1
  obtain ⟨c, mem_c, closing, le, least⟩ := exists_least mem_q closing_q
  refine calm c mem_c closing least (b.ready_of_done mem_c closing (fun t => ?_) (latest c mem_c (by omega)).2)
  have order := b.queued.sorted
  rw [line] at order
  obtain ⟨first, -⟩ := List.pairwise_cons.mp order
  rw [waits, grounded, line, Option.toList, List.append_nil, List.count_eq_zero]
  intro waiting
  rcases List.mem_cons.mp waiting with rfl | behind
  · have := Option.some.inj clip
    omega
  · have := first _ behind
    rw [clip] at this
    exact absurd this (by simp only [Option.getD_some]; omega)

/-- A write takes the head of the queue: with no trailer due it is of the lowest live clip (R110, R134). -/
theorem Kept.take (b : B.Kept) (calm : B.Calm) {rest : List Entry} (grounded : B.aboard = none) (line : B.line = x :: rest) :
    Kept { B with line := rest, aboard := some x } := by
  have same : ∀ y, Books.waits { B with line := rest, aboard := some x } y = B.waits y := fun y => by
    simp only [waits, line, grounded, List.count_append, List.count_cons, Option.toList, List.count_nil]
    omega
  have order := b.queued.sorted
  have owned := b.queued.owned
  rw [line] at order owned
  obtain ⟨first, order⟩ := List.pairwise_cons.mp order
  obtain ⟨r, mem_r, -, clip⟩ := owned x (by simp)
  refine ⟨⟨b.numbered.few, b.numbered.order, b.numbered.range, b.numbered.below⟩, ⟨b.staged.idle, b.staged.drainIdle,
    b.staged.opened, b.staged.closing, b.staged.closed, b.staged.drains⟩, ⟨fun y mem => owned y ?_, order, ?_⟩,
    ⟨fun q mem live => ?_, fun q mem live => ?_, b.accounted.formed⟩⟩
  · simp only [Option.toList, List.mem_append, List.mem_cons, List.not_mem_nil, or_false] at mem ⊢
    tauto
  · intro y own q mem live
    cases own
    rw [clip]
    exact b.head_lowest calm grounded line mem_r clip q mem live
  · rw [same]; exact b.accounted.data q mem live
  · rw [same]; exact b.accounted.trailers q mem live

/-- A write that is given up returns its slot to the head (R77). -/
theorem Kept.back (b : B.Kept) (aboard : B.aboard = some x) : Kept { B with line := x :: B.line, aboard := none } := by
  have same : ∀ y, Books.waits { B with line := x :: B.line, aboard := none } y = B.waits y := fun y => by
    simp only [waits, aboard, List.count_append, List.count_cons, Option.toList, List.count_nil]
    omega
  have owned := b.queued.owned
  rw [aboard] at owned
  refine ⟨⟨b.numbered.few, b.numbered.order, b.numbered.range, b.numbered.below⟩, ⟨b.staged.idle, b.staged.drainIdle,
    b.staged.opened, b.staged.closing, b.staged.closed, b.staged.drains⟩,
    ⟨fun y mem => owned y ?_, List.pairwise_cons.mpr ⟨fun y mem => ?_, b.queued.sorted⟩, nofun⟩,
    ⟨fun q mem live => ?_, fun q mem live => ?_, b.accounted.formed⟩⟩
  · simp only [Option.toList, List.mem_append, List.mem_cons, List.not_mem_nil, or_false] at mem ⊢
    tauto
  · obtain ⟨r, mem_r, live, clip⟩ := owned y (List.mem_append_left _ mem)
    rw [clip]
    exact b.queued.lowest x aboard r mem_r live
  · rw [same]; exact b.accounted.data q mem live
  · rw [same]; exact b.accounted.trailers q mem live

/-- A slot lands: the write in flight ends with it (R113). -/
def land (B : Books) (k : Nat) (f : Account → Account) : Books := { B.edit k f with aboard := none }

theorem waits_aboard (aboard : B.aboard = some x) (y : Entry) :
    B.line.count y + (if x = y then 1 else 0) = B.waits y := by
  simp [waits, aboard, List.count_append, List.count_cons]

theorem Kept.land (b : B.Kept) (aboard : B.aboard = some (some k, false))
    (room : ∀ r ∈ B.clips, r.live → r.slotCount < lim32) : (B.land k Ledger.writtenOne).Kept := by
  have unique := @b.numbered.unique
  have numbered : (B.edit k Ledger.writtenOne).Numbered := b.numbered.edit (opened := fun _ e => ⟨e, rfl⟩)
  have staged : (B.edit k Ledger.writtenOne).Staged := b.staged.edit
  have queued : (B.edit k Ledger.writtenOne).Queued := b.queued.edit (live := fun _ => Iff.rfl)
  have count := waits_aboard aboard
  refine ⟨⟨numbered.few, numbered.order, numbered.range, numbered.below⟩, ⟨staged.idle, staged.drainIdle, staged.opened,
    staged.closing, staged.closed, staged.drains⟩,
    ⟨fun x mem => queued.owned x (List.mem_append_left _ (by simpa [Books.land] using mem)), queued.sorted, nofun⟩,
    ⟨?_, ?_, ?_⟩⟩
  · simp only [Books.land, Books.edit, waits, List.forall_mem_map, Option.toList, List.append_nil]
    intro r mem live
    have := b.accounted.data r mem
    have := room r mem
    have := count (some r.number, false)
    unfold Account.upd at *
    grind [Ledger.writtenOne, Account.live]
  · simp only [Books.land, Books.edit, waits, List.forall_mem_map, Option.toList, List.append_nil]
    intro r mem live
    have := b.accounted.trailers r mem
    have := count (some r.number, true)
    unfold Account.upd at *
    grind [Ledger.writtenOne, Account.live]
  · simp only [Books.land, Books.edit, List.forall_mem_map]
    intro r mem live formed
    have := b.accounted.formed r mem
    have := b.accounted.data r mem
    have := count (some r.number, false)
    unfold Account.upd at *
    grind [Ledger.writtenOne, Account.live]

/-- The trailer of the lowest live clip is written: the clip is CLOSED (R134). -/
def shut (f : Nat) (r : Account) : Account := { r with position := some f, state := .closed }

theorem Kept.close (b : B.Kept) (n : Nat) (aboard : B.aboard = some (some k, true)) : (B.land k (shut n)).Kept := by
  have unique := @b.numbered.unique
  have numbered : (B.edit k (shut n)).Numbered := b.numbered.edit (opened := nofun)
  have count := waits_aboard aboard
  have owned := b.queued.owned
  rw [aboard] at owned
  obtain ⟨r0, mem0, live0, number0⟩ := owned (some k, true) (by simp)
  cases number0
  have trailer0 := b.accounted.trailers r0 mem0 live0
  have data0 := b.accounted.data r0 mem0 live0
  have formed0 : r0.formed = true := by
    have := count (some r0.number, true)
    by_contra not_formed
    simp [trailer0, not_formed] at this
  obtain ⟨closing0, done0, all0, lowest0⟩ := b.accounted.formed r0 mem0 live0 formed0
  have idle := b.staged.idle
  refine ⟨⟨numbered.few, numbered.order, numbered.range, numbered.below⟩, ⟨?_, b.staged.drainIdle, ?_, ?_, ?_, ?_⟩,
    ⟨?_, b.queued.sorted, nofun⟩, ⟨?_, ?_, ?_⟩⟩ <;>
    simp only [Books.land, Books.edit, waits, List.forall_mem_map, exists_mem_map, Option.toList, List.append_nil]
  · unfold Account.upd
    grind [shut]
  · have := b.staged.opened
    unfold Account.upd
    grind [shut]
  · have := b.staged.closing
    unfold Account.upd
    grind [shut]
  · have := b.staged.closed
    unfold Account.upd
    grind [shut, Account.live]
  · intro k drain
    obtain ⟨r, mem, closing, number, latest⟩ := b.staged.drains k drain
    have := b.staged.closing r mem closing
    refine ⟨r, mem, ?_⟩
    unfold Account.upd
    grind [shut]
  · intro x mem
    obtain ⟨r, mem_r, live, clip⟩ := owned x (List.mem_append_left _ mem)
    have data := count (some r0.number, false)
    have trailers := count (some r0.number, true)
    have other : r.number ≠ r0.number := by
      intro same
      obtain ⟨clip_x, kind⟩ := x
      cases kind <;> grind
    refine ⟨r, mem_r, ?_⟩
    unfold Account.upd
    grind
  · intro r mem live
    have := b.accounted.data r mem
    have := count (some r.number, false)
    unfold Account.upd at *
    grind [shut, Account.live]
  · intro r mem live
    have := b.accounted.trailers r mem
    have := count (some r.number, true)
    unfold Account.upd at *
    grind [shut, Account.live]
  · intro r mem live formed
    have := b.accounted.formed r mem
    unfold Account.upd at *
    grind [shut, Account.live]

/-! ### A clip opens (R123, R126) -/

def opens (B : Books) (k : Nat) : Books :=
  { B with clips := Ledger.kept B.clips ++ [⟨k, .opened, 0, 0, false, false, none⟩], next := numberAfter k }

theorem kept_sublist (clips : List Account) : (Ledger.kept clips).Sublist clips := by
  unfold Ledger.kept; split
  · exact List.eraseP_sublist
  · exact List.Sublist.refl _

/-- A live clip's record is not removed (R123). -/
theorem mem_kept {clips : List Account} (mem : r ∈ clips) (live : r.live) : r ∈ Ledger.kept clips := by
  unfold Ledger.kept; split
  · refine (List.mem_eraseP_of_neg ?_).mpr mem
    rcases live with e | e <;> simp [e]
  · exact mem

theorem Numbered.opens (h : B.Numbered) (next : B.next = some k)
    (room : B.clips.length < 4 ∨ ∃ r ∈ B.clips, r.state = .closed ∨ r.state = .aborted) : (B.opens k).Numbered := by
  have sub := kept_sublist B.clips
  obtain ⟨low, high, later⟩ := h.below k next
  refine ⟨?_, ?_, ?_, ?_⟩
  · have few := h.few
    simp only [Books.opens, List.length_append, List.length_singleton]
    unfold Ledger.kept; split
    · next full =>
      obtain ⟨r, mem, ended⟩ := room.resolve_left (by omega)
      rw [List.length_eraseP_of_mem mem (by simpa using ended)]
      omega
    · omega
  · refine List.pairwise_append.mpr ⟨h.order.sublist sub, List.pairwise_singleton _ _, fun r mem q new => ?_⟩
    cases List.mem_singleton.mp new
    exact later r (sub.subset mem)
  · intro r mem
    rcases List.mem_append.mp mem with old | new
    · exact h.range r (sub.subset old)
    · cases List.mem_singleton.mp new
      exact ⟨low, high, fun _ => rfl⟩
  · intro m after
    obtain ⟨below, rfl⟩ : k < lim32 ∧ k + 1 = m := by simpa [Books.opens, numberAfter] using after
    refine ⟨by omega, by omega, fun r mem => ?_⟩
    rcases List.mem_append.mp mem with old | new
    · exact Nat.lt_succ_of_lt (later r (sub.subset old))
    · cases List.mem_singleton.mp new
      exact Nat.lt_succ_self k

/-- The books when a clip opens and the mode is RECORDING (R126, R130). -/
def start (B : Books) (k : Nat) : Books := { B.opens k with mode := .recording }

theorem mem_opens : r ∈ (B.start k).clips ↔ r ∈ Ledger.kept B.clips ∨ r = ⟨k, .opened, 0, 0, false, false, none⟩ := by
  simp [start, opens]

/-- No slot waits for a clip that the table does not hold. -/
theorem Queued.unlisted (h : B.Queued) (out : ∀ r ∈ B.clips, r.number ≠ k) (t : Bool) : B.waits (some k, t) = 0 := by
  refine List.count_eq_zero.mpr fun mem => ?_
  obtain ⟨r, mem_r, -, clip⟩ := h.owned _ mem
  exact out r mem_r (Option.some.inj clip).symm

theorem Kept.start (b : B.Kept) (unopened : ∀ r ∈ B.clips, r.state ≠ .opened) (undrained : B.drain = none)
    (next : B.next = some k) (room : B.clips.length < 4 ∨ ∃ r ∈ B.clips, r.state = .closed ∨ r.state = .aborted) :
    (B.start k).Kept := by
  have numbered := b.numbered.opens next room
  obtain ⟨-, -, later⟩ := b.numbered.below k next
  have sub : ∀ r ∈ Ledger.kept B.clips, r ∈ B.clips := fun r mem => (kept_sublist B.clips).subset mem
  have fresh := b.queued.unlisted fun r mem => Nat.ne_of_lt (later r mem)
  have waits : ∀ x, (B.start k).waits x = B.waits x := fun _ => rfl
  refine ⟨⟨numbered.few, numbered.order, numbered.range, numbered.below⟩,
    ⟨fun h => absurd rfl h, fun h => absurd undrained h, ?_, ?_, ?_, ?_⟩, ⟨?_, b.queued.sorted, ?_⟩, ⟨?_, ?_, ?_⟩⟩
  · rintro r mem opened
    rcases mem_opens.mp mem with old | rfl
    · exact absurd opened (unopened r (sub r old))
    · refine ⟨rfl, fun q mem_q => ?_⟩
      rcases mem_opens.mp mem_q with old | rfl
      · exact Nat.le_of_lt (later q (sub q old))
      · exact le_refl k
  · rintro r mem closing
    rcases mem_opens.mp mem with old | rfl
    · exact b.staged.closing r (sub r old) closing
    · cases closing
  · rintro r mem closed q mem_q live
    rcases mem_opens.mp mem with old | rfl
    · rcases mem_opens.mp mem_q with old_q | rfl
      · exact b.staged.closed r (sub r old) closed q (sub q old_q) live
      · exact later r (sub r old)
    · cases closed
  · intro d drain
    rw [show (B.start k).drain = B.drain from rfl, undrained] at drain
    cases drain
  · intro x mem
    obtain ⟨r, mem_r, live, clip⟩ := b.queued.owned x mem
    exact ⟨r, mem_opens.mpr (.inl (mem_kept mem_r live)), live, clip⟩
  · rintro x aboard r mem live
    rcases mem_opens.mp mem with old | rfl
    · exact b.queued.lowest x aboard r (sub r old) live
    · obtain ⟨q, mem_q, -, clip⟩ := b.queued.owned x (by simp [show B.aboard = some x from aboard])
      rw [clip]
      exact Nat.le_of_lt (later q mem_q)
  · rintro r mem live
    rcases mem_opens.mp mem with old | rfl
    · exact b.accounted.data r (sub r old) live
    · rw [waits, fresh]
      rfl
  · rintro r mem live
    rcases mem_opens.mp mem with old | rfl
    · exact b.accounted.trailers r (sub r old) live
    · rw [waits, fresh]
      rfl
  · rintro r mem live formed
    rcases mem_opens.mp mem with old | rfl
    · obtain ⟨closing, done, all, lowest⟩ := b.accounted.formed r (sub r old) live formed
      refine ⟨closing, done, all, fun q mem_q live_q => ?_⟩
      rcases mem_opens.mp mem_q with old_q | rfl
      · exact lowest q (sub q old_q) live_q
      · exact Nat.le_of_lt (later r (sub r old))
    · cases formed

theorem Calm.start (calm : B.Calm) : (B.start k).Calm := by
  rintro r mem closing least
  rcases mem_opens.mp mem with old | rfl
  · refine calm r ((kept_sublist B.clips).subset old) closing fun q mem_q closing_q => ?_
    exact least q (mem_opens.mpr (.inl (mem_kept mem_q (.inr closing_q)))) closing_q
  · cases closing

/-! ### A clip ends (R128 to R131, R136) -/

/-- The OPEN clip becomes CLOSING, and its drain runs (R128). -/
def stop (B : Books) (k : Nat) : Books :=
  { B.edit k (fun r => { r with state := .closing }) with mode := .idle, drain := some k }

/-- The OPEN clip is the only one, and none drains (R121). -/
theorem Kept.open_alone (b : B.Kept) (mode : B.mode = .recording) (mem : c ∈ B.clips) (opened : c.state = .opened) :
    B.drain = none ∧ (∀ r ∈ B.clips, r.state = .opened → r = c) ∧ c.formed = false ∧ c.dataDone = false ∧
      ∀ q ∈ B.clips, q.number ≤ c.number := by
  obtain ⟨undone, latest⟩ := b.staged.opened c mem opened
  refine ⟨?_, fun r mem_r opened_r => ?_, ?_, undone, latest⟩
  · by_contra drain
    have := b.staged.drainIdle drain
    rw [mode] at this
    cases this
  · exact b.numbered.unique mem_r mem (Nat.le_antisymm (latest r mem_r) ((b.staged.opened r mem_r opened_r).2 c mem))
  · cases formed : c.formed with
    | false => rfl
    | true => simp [(b.accounted.formed c mem (.inl opened) formed).2.1] at undone

theorem Kept.stop (b : B.Kept) (mode : B.mode = .recording) (mem : c ∈ B.clips) (opened : c.state = .opened) :
    (B.stop c.number).Kept := by
  obtain ⟨undrained, alone, unformed, undone, latest⟩ := b.open_alone mode mem opened
  have unique := @b.numbered.unique
  have numbered : (B.edit c.number (fun r => { r with state := .closing })).Numbered := b.numbered.edit (opened := nofun)
  refine ⟨⟨numbered.few, numbered.order, numbered.range, numbered.below⟩, ⟨?_, fun _ => rfl, ?_, ?_, ?_, ?_⟩,
    ⟨?_, b.queued.sorted, ?_⟩, ⟨?_, ?_, ?_⟩⟩ <;>
    simp only [Books.stop, Books.edit, waits, List.forall_mem_map, exists_mem_map]
  · unfold Account.upd
    grind
  · unfold Account.upd
    grind
  · have := b.staged.closing
    unfold Account.upd
    grind
  · have := b.staged.closed
    unfold Account.upd
    grind [Account.live]
  · rintro _ ⟨rfl⟩
    refine ⟨c, mem, ?_⟩
    unfold Account.upd
    grind
  · intro x mem
    obtain ⟨r, mem_r, live, clip⟩ := b.queued.owned x mem
    refine ⟨r, mem_r, ?_⟩
    unfold Account.upd
    grind [Account.live]
  · have := b.queued.lowest
    unfold Account.upd
    grind [Account.live]
  · intro r mem live
    have := b.accounted.data r mem
    simp only [waits] at this
    unfold Account.upd at *
    grind [Account.live]
  · intro r mem live
    have := b.accounted.trailers r mem
    simp only [waits] at this
    unfold Account.upd at *
    grind [Account.live]
  · intro r mem live
    have := b.accounted.formed r mem
    unfold Account.upd at *
    grind [Account.live]

theorem Kept.stop_calm (b : B.Kept) (calm : B.Calm) (mode : B.mode = .recording) (mem : c ∈ B.clips)
    (opened : c.state = .opened) : (B.stop c.number).Calm := by
  obtain ⟨-, -, -, undone, latest⟩ := b.open_alone mode mem opened
  have unique := @b.numbered.unique
  simp only [Calm, Books.stop, Books.edit, List.forall_mem_map]
  intro r mem_r closing least
  have := calm r mem_r
  unfold Account.upd at *
  grind [Account.ready]

/-- The data of the clip of the drain is done (R129). -/
def finish (B : Books) (k : Nat) : Books := { B.edit k (fun r => { r with dataDone := true }) with drain := none }

theorem Kept.finish (b : B.Kept) (drain : B.drain = some k) : (B.finish k).Kept := by
  have unique := @b.numbered.unique
  have numbered : (B.edit k (fun r => { r with dataDone := true })).Numbered :=
    b.numbered.edit (opened := fun _ e => ⟨e, rfl⟩)
  have queued : (B.edit k (fun r => { r with dataDone := true })).Queued := b.queued.edit (live := fun _ => Iff.rfl)
  have mode := b.staged.drainIdle (by simp [drain])
  have unopened := b.staged.idle (by simp [mode])
  refine ⟨⟨numbered.few, numbered.order, numbered.range, numbered.below⟩, ⟨?_, fun h => absurd rfl h, ?_, ?_, ?_, nofun⟩,
    ⟨queued.owned, queued.sorted, queued.lowest⟩, ⟨?_, ?_, ?_⟩⟩ <;>
    simp only [Books.finish, Books.edit, waits, List.forall_mem_map]
  · unfold Account.upd
    grind
  · unfold Account.upd
    grind
  · have := b.staged.closing
    unfold Account.upd
    grind
  · have := b.staged.closed
    unfold Account.upd
    grind [Account.live]
  · intro r mem live
    have := b.accounted.data r mem
    simp only [waits] at this
    unfold Account.upd at *
    grind [Account.live]
  · intro r mem live
    have := b.accounted.trailers r mem
    simp only [waits] at this
    unfold Account.upd at *
    grind [Account.live]
  · intro r mem live
    have := b.accounted.formed r mem
    unfold Account.upd at *
    grind [Account.live]

/-- The OPEN clip ends by a split (R130, R131). -/
def part (B : Books) (k : Nat) : Books := B.edit k (fun r => { r with state := .closing, dataDone := true })

theorem Kept.part (b : B.Kept) (mode : B.mode = .recording) (mem : c ∈ B.clips) (opened : c.state = .opened) :
    (B.part c.number).Kept ∧ (∀ r ∈ (B.part c.number).clips, r.state ≠ .opened) ∧ (B.part c.number).drain = none := by
  obtain ⟨undrained, alone, unformed, undone, latest⟩ := b.open_alone mode mem opened
  have unique := @b.numbered.unique
  have numbered : (B.edit c.number (fun r => { r with state := .closing, dataDone := true })).Numbered :=
    b.numbered.edit (opened := nofun)
  refine ⟨⟨numbered, ⟨fun h => absurd mode h, fun h => absurd undrained h, ?_, ?_, ?_, ?_⟩, ⟨?_, b.queued.sorted, ?_⟩,
    ⟨?_, ?_, ?_⟩⟩, ?_, undrained⟩ <;>
    simp only [Books.part, Books.edit, waits, List.forall_mem_map, exists_mem_map]
  · unfold Account.upd
    grind
  · have := b.staged.closing
    unfold Account.upd
    grind
  · have := b.staged.closed
    unfold Account.upd
    grind [Account.live]
  · simp [undrained]
  · intro x mem
    obtain ⟨r, mem_r, live, clip⟩ := b.queued.owned x mem
    refine ⟨r, mem_r, ?_⟩
    unfold Account.upd
    grind [Account.live]
  · have := b.queued.lowest
    unfold Account.upd
    grind [Account.live]
  · intro r mem live
    have := b.accounted.data r mem
    simp only [waits] at this
    unfold Account.upd at *
    grind [Account.live]
  · intro r mem live
    have := b.accounted.trailers r mem
    simp only [waits] at this
    unfold Account.upd at *
    grind [Account.live]
  · intro r mem live
    have := b.accounted.formed r mem
    unfold Account.upd at *
    grind [Account.live]
  · unfold Account.upd
    grind

/-- Where a slot of the clip waits its trailer is not due at the split (R131). -/
theorem Kept.part_calm (b : B.Kept) (calm : B.Calm) (mode : B.mode = .recording) (mem : c ∈ B.clips)
    (opened : c.state = .opened) (waits : 0 < B.waits (some c.number, false)) : (B.part c.number).Calm := by
  obtain ⟨-, -, -, -, latest⟩ := b.open_alone mode mem opened
  have unique := @b.numbered.unique
  have data := b.accounted.data c mem (.inl opened)
  simp only [Calm, Books.part, Books.edit, List.forall_mem_map]
  intro r mem_r closing least
  have := calm r mem_r
  unfold Account.upd at *
  grind [Account.ready]

/-! ### A clip is aborted (R135) -/

/-- The clip is ABORTED, its slots leave the queue, and its drain, if it runs, ends. -/
def abort (B : Books) (k : Nat) : Books := { B.edit k (fun r => { r with state := .aborted }) with
  line := B.line.filter (fun x => decide (x.1 ≠ some k)), drain := if B.drain = some k then none else B.drain }

theorem Kept.abort (b : B.Kept) (mem : c ∈ B.clips) (closing : c.state = .closing)
    (elsewhere : ∀ x, B.aboard = some x → x.1 ≠ some c.number) : (B.abort c.number).Kept := by
  have unique := @b.numbered.unique
  have numbered : (B.edit c.number (fun r => { r with state := .aborted })).Numbered := b.numbered.edit (opened := nofun)
  have waits_other : ∀ k t, k ≠ c.number → (B.abort c.number).waits (some k, t) = B.waits (some k, t) := by
    intro k t other
    simp only [waits, Books.abort, List.count_append]
    rw [List.count_filter (by simpa using other)]
    rfl
  refine ⟨⟨numbered.few, numbered.order, numbered.range, numbered.below⟩, ⟨?_, ?_, ?_, ?_, ?_, ?_⟩,
    ⟨?_, b.queued.sorted.filter _, ?_⟩, ⟨?_, ?_, ?_⟩⟩
  · have := b.staged.idle
    simp only [Books.abort, Books.edit, List.forall_mem_map]
    unfold Account.upd
    grind
  · have := b.staged.drainIdle
    simp only [Books.abort, Books.edit]
    grind
  · have := b.staged.opened
    simp only [Books.abort, Books.edit, List.forall_mem_map]
    unfold Account.upd
    grind
  · have := b.staged.closing
    simp only [Books.abort, Books.edit, List.forall_mem_map]
    unfold Account.upd
    grind
  · have := b.staged.closed
    simp only [Books.abort, Books.edit, List.forall_mem_map]
    unfold Account.upd
    grind [Account.live]
  · intro k drain
    have other : k ≠ c.number ∧ B.drain = some k := by
      simp only [Books.abort] at drain
      grind
    obtain ⟨r, mem_r, closing_r, number, latest⟩ := b.staged.drains k other.2
    simp only [Books.abort, Books.edit, List.forall_mem_map, exists_mem_map]
    refine ⟨r, mem_r, ?_⟩
    unfold Account.upd
    grind
  · intro x mem_x
    have own : x ∈ B.line ++ B.aboard.toList ∧ x.1 ≠ some c.number := by
      rcases List.mem_append.mp mem_x with waiting | flying
      · obtain ⟨waiting, other⟩ := List.mem_filter.mp waiting
        exact ⟨List.mem_append_left _ waiting, by simpa using other⟩
      · exact ⟨List.mem_append_right _ flying, elsewhere x (by simpa [Books.abort, Books.edit] using flying)⟩
    obtain ⟨r, mem_r, live, clip⟩ := b.queued.owned x own.1
    refine exists_mem_map.mpr ⟨r, mem_r, ?_⟩
    unfold Account.upd
    grind
  · have := b.queued.lowest
    simp only [Books.abort, Books.edit, List.forall_mem_map]
    unfold Account.upd
    grind [Account.live]
  · intro q mem_q live
    obtain ⟨r, mem_r, rfl⟩ := List.mem_map.mp mem_q
    have := b.accounted.data r mem_r
    have := waits_other r.number false
    unfold Account.upd at *
    grind [Account.live]
  · intro q mem_q live
    obtain ⟨r, mem_r, rfl⟩ := List.mem_map.mp mem_q
    have := b.accounted.trailers r mem_r
    have := waits_other r.number true
    unfold Account.upd at *
    grind [Account.live]
  · intro q mem_q live formed
    obtain ⟨r, mem_r, rfl⟩ := List.mem_map.mp mem_q
    have := b.accounted.formed r mem_r
    simp only [Books.abort, Books.edit, List.forall_mem_map]
    unfold Account.upd at *
    grind [Account.live]

/-- Where a trailer becomes due by an abort, a slot of the clip waited in the queue (R135). -/
theorem Kept.abort_calm (b : B.Kept) (calm : B.Calm) (mem : c ∈ B.clips) (closing : c.state = .closing)
    (elsewhere : ∀ x, B.aboard = some x → x.1 ≠ some c.number) (gives : ∀ x ∈ B.line, x.1 ≠ some c.number) :
    (B.abort c.number).Calm := by
  have unique := @b.numbered.unique
  have none_waits : ∀ t, B.waits (some c.number, t) = 0 := by
    refine fun t => List.count_eq_zero.mpr fun waiting => ?_
    rcases List.mem_append.mp waiting with line | flying
    · exact gives _ line rfl
    · exact elsewhere _ (by simpa using flying) rfl
  simp only [Calm, Books.abort, Books.edit, List.forall_mem_map]
  intro r mem_r closing_r least ready
  have state : r.number ≠ c.number ∧ r.state = .closing ∧ r.ready := by
    unfold Account.upd at closing_r ready
    grind
  obtain ⟨other, closing_r, ready⟩ := state
  by_cases before : r.number < c.number
  · refine calm r mem_r closing_r (fun q mem_q closing_q => ?_) ready
    have := least q mem_q
    unfold Account.upd at this
    grind
  · have later : B.drain ≠ some c.number := fun drain => by
      obtain ⟨-, -, -, -, latest⟩ := b.staged.drains _ drain
      have := latest r mem_r
      omega
    refine calm c mem closing (fun q mem_q closing_q => ?_) (b.ready_of_done mem closing none_waits later)
    have := least q mem_q
    unfold Account.upd at this
    grind

end Books
end Sys2Proof.Machine
end

section
/-!
The moves keep the tenth law while no SLOT COUNT of a live clip is at the end of its range (R122, R134).
-/
set_option Elab.async false

namespace Sys2Proof.Machine

namespace Ledger

variable {G : Prop} {L M N : Ledger} {n m k j : Nat} {c r : Account} {f : Account → Account}

/-- The books of a ledger. -/
def books (L : Ledger) : Books where
  line := L.queue.map (fun n => ((L.tag n).clip, (L.tag n).trailer))
  aboard := L.flight.map (fun n => ((L.tag n).clip, (L.tag n).trailer))
  clips := L.clips
  mode := L.mode
  next := L.next
  drain := L.drain

/-- A slot that is filled, in the ring or held is no trailer (R133). -/
def Plain (L : Ledger) : Prop := ∀ n, L.filling = some n ∨ n ∈ L.ring ∨ n ∈ L.held → (L.tag n).trailer = false

/-- The tenth law (R134) with no trailer due (R132). -/
structure Tenth (L : Ledger) : Prop where
  kept : L.books.Kept
  calm : L.books.Calm
  plain : L.Plain

/-! ### The books after a change of the ledger -/

/-- A change of slots that do not wait leaves the books as they are. -/
theorem books_of (tags : ∀ n, n ∈ L.queue ∨ L.flight = some n → M.tag n = L.tag n) (queue : M.queue = L.queue := by rfl)
    (flight : M.flight = L.flight := by rfl) (clips : M.clips = L.clips := by rfl) (mode : M.mode = L.mode := by rfl)
    (next : M.next = L.next := by rfl) (drain : M.drain = L.drain := by rfl) : M.books = L.books := by
  have line : M.books.line = L.books.line := by
    simp only [books, queue]
    exact List.map_congr_left fun n mem => by rw [tags n (.inl mem)]
  have aboard : M.books.aboard = L.books.aboard := by
    simp only [books, flight]
    cases own : L.flight with
    | none => rfl
    | some n => simp [tags n (.inr own)]
  exact Books.ext line aboard clips mode next drain

theorem tag_put (L : Ledger) (n m : Nat) (t : Option Tag) :
    (L.put n t).tag m = if m = n then t.getD ⟨.free, none, false⟩ else L.tag m := by
  simp only [tag, put]
  split <;> rfl

theorem Placed.unplaced (p : L.Placed) (free : L.slots n = none) :
    n ∉ L.queue ∧ L.flight ≠ some n ∧ L.filling ≠ some n ∧ n ∉ L.ring ∧ n ∉ L.held := by
  have := p.once n
  simp only [count_placed, free] at this
  grind

/-- The first of the clips with a property is the lowest of them (R122). -/
theorem find_least {p : Account → Bool} (order : L.clips.Pairwise (fun r q => r.number < q.number)) :
    L.clips.find? p = some c ↔ c ∈ L.clips ∧ p c = true ∧ ∀ q ∈ L.clips, p q = true → c.number ≤ q.number := by
  have first : ∀ d, L.clips.find? p = some d →
      d ∈ L.clips ∧ p d = true ∧ ∀ q ∈ L.clips, p q = true → d.number ≤ q.number := by
    intro d found
    obtain ⟨holds, as, bs, parts, before⟩ := List.find?_eq_some_iff_append.mp found
    refine ⟨List.mem_of_find?_eq_some found, holds, fun q mem own => ?_⟩
    rw [parts] at order mem
    obtain ⟨-, order, -⟩ := List.pairwise_append.mp order
    obtain ⟨later, -⟩ := List.pairwise_cons.mp order
    rcases List.mem_append.mp mem with early | late
    · have := before q early
      simp [own] at this
    · rcases List.mem_cons.mp late with rfl | late
      · exact le_refl _
      · exact Nat.le_of_lt (later q late)
  refine ⟨first c, fun ⟨mem, holds, least⟩ => ?_⟩
  cases found : L.clips.find? p with
  | none => simpa [holds] using List.find?_eq_none.mp found c mem
  | some d =>
    obtain ⟨mem_d, holds_d, least_d⟩ := first d found
    have same := Nat.le_antisymm (least_d c mem holds) (least d mem_d holds_d)
    rw [Account.unique order mem_d mem same]

/-- The trailer that is due is that of the lowest CLOSING clip (R132). -/
theorem due_eq_some (order : L.clips.Pairwise (fun r q => r.number < q.number)) : L.due = some c ↔
    c ∈ L.clips ∧ c.state = .closing ∧ (∀ q ∈ L.clips, q.state = .closing → c.number ≤ q.number) ∧ c.ready := by
  have found := find_least (p := fun r => decide (r.state = .closing)) (c := c) order
  simp only [decide_eq_true_eq] at found
  have splits : L.due = some c ↔ L.clips.find? (fun r => decide (r.state = .closing)) = some c ∧ c.ready := by
    unfold due Account.ready
    cases L.clips.find? (fun r => decide (r.state = .closing)) with
    | none => simp
    | some r =>
      by_cases ready : (r.dataDone && decide (r.written = r.slotCount) && !r.formed) = true
      · simp only [ready, if_true, Option.some.injEq]
        simp only [Bool.and_eq_true, decide_eq_true_eq, Bool.not_eq_true'] at ready
        exact ⟨fun e => ⟨e, e ▸ ⟨ready.1.1, ready.1.2, ready.2⟩⟩, fun h => h.1⟩
      · simp only [ready]
        simp only [Bool.and_eq_true, decide_eq_true_eq, Bool.not_eq_true'] at ready
        refine ⟨nofun, fun ⟨same, done, all, unformed⟩ => ?_⟩
        cases Option.some.inj same
        exact absurd ⟨⟨done, all⟩, unformed⟩ ready
  rw [splits, found]
  tauto

theorem due_eq_none (order : L.clips.Pairwise (fun r q => r.number < q.number)) : L.due = none ↔ L.books.Calm := by
  rw [Option.eq_none_iff_forall_ne_some]
  constructor
  · intro never r mem closing least ready
    exact never r ((due_eq_some order).mpr ⟨mem, closing, least, ready⟩)
  · intro calm r due
    obtain ⟨mem, closing, least, ready⟩ := (due_eq_some order).mp due
    exact calm r mem closing least ready

/-! ### The trailer test and a landing -/

theorem books_form (out : m ∉ L.queue ∧ L.flight ≠ some m) : (L.form c m).books = L.books.form c.number := by
  have tag : ∀ n, (L.form c m).tag n = if n = m then ⟨.queued, some c.number, true⟩ else L.tag n := fun n => by
    show (L.put m _).tag n = _
    rw [tag_put]
    rfl
  have line : (L.form c m).books.line = (L.books.form c.number).line := by
    simp only [books, form, Books.form, List.map_cons] at *
    rw [tag, if_pos rfl]
    refine congrArg (List.cons _) (List.map_congr_left fun n mem => ?_)
    rw [tag, if_neg fun same : n = m => out.1 (same ▸ mem)]
  have aboard : (L.form c m).books.aboard = (L.books.form c.number).aboard := by
    show L.flight.map _ = L.flight.map _
    cases own : L.flight with
    | none => rfl
    | some n =>
      have other : n ≠ m := fun same => out.2 (own.trans (congrArg some same))
      simp [tag, other]
  exact Books.ext line aboard rfl rfl rfl rfl

theorem Plain.form (plain : L.Plain) (out : L.filling ≠ some m ∧ m ∉ L.ring ∧ m ∉ L.held) : (L.form c m).Plain := by
  intro n place
  have other : n ≠ m := by
    rintro rfl
    rcases place with filling | ring | held
    · exact out.1 filling
    · exact out.2.1 ring
    · exact out.2.2 held
  have tag : (L.form c m).tag n = L.tag n := (tag_put L m n _).trans (if_neg other)
  rw [tag]
  exact plain n place

theorem Tested.tenth (h : L.Tested M) (p : L.Placed) (kept : L.books.Kept) (plain : L.Plain)
    (room : L.books.Calm ∨ ∃ m, m < 1024 ∧ L.slots m = none) : M.Tenth := by
  have order := kept.numbered.order
  cases h with
  | calm none_due => exact ⟨kept, (due_eq_none order).mp none_due, plain⟩
  | full taken =>
    refine ⟨kept, room.resolve_right fun ⟨m, low, free⟩ => taken m low free, plain⟩
  | formed c m due low free =>
    obtain ⟨mem, closing, least, ready⟩ := (due_eq_some order).mp due
    obtain ⟨queue, flight, filling, ring, held⟩ := p.unplaced free
    have books := books_form (c := c) ⟨queue, flight⟩
    exact ⟨books ▸ kept.form mem closing least ready, books ▸ kept.form_calm mem closing least, plain.form ⟨filling, ring, held⟩⟩

theorem Landed.tenth (h : L.Landed n M) (out : L.placed.count n = 0) (kept : L.books.Kept) (plain : L.Plain) : M.Tenth := by
  have order := kept.numbered.order
  simp only [count_placed] at out
  have unplaced : n ∉ L.queue ∧ L.flight ≠ some n ∧ L.filling ≠ some n ∧ n ∉ L.ring ∧ n ∉ L.held := by grind
  obtain ⟨queue, flight, filling, ring, held⟩ := unplaced
  cases h with
  | claimed c due =>
    obtain ⟨mem, closing, least, ready⟩ := (due_eq_some order).mp due
    have books := books_form (c := c) ⟨queue, flight⟩
    exact ⟨books ▸ kept.form mem closing least ready, books ▸ kept.form_calm mem closing least, plain.form ⟨filling, ring, held⟩⟩
  | freed due =>
    have same : (L.put n none).books = L.books := books_of fun m mem => by
      rw [tag_put, if_neg]
      rintro rfl
      exact mem.elim queue flight
    refine ⟨same ▸ kept, same ▸ (due_eq_none order).mp due, fun m place => ?_⟩
    rw [tag_put]
    split
    · rfl
    · exact plain m place

/-! ### A SLOT COUNT at the end of its range (R122) -/

/-- A live clip's SLOT COUNT is at the end of its range, where it stays. -/
def Worn (L : Ledger) : Prop := ∃ r ∈ L.clips, r.live ∧ lim32 ≤ r.slotCount

/-- A change that ends no clip and lowers no SLOT COUNT keeps the worn one. -/
theorem Worn.edit (h : L.Worn) (live : ∀ r, r.live → (f r).live := by exact fun _ => id)
    (count : ∀ r, lim32 ≤ r.slotCount → lim32 ≤ (f r).slotCount := by exact fun _ => id) : (L.edit k f).Worn := by
  obtain ⟨r, mem, lives, full⟩ := h
  refine ⟨_, List.mem_map_of_mem mem, ?_⟩
  split
  · exact ⟨live r lives, count r full⟩
  · exact ⟨lives, full⟩

theorem Worn.stamp (h : L.Worn) : (L.stamp n k).Worn :=
  Worn.edit (L := L) (k := k) (f := counted) h (count := fun r full => by simp only [counted]; omega)

theorem Worn.opens (h : L.Worn) : (L.opens k).Worn := by
  obtain ⟨r, mem, live, full⟩ := h
  exact ⟨r, List.mem_append_left _ (Books.mem_kept mem live), live, full⟩

theorem Worn.split (h : L.Worn) : (L.split k j).Worn :=
  Worn.opens (Worn.edit (k := k) h (live := fun _ _ => .inr rfl))

theorem Tested.worn (h : L.Tested M) (worn : L.Worn) : M.Worn := by
  cases h with
  | calm => exact worn
  | full => exact worn
  | formed c m => exact Worn.edit (L := L) (k := c.number) worn

theorem Landed.worn (h : L.Landed n M) (worn : L.Worn) : M.Worn := by
  cases h with
  | claimed c => exact Worn.edit (L := L) (k := c.number) worn
  | freed => exact worn

theorem Move.worn (h : Move G L M) (worn : L.Worn) : M.Worn := by
  cases h with
  | test _ tested => exact tested.worn worn
  | stamp n k => exact worn.stamp
  | start k => exact worn.opens
  | stampHeld n k => exact worn.stamp
  | stop k => exact Worn.edit (k := k) worn (live := fun _ _ => .inr rfl)
  | finish _ k _ _ _ tested => exact tested.worn (Worn.edit (k := k) worn)
  | stampSplit n k j => exact worn.stamp.split
  | split _ _ k j _ _ _ _ _ _ first tested =>
    rcases first with rfl | ⟨n, -, -, rfl⟩
    · exact tested.worn worn.split
    · exact tested.worn (Worn.split (k := k) (j := j) worn)
  | land _ n _ _ _ landed =>
    exact landed.worn (Worn.edit (k := L.clipOf n) (f := writtenOne) worn)
  | fill | hold | drop | join | free | disarm | arm | resize | take | back | lose => exact worn

/-! ### The moves -/

/-- With no slot at any place none is in use. -/
theorem unused (named : L.Named) (written : L.Written) (filling : L.filling = none) (ring : L.ring = []) (queue : L.queue = [])
    (flight : L.flight = none) (held : L.held = []) (n : Nat) : L.slots n = none := by
  cases own : L.slots n with
  | none => rfl
  | some t =>
    obtain ⟨-, -, -, -, place⟩ := named n t own
    obtain ⟨used, filled, ringed, queued⟩ := place (by simp [held])
    have flies := written n t own (by simp [held])
    cases state : t.state <;> simp_all

theorem books_stamp (out : n ∉ L.queue ∧ L.flight ≠ some n) (plain : (L.tag n).trailer = false) :
    (L.stamp n k).books = L.books.stamp k := by
  have tag : ∀ m, (L.stamp n k).tag m = if m = n then ⟨.queued, some k, (L.tag n).trailer⟩ else L.tag m := fun m => by
    show (L.put n _).tag m = _
    rw [tag_put]
    rfl
  have line : (L.stamp n k).books.line = (L.books.stamp k).line := by
    show (L.queue ++ [n]).map (fun m => (((L.stamp n k).tag m).clip, ((L.stamp n k).tag m).trailer)) =
      L.queue.map (fun m => ((L.tag m).clip, (L.tag m).trailer)) ++ [(some k, false)]
    rw [List.map_append, List.map_singleton, tag, if_pos rfl, plain]
    refine congrArg (· ++ _) (List.map_congr_left fun m mem => ?_)
    rw [tag, if_neg fun same : m = n => out.1 (same ▸ mem)]
  have aboard : (L.stamp n k).books.aboard = (L.books.stamp k).aboard := by
    show L.flight.map _ = L.flight.map _
    cases own : L.flight with
    | none => rfl
    | some m =>
      have other : m ≠ n := fun same => out.2 (own.trans (congrArg some same))
      simp [tag, other]
  exact Books.ext line aboard rfl rfl rfl rfl

/-- A slot that is stamped is at no place of the card's, and its tag no trailer's. -/
theorem Tenth.stamp (t : L.Tenth) (place : L.filling = some n ∨ n ∈ L.held) (p : L.Placed)
    (receives : L.books.receives k) (fresh : ¬L.Worn) :
    (L.stamp n k).books = L.books.stamp k ∧ (L.books.stamp k).Kept ∧ (L.books.stamp k).Calm ∧
      n ∉ L.queue ∧ L.flight ≠ some n := by
  have once := p.once n
  simp only [count_placed] at once
  have out : n ∉ L.queue ∧ L.flight ≠ some n := by grind
  have room : ∀ r ∈ L.books.clips, r.live → r.slotCount < lim32 := fun r mem live => by
    by_contra full
    exact fresh ⟨r, mem, live, Nat.le_of_not_lt full⟩
  exact ⟨books_stamp out (t.plain n (by tauto)), t.kept.stamp receives room, t.kept.stamp_calm t.calm receives, out⟩

/-- The tags of a stamped slot's neighbours stay. -/
theorem tag_stamp (other : m ≠ n) : (L.stamp n k).tag m = L.tag m := (tag_put L n m _).trans (if_neg other)

/-- Changes of slots that do not wait, and of places that the books do not list, keep the law. -/
theorem Tenth.of (t : L.Tenth) (books : M.books = L.books) (plain : M.Plain) : M.Tenth :=
  ⟨books ▸ t.kept, books ▸ t.calm, plain⟩

/-- A FREE slot becomes FILLING. -/
theorem books_fill (p : L.Placed) (free : L.slots n = none) : (L.fill n).books = L.books :=
  books_of fun m place => (tag_put L n m _).trans (if_neg fun same : m = n => by
    obtain ⟨queue, flight, -⟩ := p.unplaced free
    subst same
    exact place.elim queue flight)

theorem Plain.fill (plain : L.Plain) : (L.fill n).Plain := by
  intro m place
  have tag : (L.fill n).tag m = if m = n then ⟨.filling, none, false⟩ else L.tag m := tag_put L n m _
  rw [tag]
  split
  · rfl
  · next other =>
    refine plain m (place.imp_left fun filling => absurd ?_ other)
    exact (Option.some.inj filling).symm

/-- What a split needs of the record table leaves room for the new clip (R123). -/
theorem split_room (kept : L.books.Kept) (mode : L.mode = .recording) (isOpen : L.isOpen k) (roomy : L.roomy) :
    (L.books.part k).clips.length < 4 ∨ ∃ r ∈ (L.books.part k).clips, r.state = .closed ∨ r.state = .aborted := by
  obtain ⟨c, mem, rfl, opened⟩ := isOpen
  obtain ⟨-, alone, -⟩ := kept.open_alone (B := L.books) mode mem opened
  have ended : ∀ r ∈ L.clips, r.state = .closed ∨ r.state = .aborted →
      ∃ q ∈ (L.books.part c.number).clips, q.state = .closed ∨ q.state = .aborted := by
    intro r mem_r ended_
    refine ⟨_, List.mem_map_of_mem mem_r, ?_⟩
    have other : r.number ≠ c.number := fun same => by
      rw [kept.numbered.unique mem_r mem same, opened] at ended_
      simp at ended_
    rwa [Account.upd, if_neg other]
  have few := kept.numbered.few
  rcases roomy with short | ⟨r, mem_r, ended_⟩ | unended
  · exact .inl (by simpa [Books.part, Books.edit, books] using short)
  · exact .inr (ended r mem_r ended_)
  · by_cases short : L.clips.length < 4
    · exact .inl (by simpa [Books.part, Books.edit, books] using short)
    · have another : ∃ r ∈ L.clips, r ≠ c := by
        by_contra only
        push Not at only
        have := kept.numbered.order
        rcases clips : L.clips with _ | ⟨a, _ | ⟨d, rest⟩⟩
        · simp [clips] at short
        · simp [clips] at short
        · have first := only a (by simp [clips])
          have second := only d (by simp [clips])
          simp [books, clips, first, second] at this
      obtain ⟨r, mem_r, other⟩ := another
      refine .inr (ended r mem_r ?_)
      have := unended r mem_r
      have := fun o => other (alone r mem_r o)
      cases state : r.state <;> simp_all

theorem books_split (mode : L.mode = .recording) : (L.split k j).books = (L.books.part k).start j :=
  Books.ext rfl rfl rfl mode rfl rfl

theorem isOpen_stamp (isOpen : L.isOpen k) : (L.stamp n k).isOpen k := by
  obtain ⟨c, mem, rfl, opened⟩ := isOpen
  refine ⟨_, List.mem_map_of_mem mem, ?_⟩
  rw [if_pos rfl]
  exact ⟨rfl, opened⟩

theorem roomy_stamp (roomy : L.roomy) : (L.stamp n k).roomy := by
  have state := Account.upd_of (k := k) (f := counted) (·.state) fun _ => rfl
  rcases roomy with short | ⟨r, mem, ended⟩ | unended
  · exact .inl (by simpa [stamp, edit, put] using short)
  · exact .inr (.inl ⟨r.upd k counted, List.mem_map_of_mem mem, by rwa [state]⟩)
  · refine .inr (.inr (List.forall_mem_map.mpr fun r mem closing => unended r mem ?_))
    exact (state r).symm.trans closing

/-- The books after a split (R130, R131). -/
theorem split_kept (kept : L.books.Kept) (mode : L.mode = .recording) (isOpen : L.isOpen k) (roomy : L.roomy)
    (next : L.next = some j) : (L.split k j).books.Kept := by
  have room := split_room kept mode isOpen roomy
  obtain ⟨c, mem, rfl, opened⟩ := isOpen
  obtain ⟨parted, unopened, undrained⟩ := kept.part (B := L.books) mode mem opened
  rw [books_split mode]
  exact parted.start unopened undrained next room

/-- With no live clip no slot waits. -/
theorem flight_of_ended (kept : L.books.Kept) (ended : ∀ r ∈ L.clips, ¬r.live) : L.flight = none := by
  cases own : L.flight with
  | none => rfl
  | some n =>
    obtain ⟨r, mem, live, -⟩ := kept.queued.owned ((L.tag n).clip, (L.tag n).trailer) (by simp [books, own])
    exact absurd live (ended r mem)

/-- The clip and the books of a slot that lands. -/
theorem books_land (kept : L.books.Kept) (flight : L.flight = some n) :
    L.books.aboard = some (some (L.clipOf n), (L.tag n).trailer) ∧
      ({ L.edit (L.clipOf n) f with flight := none } : Ledger).books = L.books.land (L.clipOf n) f := by
  obtain ⟨r, mem, -, owner⟩ := kept.queued.owned ((L.tag n).clip, (L.tag n).trailer) (by simp [books, flight])
  refine ⟨?_, rfl⟩
  have owner : (L.tag n).clip = some r.number := owner
  simp [books, flight, clipOf, owner]

/-- A change of the mode between IDLE and ARMED (R124, R125). -/
theorem kept_mode {B : Books} {mode : Mode} (kept : B.Kept) (old : B.mode ≠ .recording) (undrained : B.drain = none) :
    Books.Kept { B with mode := mode } :=
  ⟨⟨kept.numbered.few, kept.numbered.order, kept.numbered.range, kept.numbered.below⟩,
    ⟨fun _ => kept.staged.idle old, fun h => absurd undrained h, kept.staged.opened, kept.staged.closing, kept.staged.closed,
      kept.staged.drains⟩, ⟨kept.queued.owned, kept.queued.sorted, kept.queued.lowest⟩,
    ⟨kept.accounted.data, kept.accounted.trailers, kept.accounted.formed⟩⟩

/-- No slot waits where the only live clip has its data written and no trailer. -/
theorem no_entries {B : Books} (kept : B.Kept) (alone : ∀ r ∈ B.clips, r.live → r.number = c.number) (mem : c ∈ B.clips)
    (live : c.live) (data : B.waits (some c.number, false) = 0) (unformed : c.formed = false) :
    B.line ++ B.aboard.toList = [] := by
  have trailers := kept.accounted.trailers c mem live
  rw [List.eq_nil_iff_forall_not_mem]
  rintro ⟨clip, kind⟩ waits
  obtain ⟨r, mem_r, live_r, owner⟩ := kept.queued.owned _ waits
  have counted := List.count_pos_iff.mpr waits
  dsimp only at owner
  rw [owner, alone r mem_r live_r] at counted
  simp only [Books.waits] at data trailers
  cases kind with
  | true => simp [trailers, unformed] at counted
  | false => omega

/-- A change of a slot's state leaves what the books read of it. -/
theorem entry_put (state : SlotState) : ((L.put n (some { L.tag n with state := state })).tag m).clip = (L.tag m).clip ∧
    ((L.put n (some { L.tag n with state := state })).tag m).trailer = (L.tag m).trailer := by
  rw [tag_put]
  split
  · next same => rw [same]; exact ⟨rfl, rfl⟩
  · exact ⟨rfl, rfl⟩

/-- Where a trailer is due when a drain ends, no slot waits any more (R129, R132). -/
theorem finish_empty {B : Books} (kept : B.Kept) (calm : B.Calm) (drain : B.drain = some k) (due : ¬(B.finish k).Calm) :
    B.line ++ B.aboard.toList = [] := by
  have mode := kept.staged.drainIdle (by simp [drain])
  obtain ⟨d, mem_d, closing_d, rfl, latest⟩ := kept.staged.drains k drain
  -- the clip of the drain is the lowest live one, and its data is written
  have alone : (∀ q ∈ B.clips, q.state = .closing → d.number ≤ q.number) ∧ d.written = d.slotCount ∧ d.formed = false := by
    simp only [Books.Calm, Books.finish, Books.edit, List.forall_mem_map, not_forall, not_not] at due
    obtain ⟨r, mem, closing, least, ready⟩ := due
    have unique := @kept.numbered.unique
    have := calm r mem
    unfold Account.upd at closing least ready
    by_cases same : r.number = d.number
    · cases unique mem mem_d same
      simp only [if_true, Account.ready] at closing least ready
      exact ⟨fun q mem_q closing_q => by have := least q mem_q; grind, ready.2⟩
    · simp only [same, if_false] at closing least ready
      exact absurd ready (this closing fun q mem_q closing_q => by have := least q mem_q; grind)
  obtain ⟨least, all, unformed⟩ := alone
  have data := kept.accounted.data d mem_d (.inr closing_d)
  refine no_entries kept (fun r mem_r live => ?_) mem_d (.inr closing_d) (by omega) unformed
  have closing_r : r.state = .closing := live.resolve_left (kept.staged.idle (by simp [mode]) r mem_r)
  exact Nat.le_antisymm (latest r mem_r) (least r mem_r closing_r)

theorem tag_erase (L : Ledger) (ns : List Nat) (m : Nat) :
    (L.erase ns).tag m = if m ∈ ns then ⟨.free, none, false⟩ else L.tag m := by
  simp only [Ledger.tag, erase]
  split <;> rfl

/-! ### The laws after each longer move -/

/-- The FILLING slot closes for the clip that a split ends (R130, R131). -/
theorem Tenth.stampSplit (t : L.Tenth) (p : L.Placed) (fresh : ¬L.Worn) (filling : L.filling = some n)
    (mode : L.mode = .recording) (isOpen : L.isOpen k) (next : L.next = some j) (roomy : L.roomy) :
    Tenth { (L.stamp n k).split k j with filling := none } := by
  have once := p.once
  simp only [count_placed] at once
  obtain ⟨books, kept, calm, -⟩ := t.stamp (.inl filling) p (.inl ⟨mode, isOpen⟩) fresh
  have waits : 0 < (L.books.stamp k).waits (some k, false) := List.count_pos_iff.mpr (by simp [Books.stamp])
  rw [← books] at kept calm waits
  have split := split_kept (L := L.stamp n k) (j := j) kept mode (isOpen_stamp isOpen) (roomy_stamp roomy) next
  obtain ⟨c, mem, rfl, opened⟩ := isOpen_stamp (n := n) isOpen
  refine ⟨split, ?_, fun m place => ?_⟩
  · exact books_split (L := L.stamp n c.number) (j := j) mode ▸ (kept.part_calm calm mode mem opened waits).start
  · have := once n
    have other : m ≠ n := by
      rintro rfl
      simp only [Ledger.stamp, Ledger.split, opens, edit, put] at place
      grind
    refine (congrArg Tag.trailer (tag_stamp (k := c.number) other)).trans (t.plain m ?_)
    simp only [Ledger.stamp, Ledger.split, opens, edit, put] at place
    grind

/-- A split with no slot FILLING, whose new clip can take its first slot at once (R130 to R132). -/
theorem Tenth.split (t : L.Tenth) (p : L.Placed) (named : L.Named) (written : L.Written) (filling : L.filling = none)
    (empty : L.held = []) (mode : L.mode = .recording) (isOpen : L.isOpen k) (next : L.next = some j)
    (closing : ∀ r ∈ L.clips, r.state ≠ .closing)
    (first : M = L.split k j ∨ ∃ n, n < 1024 ∧ L.slots n = none ∧ M = (L.split k j).fill n) (tested : M.Tested N) :
    N.Tenth := by
  have kept := split_kept (j := j) t.kept mode isOpen (.inr (.inr closing)) next
  have parts : (L.split k j).Placed := ⟨p.low, p.once, p.ring, p.depth, p.busy⟩
  have none_used : (L.split k j).books.Calm ∨ ∀ m, L.slots m = none := by
    obtain ⟨c, mem, rfl, opened⟩ := isOpen
    by_cases waits : 0 < L.books.waits (some c.number, false)
    · exact .inl (books_split (L := L) (j := j) mode ▸ (t.kept.part_calm t.calm mode mem opened waits).start)
    · obtain ⟨-, alone, unformed, -⟩ := t.kept.open_alone (B := L.books) mode mem opened
      have entries := no_entries t.kept (fun r mem_r live => ?_) mem (.inl opened) (Nat.eq_zero_of_not_pos waits) unformed
      · obtain ⟨queue, flight⟩ := List.append_eq_nil_iff.mp entries
        exact .inr (unused named written filling (p.ring (by simp [mode])) (by simpa [books] using queue)
          (by simpa [books] using flight) empty)
      · rw [alone r mem_r (live.resolve_right (closing r mem_r))]
  rcases first with rfl | ⟨n, below, free, rfl⟩
  · exact tested.tenth parts kept t.plain (none_used.imp_right fun unused => ⟨0, by omega, unused 0⟩)
  · have same := books_fill parts free
    refine tested.tenth (parts.fill filling free below (.inl (by simp [Ledger.split, opens, edit, mode]))) (same ▸ kept)
      (Plain.fill (L := L.split k j) t.plain) (none_used.imp (fun calm => same ▸ calm) fun unused => ?_)
    refine ⟨if n = 0 then 1 else 0, by split <;> omega, ?_⟩
    show (if _ = n then _ else L.slots _) = none
    rw [if_neg (by split <;> omega)]
    exact unused _

/-- A DISARM frees the ring and the FILLING slot (R125). -/
theorem Tenth.disarm (t : L.Tenth) (p : L.Placed) (armed : L.mode = .armed) (empty : L.held = []) :
    Tenth { L.erase (L.ring ++ L.filling.toList) with ring := [], filling := none, mode := .idle } := by
  have once := p.once
  simp only [count_placed] at once
  have tag := L.tag_erase (L.ring ++ L.filling.toList)
  have undrained : L.drain = none := by
    by_contra drain
    have := t.kept.staged.drainIdle (B := L.books) (by simpa [books] using drain)
    rw [show L.books.mode = L.mode from rfl, armed] at this
    cases this
  have books : (L.erase (L.ring ++ L.filling.toList)).books = L.books := books_of fun m place => (tag m).trans (if_neg (by
    have := once m
    grind))
  have kept := kept_mode (mode := .idle) t.kept (by simp [Ledger.books, armed]) (by simp [Ledger.books, undrained])
  rw [← books] at kept
  have calm := t.calm
  rw [← books] at calm
  refine ⟨kept, calm, fun m place => ?_⟩
  simp [empty, erase] at place

/-- A slot write takes the slot at the head of the queue (R110, R111). -/
theorem Tenth.take (t : L.Tenth) (flight : L.flight = none) (queue : L.queue = n :: rest) :
    Tenth { L.put n (some { L.tag n with state := .writing }) with flight := some n, queue := rest } := by
  have taken := t.kept.take t.calm (x := ((L.tag n).clip, (L.tag n).trailer))
    (rest := rest.map fun m => ((L.tag m).clip, (L.tag m).trailer)) (by simp [books, flight]) (by simp [books, queue])
  have same : ∀ m, _ := fun m => entry_put (L := L) (n := n) (m := m) .writing
  have books : Ledger.books { L.put n (some { L.tag n with state := .writing }) with flight := some n, queue := rest } =
      { L.books with
        line := rest.map fun m => ((L.tag m).clip, (L.tag m).trailer)
        aboard := some ((L.tag n).clip, (L.tag n).trailer) } := by
    refine Books.ext (List.map_congr_left fun m _ => ?_) (congrArg some ?_) rfl rfl rfl rfl
    · exact Prod.ext (same m).1 (same m).2
    · exact Prod.ext (same n).1 (same n).2
  exact ⟨books ▸ taken, books ▸ t.calm, fun m place => (same m).2.trans (t.plain m place)⟩

/-- The slot of a write given up returns to the head of the queue (R77). -/
theorem Tenth.back (t : L.Tenth) (flight : L.flight = some n) :
    Tenth { L.put n (some { L.tag n with state := .queued }) with flight := none, queue := n :: L.queue } := by
  have given := t.kept.back (x := ((L.tag n).clip, (L.tag n).trailer)) (by simp [books, flight])
  have same : ∀ m, _ := fun m => entry_put (L := L) (n := n) (m := m) .queued
  have books : Ledger.books { L.put n (some { L.tag n with state := .queued }) with
      flight := none, queue := n :: L.queue } =
      { L.books with line := ((L.tag n).clip, (L.tag n).trailer) :: L.books.line, aboard := none } := by
    have line : ∀ m, ((Ledger.tag (L.put n (some { L.tag n with state := .queued })) m).clip,
        (Ledger.tag (L.put n (some { L.tag n with state := .queued })) m).trailer) =
          ((L.tag m).clip, (L.tag m).trailer) := fun m => Prod.ext (same m).1 (same m).2
    exact Books.ext (List.map_congr_left (l := n :: L.queue) fun m _ => line m) rfl rfl rfl rfl rfl
  exact ⟨books ▸ given, books ▸ t.calm, fun m place => (same m).2.trans (t.plain m place)⟩

/-- Every move keeps the tenth law (R122, R127 to R135). -/
theorem Move.tenth (h : Move G L M) (g : G) (p : L.Placed) (named : L.Named) (written : L.Written) (t : L.Tenth)
    (fresh : ¬L.Worn) : M.Tenth := by
  have once := p.once
  simp only [count_placed] at once
  have plain := t.plain
  cases h with
  | test _ tested => exact tested.tenth p t.kept t.plain (.inl t.calm)
  | fill n unfilled free below opening => exact t.of (books_fill p free) t.plain.fill
  | stamp n k filling receives =>
    obtain ⟨books, kept, calm, -⟩ := t.stamp (.inl filling) p receives fresh
    refine ⟨books ▸ kept, books ▸ calm, fun m place => ?_⟩
    have := once n
    have other : m ≠ n := by
      rintro rfl
      rcases place with none_filling | place
      · cases none_filling
      · simp only [Ledger.stamp, edit, put] at place
        grind
    exact (congrArg Tag.trailer (tag_stamp other)).trans (t.plain m (.inr (place.resolve_left nofun)))
  | hold n filling empty =>
    refine t.of rfl fun m place => t.plain m ?_
    grind
  | drop o rest members =>
    have := once o
    refine t.of (books_of fun m place => (tag_put L o m none).trans (if_neg ?_)) fun m place => ?_
    · grind
    · rw [show Ledger.tag { L.put o none with ring := rest } m = (L.put o none).tag m from rfl, tag_put]
      split
      · rfl
      · exact t.plain m (by grind [put])
  | join n holds armed room =>
    have := once n
    refine t.of (books_of fun m place => (tag_put L n m _).trans (if_neg ?_)) fun m place => ?_
    · grind
    · refine (congrArg Tag.trailer (tag_put L n m _)).trans ?_
      split
      · exact t.plain n (by grind)
      · exact t.plain m (by grind [put])
  | free a b holds =>
    have tag := L.tag_erase a
    refine t.of (books_of fun m place => (tag m).trans (if_neg ?_)) fun m place => ?_
    · have := once m
      grind
    · refine (congrArg Tag.trailer (tag m)).trans ?_
      split
      · rfl
      · exact t.plain m (by grind [erase])
  | start k mode drain next empty room =>
    refine ⟨t.kept.start (t.kept.staged.idle mode) drain next room, t.calm.start, fun m place => t.plain m ?_⟩
    grind [opens]
  | stampHeld n k rest holds mode isOpen =>
    obtain ⟨books, kept, calm, -⟩ := t.stamp (n := n) (.inr (by simp [holds])) p (.inl ⟨mode, isOpen⟩) fresh
    refine ⟨books ▸ kept, books ▸ calm, fun m place => ?_⟩
    have := once n
    have other : m ≠ n := by
      rintro rfl
      simp only [Ledger.stamp, edit, put] at place
      grind
    refine (congrArg Tag.trailer (tag_stamp other)).trans (t.plain m ?_)
    simp only [Ledger.stamp, edit, put] at place
    grind
  | stop k mode isOpen =>
    obtain ⟨c, mem, rfl, opened⟩ := isOpen
    exact ⟨t.kept.stop mode mem opened, t.kept.stop_calm t.calm mode mem opened, t.plain⟩
  | finish _ k drain filling empty tested =>
    have mode : L.mode = .idle := t.kept.staged.drainIdle (by simp [books, drain])
    refine tested.tenth ⟨p.low, p.once, p.ring, p.depth, fun h => absurd filling h⟩ (t.kept.finish drain) t.plain ?_
    refine or_iff_not_imp_left.mpr fun due => ⟨0, by omega, ?_⟩
    obtain ⟨queue, flight⟩ := List.append_eq_nil_iff.mp (finish_empty t.kept t.calm drain due)
    exact unused named written filling (p.ring (by simp [mode])) (by simpa [books] using queue) (by simpa [books] using flight)
      empty 0
  | stampSplit n k j filling mode isOpen next roomy => exact t.stampSplit p fresh filling mode isOpen next roomy
  | split _ _ k j filling empty mode isOpen next closing first tested =>
    exact t.split p named written filling empty mode isOpen next closing first tested
  | disarm armed empty => exact t.disarm p armed empty
  | arm idle drain room =>
    exact ⟨kept_mode t.kept (by simp [books, idle]) (by simp [books, drain]), t.calm, t.plain⟩
  | resize d idle => exact t.of rfl t.plain
  | take n rest flight queue => exact t.take flight queue
  | back n flight => exact t.back flight
  | lose without =>
    have grounded : L.flight = none := (without g).elim id (flight_of_ended t.kept)
    exact t.of (books_of (fun _ _ => rfl) (flight := grounded.symm)) t.plain
  | land _ n flight trailer empty landed =>
    obtain ⟨aboard, books⟩ := books_land (f := writtenOne) t.kept flight
    rw [trailer] at aboard
    have := once n
    refine landed.tenth (n := n) ?_ (books ▸ t.kept.land aboard fun r mem live => ?_) t.plain
    · simp only [count_placed, edit]
      grind
    · by_contra full
      exact fresh ⟨r, mem, live, Nat.le_of_not_lt full⟩

/-! ### The end of a clip -/

/-- The books after an abort (R135). -/
theorem books_aborted (p : L.Placed) {ends : Bool} (drains : ends = true ↔ L.drain = some k) :
    (L.aborted ends k).books = L.books.abort k := by
  have tag : ∀ m, m ∉ L.gone ends k → (L.aborted ends k).tag m = L.tag m := fun m out => by
    rw [Ledger.tag, (L.aborted_places ends k m).1, if_neg out, ← Ledger.tag]
  have queued : ∀ m ∈ L.queue, (m ∈ L.gone ends k ↔ (L.tag m).clip = some k) := fun m mem => by
    have := p.once m
    simp only [count_placed] at this
    rw [mem_gone]
    grind
  have flies : ∀ m, L.flight = some m → m ∉ L.gone ends k := fun m own => by
    have := p.once m
    simp only [count_placed] at this
    rw [mem_gone]
    grind
  refine Books.ext ?_ ?_ rfl rfl rfl ?_
  · show (L.queue.filter (fun n => !(L.gone ends k).contains n)).map
      (fun n => (((L.aborted ends k).tag n).clip, ((L.aborted ends k).tag n).trailer)) =
        (L.queue.map (fun n => ((L.tag n).clip, (L.tag n).trailer))).filter (fun x => decide (x.1 ≠ some k))
    rw [List.filter_map]
    have same : L.queue.filter (fun n => !(L.gone ends k).contains n) =
        L.queue.filter ((fun x : Entry => decide (x.1 ≠ some k)) ∘ fun n => ((L.tag n).clip, (L.tag n).trailer)) :=
      List.filter_congr fun m mem => by
        have := queued m mem
        simp only [List.contains_eq_mem, Function.comp]
        grind
    rw [← same]
    refine List.map_congr_left fun m mem => ?_
    rw [tag m (by simpa using (List.mem_filter.mp mem).2)]
  · show L.flight.map _ = L.flight.map _
    cases own : L.flight with
    | none => rfl
    | some m => simp [tag m (flies m own)]
  · show (if ends then none else L.drain) = if L.drain = some k then none else L.drain
    cases ends <;> simp_all

theorem Start.tenth (h : Start L M) (p : L.Placed) (named : L.Named) (t : L.Tenth) : M.Tenth := by
  have once := p.once
  simp only [count_placed] at once
  cases h with
  | same => exact t
  | close _ n f flight trailer empty landed =>
    obtain ⟨aboard, books⟩ := books_land (f := Books.shut f) t.kept flight
    rw [trailer] at aboard
    have := once n
    refine landed.tenth (n := n) ?_ (books ▸ t.kept.close f aboard) t.plain
    simp only [count_placed, edit]
    grind
  | abort _ k ends empty held writing drains tested =>
    obtain ⟨c, mem, rfl, closing⟩ := held
    have books := books_aborted p drains
    have elsewhere : ∀ x, L.books.aboard = some x → x.1 ≠ some c.number := by
      intro x own
      obtain ⟨n, flight, rfl⟩ := Option.map_eq_some_iff.mp own
      have := once n
      cases at_n : L.slots n with
      | none => grind
      | some s =>
        have := writing n s at_n ((named n s at_n).2.2.2.1 flight)
        simpa [tag, at_n] using this
    have kept := t.kept.abort (B := L.books) mem closing elsewhere
    rw [← books] at kept
    refine tested.tenth (p.abort ends c.number) kept (fun m place => ?_) ?_
    · have := t.plain m
      have place : L.filling = some m ∨ m ∈ L.ring ∨ m ∈ L.held := by
        simp only [aborted, edit, erase] at place
        cases ends <;> grind
      have := t.plain m place
      rw [tag, (L.aborted_places ends c.number m).1]
      split
      · rfl
      · exact this
    · rw [books]
      by_cases gives : ∀ x ∈ L.books.line, x.1 ≠ some c.number
      · exact .inl (t.kept.abort_calm t.calm mem closing elsewhere gives)
      · push Not at gives
        obtain ⟨x, waits, clip⟩ := gives
        obtain ⟨n, queue, rfl⟩ := List.mem_map.mp waits
        have := once n
        refine .inr ⟨n, p.low n (by grind), ?_⟩
        rw [(L.aborted_places ends c.number n).1, if_pos (mem_gone.mpr (.inr ⟨queue, clip⟩))]
  | blank =>
    have below := t.kept.numbered.below
    refine ⟨⟨⟨Nat.zero_le _, List.Pairwise.nil, nofun, fun n next => ?_⟩, ⟨nofun, nofun, nofun, nofun, nofun, nofun⟩,
      ⟨nofun, List.Pairwise.nil, nofun⟩, ⟨nofun, nofun, nofun⟩⟩, nofun, nofun⟩
    obtain ⟨low, high, -⟩ := below n next
    exact ⟨low, high, nofun⟩

end Ledger
end Sys2Proof.Machine
end

section
/-!
What a whole step keeps of the ledger: a Start, then a Path of moves (R70, R110, R122, R134).
-/
set_option Elab.async false

namespace Sys2Proof.Machine

namespace Ledger

variable {G : Prop} {L M N : Ledger} {n k : Nat} {f : Account → Account}

/-! ### The clips that are CLOSED -/

/-- Every clip that is CLOSED was so before. -/
def NoneCloses (L M : Ledger) : Prop :=
  ∀ q ∈ M.clips, q.state = .closed → ∃ r ∈ L.clips, r.number = q.number ∧ r.state = .closed

theorem NoneCloses.refl (L : Ledger) : L.NoneCloses L := fun q mem closed => ⟨q, mem, rfl, closed⟩

theorem NoneCloses.trans (h : L.NoneCloses M) (k : M.NoneCloses N) : L.NoneCloses N := fun q mem closed => by
  obtain ⟨r, mem_r, same, closed_r⟩ := k q mem closed
  obtain ⟨p, mem_p, again, closed_p⟩ := h r mem_r closed_r
  exact ⟨p, mem_p, again.trans same, closed_p⟩

theorem NoneCloses.edit (h : L.NoneCloses M) (k : Nat) (f : Account → Account)
    (number : ∀ r, (f r).number = r.number := by exact fun _ => rfl)
    (state : ∀ r, (f r).state = .closed → r.state = .closed := by exact fun _ => id) : L.NoneCloses (M.edit k f) := by
  refine h.trans fun q mem closed => ?_
  obtain ⟨r, mem_r, rfl⟩ := List.mem_map.mp mem
  refine ⟨r, mem_r, ?_⟩
  split at closed
  · next same => exact ⟨by rw [if_pos same, number], state r closed⟩
  · next other => exact ⟨by rw [if_neg other], closed⟩

theorem NoneCloses.opens (h : L.NoneCloses M) (k : Nat) : L.NoneCloses (M.opens k) := by
  refine h.trans fun q mem closed => ?_
  rcases List.mem_append.mp mem with old | new
  · exact ⟨q, (Books.kept_sublist _).subset old, rfl, closed⟩
  · rw [List.mem_singleton.mp new] at closed
    cases closed

theorem NoneCloses.split (h : L.NoneCloses M) (k j : Nat) : L.NoneCloses (M.split k j) :=
  (h.edit k (fun r => { r with state := .closing, dataDone := true }) (fun _ => rfl) nofun).opens j

theorem Tested.noneCloses (h : M.Tested N) (old : L.NoneCloses M) : L.NoneCloses N := by
  cases h with
  | calm => exact old
  | full => exact old
  | formed c m => exact old.edit c.number (fun r => { r with formed := true })

theorem Landed.noneCloses (h : M.Landed n N) (old : L.NoneCloses M) : L.NoneCloses N := by
  cases h with
  | claimed c => exact old.edit c.number (fun r => { r with formed := true })
  | freed => exact old

/-- No move closes a clip. -/
theorem Move.noneCloses (h : Move G L M) : L.NoneCloses M := by
  have same := NoneCloses.refl L
  cases h with
  | test _ tested => exact tested.noneCloses same
  | stamp n k => exact same.edit k counted
  | start k => exact same.opens k
  | stampHeld n k => exact same.edit k counted
  | stop k => exact same.edit k (fun r => { r with state := .closing }) (fun _ => rfl) nofun
  | finish _ k drain filling empty tested => exact tested.noneCloses (same.edit k fun r => { r with dataDone := true })
  | stampSplit n k j => exact (same.edit k counted).split k j
  | split _ _ k j filling empty mode isOpen next closing first tested =>
    refine tested.noneCloses ?_
    rcases first with rfl | ⟨n, -, -, rfl⟩
    · exact same.split k j
    · exact same.split k j
  | land _ n flight trailer empty landed => exact landed.noneCloses (same.edit _ writtenOne)
  | fill | hold | drop | join | free | disarm | arm | resize | take | back | lose => exact same

theorem Path.noneCloses (h : Path G L M) : L.NoneCloses M := by
  induction h with
  | refl => exact NoneCloses.refl L
  | tail _ move ih => exact ih.trans move.noneCloses

/-- A clip that closes is higher than every clip CLOSED before it (R134). -/
theorem Start.closes (h : Start L M) (t : L.Tenth) : ∀ q ∈ M.clips, q.state = .closed →
    (∃ r ∈ L.clips, r.number = q.number ∧ r.state = .closed) ∨ ∀ p ∈ L.clips, p.state = .closed → p.number < q.number := by
  cases h with
  | same => exact fun q mem closed => .inl ⟨q, mem, rfl, closed⟩
  | close _ n f flight trailer empty landed =>
    obtain ⟨c, mem_c, live, owner⟩ := t.kept.queued.owned ((L.tag n).clip, (L.tag n).trailer) (by simp [books, flight])
    have owner : L.clipOf n = c.number := by simp only [clipOf, show (L.tag n).clip = some c.number from owner, Option.getD_some]
    intro q mem closed
    obtain ⟨r, mem_r, same, closed_r⟩ := landed.noneCloses (NoneCloses.refl _) q mem closed
    obtain ⟨p, mem_p, rfl⟩ := List.mem_map.mp mem_r
    rw [← same]
    split at closed_r
    · next k =>
      rw [if_pos k]
      refine .inr fun p' mem_p' closed_p' => ?_
      have := t.kept.staged.closed p' mem_p' closed_p' c mem_c live
      dsimp only
      rw [k, owner]
      exact this
    · next k =>
      rw [if_neg k]
      exact .inl ⟨p, mem_p, rfl, closed_r⟩
  | abort _ k ends empty held writing drains tested =>
    have old : L.NoneCloses (L.aborted ends k) :=
      (NoneCloses.refl L).edit k (fun r => { r with state := .aborted }) (fun _ => rfl) nofun
    exact fun q mem closed => .inl (tested.noneCloses old q mem closed)
  | blank => exact fun q mem => absurd mem (List.not_mem_nil)

/-! ### A whole step -/

/-- What a step keeps beside the places: the tenth law goes only where a SLOT COUNT has reached its end (R122). -/
structure Sound (L : Ledger) : Prop where
  placed : L.Placed
  named : L.Named
  written : L.Written
  tenth : L.Tenth ∨ L.Worn

theorem Move.sound (h : Move G L M) (g : G) (s : L.Sound) : M.Sound := by
  refine ⟨h.placed s.placed, h.named s.placed s.named, h.written g s.placed s.written fun ended => ?_, ?_⟩
  · rcases s.tenth with t | ⟨r, mem, live, -⟩
    · exact flight_of_ended t.kept ended
    · exact absurd live (ended r mem)
  · by_cases worn : L.Worn
    · exact .inr (h.worn worn)
    · exact .inl (h.tenth g s.placed s.named s.written (s.tenth.resolve_right worn) worn)

theorem Path.sound (h : Path G L M) (g : G) (s : L.Sound) : M.Sound := by
  induction h with
  | refl => exact s
  | tail _ move ih => exact move.sound g ih

theorem Start.sound (h : Start L M) (s : L.Sound) (t : L.Tenth) : M.Sound :=
  ⟨h.placed s.placed, h.named s.placed s.named, h.written s.written, .inl (h.tenth s.placed s.named t)⟩

end Ledger
end Sys2Proof.Machine
end

section
/-!
The laws of the slot buffer and of the clips, read off the ledger of a state (R70, R122, R134).
-/
set_option Elab.async false

namespace Sys2Proof.Machine

/-- The slot table is in the order of the slot numbers (R70). -/
def State.inOrder (s : State) : Prop := s.sb.slots.Pairwise (fun p q => p.1 < q.1)

/-- A write whose blocks are awaited has its slot (R112 to R114). -/
def State.slotted (s : State) : Prop :=
  ∀ w, s.cp.write = some w → s.cp.awaits .block ∨ s.cp.awaits .settled ∨ s.cp.awaits .stopped → w.slot ≠ none

variable {s : State} {f g : Option Nat} {held : List Nat} {n k : Nat} {b : Bool}

/-! ### Reading the ledger -/

theorem mem_of_lookup {slots : List (Nat × SlotRecord)} {r : SlotRecord} (found : slots.lookup n = some r) :
    (n, r) ∈ slots := by
  induction slots with
  | nil => cases found
  | cons p rest ih =>
    rw [lookup_cons_eq] at found
    split at found
    · next same => cases found; rw [same]; exact List.mem_cons_self
    · exact List.mem_cons_of_mem _ (ih found)

theorem lookup_of_mem {slots : List (Nat × SlotRecord)} {p : Nat × SlotRecord} (order : slots.Pairwise fun p q => p.1 < q.1)
    (mem : p ∈ slots) : slots.lookup p.1 = some p.2 := by
  induction slots with
  | nil => cases mem
  | cons q rest ih =>
    obtain ⟨later, order⟩ := List.pairwise_cons.mp order
    rw [lookup_cons_eq]
    rcases List.mem_cons.mp mem with rfl | mem
    · rw [if_pos rfl]
    · rw [if_neg (Nat.ne_of_gt (later p mem)), ih order mem]

@[simp] theorem State.tag_ledger (s : State) (g : Option Nat) (held : List Nat) (n : Nat) :
    (s.ledger g held).tag n = (s.sb.slot n).tag := by
  simp only [Ledger.tag, State.ledger, SlotBuffer.slot]
  cases s.sb.slots.lookup n <;> rfl

theorem State.slot_of_lookup {r : SlotRecord} (found : s.sb.slots.lookup n = some r) : s.sb.slot n = r := by
  simp [SlotBuffer.slot, found]

/-- What holds of the accounts of clip records. -/
theorem forall_account {l : List ClipRecord} {p : Account → Prop} :
    (∀ r ∈ l.map ClipRecord.account, p r) ↔ ∀ r ∈ l, p r.account := List.forall_mem_map

theorem exists_account {l : List ClipRecord} {p : Account → Prop} :
    (∃ r ∈ l.map ClipRecord.account, p r) ↔ ∃ r ∈ l, p r.account := exists_mem_map

theorem find_account (l : List ClipRecord) (p : Account → Bool) :
    (l.map ClipRecord.account).find? p = (l.find? fun r => p r.account).map ClipRecord.account := by
  rw [List.find?_map]; rfl

/-- The clip whose trailer is due is that of the ledger (R132). -/
theorem State.due_ledger : (s.ledger g held).due = s.clc.trailerDue.map ClipRecord.account := by
  have found := find_account s.clc.clips fun r => decide (r.state = .closing)
  unfold Ledger.due ClipController.trailerDue
  rw [show (s.ledger g held).clips = s.clc.clips.map ClipRecord.account from rfl, found]
  have same : s.clc.clips.find? (fun r => decide (r.account.state = .closing)) =
      s.clc.clips.find? (fun r => decide (r.state = .closing)) := rfl
  rw [same]
  cases s.clc.clips.find? (fun r => decide (r.state = .closing)) with
  | none => rfl
  | some r =>
    simp only [Option.map_some, ClipRecord.account]
    split <;> rfl

/-! ### The third and fourth laws -/

theorem State.bufferOk_iff : s.bufferOk ↔ s.inOrder ∧ s.slotted ∧ (s.ledger s.flight []).Placed := by
  have listed : ∀ n, ((s.ledger s.flight []).slots n).isSome = (s.sb.slots.lookup n).isSome := fun n => by
    simp [State.ledger]
  have places : (s.ledger s.flight []).placed = s.placedSlots := by simp [Ledger.placed, State.ledger, State.placedSlots, State.flight]
  have range : s.inOrder → ((∀ p ∈ s.sb.slots, p.1 < 1024) ↔ ∀ n, (s.ledger s.flight []).slots n ≠ none → n < 1024) := by
    intro order
    constructor
    · intro low n some_tag
      obtain ⟨r, found⟩ := Option.isSome_iff_exists.mp ((listed n).symm.trans (Option.isSome_iff_ne_none.mpr some_tag))
      exact low _ (mem_of_lookup found)
    · intro low p mem
      exact low p.1 (by simp [State.ledger, lookup_of_mem order mem])
  have once : (∀ n, (s.ledger s.flight []).placed.count n ≤ if ((s.ledger s.flight []).slots n).isSome then 1 else 0) ↔
      s.placedSlots.Nodup ∧ ∀ n ∈ s.placedSlots, (s.sb.slots.lookup n).isSome = true := by
    simp only [places, listed]
    constructor
    · intro once
      refine ⟨List.nodup_iff_count_le_one.mpr fun n => (once n).trans (by split <;> omega), fun n mem => ?_⟩
      have positive := List.count_pos_iff.mpr mem
      by_contra absent
      exact absurd (positive.trans_le (once n)) (by simp [absent])
    · rintro ⟨nodup, all⟩ n
      split
      · exact List.nodup_iff_count_le_one.mp nodup n
      · next absent => exact Nat.le_of_eq (List.count_eq_zero.mpr fun mem => absent (all n mem))
  constructor
  · rintro ⟨order, low, nodup, all, slot, ring, depth, busy⟩
    exact ⟨order, slot, (range order).mp low, once.mpr ⟨nodup, all⟩, ring, depth, fun filling => by
      have := busy filling
      simpa [State.ledger] using this⟩
  · rintro ⟨order, slot, low, places_once, ring, depth, busy⟩
    obtain ⟨nodup, all⟩ := once.mp places_once
    refine ⟨order, (range order).mpr low, nodup, all, slot, ring, depth, fun filling => ?_⟩
    simpa [State.ledger] using busy filling

/-- A slot at a place is listed. -/
theorem State.listed (p : (s.ledger f held).Placed) (mem : n ∈ (s.ledger f held).placed) :
    s.sb.slots.lookup n = some (s.sb.slot n) := by
  have := p.once n
  have positive := List.count_pos_iff.mpr mem
  cases found : s.sb.slots.lookup n with
  | none => exact absurd (positive.trans_le this) (by simp [State.ledger, found])
  | some r => rw [State.slot_of_lookup found]

theorem State.statesOk_iff (order : s.inOrder) (p : (s.ledger s.flight []).Placed) :
    s.statesOk ↔ (s.ledger s.flight []).Named := by
  have flight : s.cp.write.bind (·.slot) = s.flight := rfl
  have entry : ∀ n t, (s.ledger s.flight []).slots n = some t ↔ ∃ r, s.sb.slots.lookup n = some r ∧ r.tag = t := by
    simp [State.ledger]
  constructor
  · rintro ⟨filling, ring, queue, writing, all⟩ n t tagged
    obtain ⟨r, found, rfl⟩ := (entry n t).mp tagged
    have slot := State.slot_of_lookup found
    obtain ⟨used, first, second, third⟩ := all _ (mem_of_lookup found)
    refine ⟨fun own => slot ▸ filling n own, fun own => slot ▸ ring n own, fun own => slot ▸ queue n own, fun own => ?_,
      fun _ => ⟨used, first, second, third⟩⟩
    obtain ⟨w, write, taken⟩ := Option.bind_eq_some_iff.mp (flight.trans own)
    exact slot ▸ writing w n write taken
  · intro named
    have at_place : ∀ n, n ∈ (s.ledger s.flight []).placed →
        (s.ledger s.flight []).slots n = some (s.sb.slot n).tag := fun n mem => by
      simp [State.ledger, State.listed p mem]
    refine ⟨fun n own => ?_, fun n own => ?_, fun n own => ?_, fun w n write taken => ?_, fun q mem => ?_⟩
    · exact (named n _ (at_place n (by simp [Ledger.placed, State.ledger, own]))).1 own
    · exact (named n _ (at_place n (by simp [Ledger.placed, State.ledger, own]))).2.1 own
    · exact (named n _ (at_place n (by simp [Ledger.placed, State.ledger, own]))).2.2.1 own
    · have own : s.flight = some n := by simp [State.flight, write, taken]
      exact (named n _ (at_place n (by simp [Ledger.placed, State.ledger, own]))).2.2.2.1 own
    · exact (named q.1 q.2.tag ((entry _ _).mpr ⟨q.2, lookup_of_mem order mem, rfl⟩)).2.2.2.2 (List.not_mem_nil)

theorem State.writingOk_iff (order : s.inOrder) : s.writingOk ↔ (s.ledger s.flight []).Written := by
  have flight : ∀ n, s.flight = some n ↔ ∃ w, s.cp.write = some w ∧ w.slot = some n := fun n => Option.bind_eq_some_iff
  constructor
  · intro writing n t tagged out state
    obtain ⟨r, found, rfl⟩ := Option.map_eq_some_iff.mp tagged
    exact (flight n).mpr (writing _ (mem_of_lookup found) state)
  · intro written p mem state
    refine (flight p.1).mp (written p.1 p.2.tag ?_ List.not_mem_nil state)
    simp [State.ledger, lookup_of_mem order mem]

/-! ### The tenth law -/

theorem State.waits_ledger (k : Nat) (b : Bool) : (s.ledger s.flight []).books.waits (some k, b) = s.waitingOf k b := by
  have line : (s.ledger s.flight []).books.line ++ (s.ledger s.flight []).books.aboard.toList =
      s.waitingSlots.map fun n => ((s.sb.slot n).clip, (s.sb.slot n).trailer) := by
    simp only [Ledger.books, State.tag_ledger, State.waitingSlots, List.map_append]
    show s.sb.queue.map _ ++ (s.flight.map _).toList = s.sb.queue.map _ ++ s.flight.toList.map _
    cases s.flight <;> rfl
  rw [Books.waits, line, List.count_eq_countP, List.countP_map]
  refine List.countP_congr fun n _ => ?_
  simp [Prod.ext_iff]

theorem State.tenth_of (law : s.tenthOk) : (s.ledger s.flight []).Tenth := by
  obtain ⟨⟨few, -, idle, drainIdle⟩, ⟨order, range, below⟩, -, -, -, -, -, -, ⟨owned, sorted, lowest, plain⟩, accounts,
    closed, drains, due⟩ := law
  have clips : (s.ledger s.flight []).books.clips = s.clc.clips.map ClipRecord.account := rfl
  have numbers : (s.clc.clips.map ClipRecord.account).Pairwise fun r q => r.number < q.number := List.pairwise_map.mpr order
  have waiting : ∀ x ∈ (s.ledger s.flight []).books.line ++ (s.ledger s.flight []).books.aboard.toList,
      ∃ n ∈ s.waitingSlots, x = ((s.sb.slot n).clip, (s.sb.slot n).trailer) := by
    intro x mem
    simp only [Ledger.books, State.tag_ledger, List.mem_append, List.mem_map, Option.mem_toList, Option.map_eq_some_iff] at mem
    rcases mem with ⟨n, own, rfl⟩ | ⟨n, own, rfl⟩
    · exact ⟨n, List.mem_append_left _ own, rfl⟩
    · exact ⟨n, List.mem_append_right _ (Option.mem_toList.mpr own), rfl⟩
  refine ⟨⟨⟨by simpa [clips] using few, numbers, ?_, ?_⟩, ⟨?_, ?_, ?_, ?_, ?_, ?_⟩, ⟨?_, ?_, ?_⟩, ⟨?_, ?_, ?_⟩⟩, ?_, ?_⟩
  · exact forall_account.mpr range
  · exact fun n next => ⟨(below n next).1, (below n next).2.1, forall_account.mpr (below n next).2.2⟩
  · exact fun mode => forall_account.mpr (idle mode)
  · exact fun drain => drainIdle (by simpa [Ledger.books, State.ledger, Option.isSome_iff_ne_none] using drain)
  · refine forall_account.mpr fun r mem opened => ?_
    obtain ⟨-, -, -, latest, -⟩ := accounts r mem (.inl opened)
    exact ⟨(latest opened).1, forall_account.mpr (latest opened).2⟩
  · refine forall_account.mpr fun r mem closing => ?_
    obtain ⟨-, -, -, -, done⟩ := accounts r mem (.inr closing)
    exact (done closing).trans Option.map_eq_some_iff.symm
  · exact forall_account.mpr fun r mem own => forall_account.mpr (closed r mem own)
  · intro k drain
    obtain ⟨d, running, rfl⟩ := Option.map_eq_some_iff.mp drain
    obtain ⟨r, mem, closing, number, latest⟩ := drains d running
    exact ⟨_, List.mem_map_of_mem mem, closing, number, forall_account.mpr fun q own => number ▸ latest q own⟩
  · intro x mem
    obtain ⟨n, own, rfl⟩ := waiting x mem
    exact exists_account.mpr (owned n own)
  · simp only [Ledger.books, State.tag_ledger]
    exact List.pairwise_map.mpr sorted
  · intro x own
    obtain ⟨n, flies, rfl⟩ := Option.map_eq_some_iff.mp own
    obtain ⟨w, write, taken⟩ := Option.bind_eq_some_iff.mp (show s.cp.write.bind (·.slot) = some n from flies)
    rw [State.tag_ledger]
    exact forall_account.mpr (lowest w n write taken)
  · refine forall_account.mpr fun r mem live => ?_
    rw [State.waits_ledger]
    exact (accounts r mem live).1
  · refine forall_account.mpr fun r mem live => ?_
    rw [State.waits_ledger]
    exact (accounts r mem live).2.1
  · refine forall_account.mpr fun r mem live formed => ?_
    obtain ⟨-, -, trailer, -⟩ := accounts r mem live
    obtain ⟨closing, done, all, least⟩ := trailer formed
    exact ⟨closing, done, all, forall_account.mpr least⟩
  · exact (Ledger.due_eq_none numbers).mp (by rw [State.due_ledger, due]; rfl)
  · intro n place
    rw [State.tag_ledger]
    exact plain n (by simpa [State.ledger] using place)

/-- The parts of the tenth law that the recorder and the clips' accounts hold. -/
theorem State.of_tenth (t : (s.ledger s.flight []).Tenth) :
    s.recorderOk ∧ s.numbersOk ∧ s.queueOk ∧ s.accountsOk ∧ s.endsOk := by
  obtain ⟨⟨⟨few, order, range, below⟩, ⟨idle, drainIdle, opened, closing, closed, drains⟩, ⟨owned, sorted, lowest⟩,
    ⟨data, trailers, formed⟩⟩, calm, plain⟩ := t
  have clips : (s.ledger s.flight []).books.clips = s.clc.clips.map ClipRecord.account := rfl
  have numbers : s.clc.clips.Pairwise fun r q => r.number < q.number :=
    (List.pairwise_map (f := ClipRecord.account) (R := fun r q => r.number < q.number)).mp order
  have due := (Ledger.due_eq_none order).mpr calm
  simp only [clips, List.forall_mem_map] at range below idle opened closing closed data trailers formed lowest
  refine ⟨⟨by simpa [clips] using few, ?_, idle, fun runs => ?_⟩, ⟨numbers, range, fun n next => below n next⟩,
    ⟨fun n mem => ?_, ?_, fun w n write taken => ?_, fun n mem => ?_⟩, fun r mem live => ⟨?_, ?_, formed r mem live, opened r mem,
      fun state => ?_⟩, closed, fun d runs => ?_, ?_⟩
  · -- an OPEN clip is the latest, so the order of the numbers leaves room for one
    have apart : s.clc.clips.Pairwise fun r q => ¬(r.state = .opened ∧ q.state = .opened) :=
      numbers.imp_of_mem fun mem_r mem_q less both => absurd ((opened _ mem_r both.1).2 _ mem_q) (Nat.not_le_of_gt less)
    rw [List.countP_eq_length_filter]
    have few : ∀ l : List ClipRecord, l.Pairwise (fun r q => ¬(r.state = .opened ∧ q.state = .opened)) →
        (l.filter fun r => decide (r.state = .opened)).length ≤ 1 := by
      intro l apart
      induction l with
      | nil => exact Nat.zero_le _
      | cons r rest ih =>
        obtain ⟨alone, apart⟩ := List.pairwise_cons.mp apart
        rw [List.filter_cons]
        split
        · next own =>
          have none_later : rest.filter (fun r => decide (r.state = .opened)) = [] :=
            List.filter_eq_nil_iff.mpr fun q mem opened_q => alone q mem ⟨of_decide_eq_true own, of_decide_eq_true opened_q⟩
          simp [none_later]
        · exact ih apart
    exact few _ apart
  · refine drainIdle ?_
    simpa [Ledger.books, State.ledger, Option.isSome_iff_ne_none] using runs
  · have waits : ((s.sb.slot n).clip, (s.sb.slot n).trailer) ∈
        (s.ledger s.flight []).books.line ++ (s.ledger s.flight []).books.aboard.toList := by
      simp only [Ledger.books, State.tag_ledger]
      rcases List.mem_append.mp mem with own | own
      · exact List.mem_append_left _ (List.mem_map_of_mem (f := fun n => ((s.sb.slot n).clip, (s.sb.slot n).trailer)) own)
      · refine List.mem_append_right _ (Option.mem_toList.mpr ?_)
        exact Option.map_eq_some_iff.mpr ⟨n, Option.mem_toList.mp own, rfl⟩
    exact exists_account.mp (owned _ waits)
  · simp only [Ledger.books, State.tag_ledger] at sorted
    exact (List.pairwise_map (f := fun n => ((s.sb.slot n).clip, (s.sb.slot n).trailer))
      (R := fun x y => x.1.getD 0 ≤ y.1.getD 0)).mp sorted
  · have own : s.flight = some n := by simp [State.flight, write, taken]
    refine lowest ((s.sb.slot n).clip, (s.sb.slot n).trailer) ?_
    simp only [Ledger.books, State.tag_ledger]
    exact Option.map_eq_some_iff.mpr ⟨n, own, rfl⟩
  · have := plain n (by simpa [State.ledger] using mem)
    rwa [State.tag_ledger] at this
  · rw [← State.waits_ledger]
    exact data r mem live
  · rw [← State.waits_ledger]
    exact trailers r mem live
  · exact (closing r mem state).trans Option.map_eq_some_iff
  · obtain ⟨r, mem, state, number, latest⟩ := drains d.clip (by simp [Ledger.books, State.ledger, runs])
    obtain ⟨r, own, rfl⟩ := List.mem_map.mp mem
    have latest := forall_account.mp latest
    exact ⟨r, own, state, number, fun q mem => (latest q mem).trans (Nat.le_of_eq number.symm)⟩
  · rw [State.due_ledger] at due
    simpa using due

end Sys2Proof.Machine
end

section
/-!
The path of an operation in the ledger: one rule for each change of the slot table and of the clip records, and the trailer
test (R70, R122, R132).
-/
set_option Elab.async false

namespace Sys2Proof.Machine

/-- An operation that leads from s to t keeps the form of the stacked DRAM and the order of the slot table (R70). -/
structure State.Tidies (s t : State) : Prop where
  mem : s.memoryOk → t.memoryOk
  order : s.inOrder → t.inOrder

/-- An operation of an event that began in s leads to t, and in the ledger from L by moves to the ledger of t, for a slot in
flight and slots held. -/
structure State.Runs (G : Prop) (L : Ledger) (s t : State) (flight : Option Nat) (held : List Nat) : Prop extends s.Tidies t where
  path : s.slotted → L.Placed → Ledger.Path G L (t.ledger flight held)

/-! ### The ledger after a change of one slot, of several or of a clip -/

section
variable (s : State) (g : Option Nat) (held : List Nat)

@[simp] theorem State.ledger_setSlot (n : Nat) (r : SlotRecord) :
    (s.setSlot n r).ledger g held = (s.ledger g held).put n (some r.tag) := by
  refine Ledger.ext (funext fun m => ?_) rfl rfl rfl rfl rfl rfl rfl rfl rfl rfl
  show ((s.setSlot n r).sb.slots.lookup m).map SlotRecord.tag = if m = n then some r.tag else _
  rw [State.lookup_setSlot]
  split <;> rfl

@[simp] theorem State.ledger_freeSlots (ns : List Nat) : (s.freeSlots ns).ledger g held = (s.ledger g held).erase ns := by
  refine Ledger.ext (funext fun m => ?_) rfl rfl rfl rfl rfl rfl rfl rfl rfl rfl
  show ((s.freeSlots ns).sb.slots.lookup m).map SlotRecord.tag = if m ∈ ns then none else _
  rw [State.lookup_freeSlots]
  split <;> rfl

@[simp] theorem State.ledger_writeSlot (n o : Nat) (bs : List Byte) :
    (s.writeSlot n o bs).ledger g held = s.ledger g held := by
  unfold State.writeSlot; split <;> rfl

theorem State.ledger_modifyClip (n : Nat) {f : ClipRecord → ClipRecord} (F : Account → Account)
    (same : ∀ r, (f r).account = F r.account := by exact fun _ => rfl) :
    (s.modifyClip n f).ledger g held = (s.ledger g held).edit n F := by
  refine Ledger.ext rfl rfl rfl rfl rfl rfl rfl rfl ?_ rfl rfl
  show (s.clc.clips.map _).map ClipRecord.account = (s.clc.clips.map ClipRecord.account).map _
  rw [List.map_map, List.map_map]
  refine List.map_congr_left fun r _ => ?_
  simp only [Function.comp]
  show ClipRecord.account (if r.number = n then f r else r) = if r.number = n then F r.account else r.account
  split
  · exact same r
  · rfl

theorem Ledger.edit_id (L : Ledger) (n : Nat) : L.edit n id = L := by
  simp [Ledger.edit]

/-- A change of a clip record beside its account. -/
theorem State.ledger_modifyClip_same (n : Nat) {f : ClipRecord → ClipRecord}
    (same : ∀ r, (f r).account = r.account := by exact fun _ => rfl) : (s.modifyClip n f).ledger g held = s.ledger g held := by
  rw [State.ledger_modifyClip s g held n id same, Ledger.edit_id]

/-- An operation that changes neither the buffer nor the recorder. -/
theorem State.ledger_eq {t : State} (sb : t.sb = s.sb := by simp) (clc : t.clc = s.clc := by simp) :
    t.ledger g held = s.ledger g held := by
  simp only [State.ledger, sb, clc]

@[simp] theorem State.ledger_addGap (n : Nat) : (s.addGap n).ledger g held = s.ledger g held := by
  unfold State.addGap; split
  · exact s.ledger_modifyClip_same g held _
  · rfl

@[simp] theorem State.ledger_discardRecord : s.discardRecord.ledger g held = s.ledger g held :=
  State.ledger_addGap _ g held 1

@[simp] theorem State.ledger_settleSplit (appended : Bool) : (s.settleSplit appended).ledger g held = s.ledger g held := by
  unfold State.settleSplit; split
  · exact s.ledger_modifyClip_same g held _
  · rfl

theorem ClipRecord.stamped_account (r : ClipRecord) (o : Option Nat) : (r.stamped o).account = Ledger.counted r.account := by
  unfold ClipRecord.stamped
  dsimp only
  split
  · split <;> rfl
  · rfl

/-- A slot is stamped (R76, R77). -/
theorem State.ledger_stampSlot (n k : Nat) (final : Bool) :
    (s.stampSlot n k final).ledger g held = (s.ledger g held).stamp n k := by
  have stamped := State.ledger_modifyClip ((s.setSlot n { s.sb.slot n with
    state := .queued, clip := some k, final := final
    sequence := some ((s.clc.clip k).elim 0 (·.slotCount)) }).writeSlot n 0 (slotHeader { s.sb.slot n with
      state := .queued, clip := some k, final := final
      sequence := some ((s.clc.clip k).elim 0 (·.slotCount)) })) g held k Ledger.counted
    fun r => ClipRecord.stamped_account r (s.sb.slot n).firstSync
  rw [State.ledger_writeSlot, State.ledger_setSlot] at stamped
  refine (congrArg (fun M : Ledger => { M with queue := M.queue ++ [n] }) stamped).trans ?_
  rw [Ledger.stamp, State.tag_ledger]
  rfl

/-- A trailer is formed in a slot (R132, R133). -/
theorem State.ledger_formTrailer (c : ClipRecord) (n : Nat) :
    (s.formTrailer c n).ledger g held = (s.ledger g held).form c.account n := by
  have formed := State.ledger_modifyClip ((((s.powerQuarter n).setSlot n (trailerRecord c s.smn.partTime)).writeSlot n 0
    (slotHeader (trailerRecord c s.smn.partTime))).writeSlot n 64 (trailerBody c)) g held c.number
    (f := fun r => { r with trailerFormed := true }) (fun r => { r with formed := true })
  rw [State.ledger_writeSlot, State.ledger_writeSlot, State.ledger_setSlot] at formed
  exact congrArg (fun M : Ledger => { M with queue := n :: M.queue }) formed

/-- The trailer test (R132). -/
theorem State.trailerTest_tested : (s.ledger g held).Tested (s.trailerTest.ledger g held) := by
  have due := s.due_ledger (g := g) (held := held)
  unfold State.trailerTest
  cases own : s.clc.trailerDue with
  | none =>
    rw [own] at due
    exact .calm due
  | some c =>
    rw [own] at due
    cases free : s.sb.lowestFree with
    | none =>
      refine .full fun m low => ?_
      have := State.lowestFree_eq_none.mp free m low
      simpa [State.ledger] using this
    | some n =>
      obtain ⟨low, none_there, -⟩ := State.lowestFree_eq_some.mp free
      dsimp only
      rw [State.ledger_formTrailer]
      exact .formed c.account n due low (by simp [State.ledger, none_there])

end

/-! ### The form of the DRAM and the order of the slot table -/

theorem setEntry_pairwise (n : Nat) (r : SlotRecord) {slots : List (Nat × SlotRecord)}
    (order : slots.Pairwise fun p q => p.1 < q.1) : (setEntry n r slots).Pairwise fun p q => p.1 < q.1 := by
  have keys : ∀ (low : Nat) (l : List (Nat × SlotRecord)), low < n → (∀ p ∈ l, low < p.1) → ∀ p ∈ setEntry n r l, low < p.1 := by
    intro low l less
    induction l with
    | nil => simp [setEntry, less]
    | cons q rest ih =>
      intro above p mem
      obtain ⟨first, above⟩ := List.forall_mem_cons.mp above
      simp only [setEntry] at mem
      split at mem
      · rcases List.mem_cons.mp mem with rfl | mem
        · exact less
        · rcases List.mem_cons.mp mem with rfl | mem
          · exact first
          · exact above p mem
      · split at mem
        · rcases List.mem_cons.mp mem with rfl | mem
          · exact less
          · exact above p mem
        · rcases List.mem_cons.mp mem with rfl | mem
          · exact first
          · exact ih above p mem
  induction slots with
  | nil => simp [setEntry]
  | cons q rest ih =>
    obtain ⟨above, order⟩ := List.pairwise_cons.mp order
    simp only [setEntry]
    split
    · next less =>
      refine List.pairwise_cons.mpr ⟨fun p mem => ?_, List.pairwise_cons.mpr ⟨above, order⟩⟩
      rcases List.mem_cons.mp mem with rfl | mem
      · exact less
      · exact less.trans (above p mem)
    · split
      · next same => exact List.pairwise_cons.mpr ⟨fun p mem => same ▸ above p mem, order⟩
      · next less other =>
        exact List.pairwise_cons.mpr ⟨keys q.1 rest (by omega) above, ih order⟩

namespace State.Tidies

variable {s t u : State}

theorem refl (s : State) : s.Tidies s := ⟨id, id⟩

theorem trans (h : s.Tidies t) (k : t.Tidies u) : s.Tidies u := ⟨k.mem ∘ h.mem, k.order ∘ h.order⟩

/-- An operation that changes neither the slot table nor the DRAM. -/
theorem same (h : s.Tidies t) (mem : u.sb.mem = t.sb.mem := by rfl) (slots : u.sb.slots = t.sb.slots := by rfl) :
    s.Tidies u :=
  ⟨fun m => by simpa only [State.memoryOk, mem] using h.mem m, fun o => by simpa only [State.inOrder, slots] using h.order o⟩

theorem setSlot (h : s.Tidies t) (n : Nat) (r : SlotRecord) : s.Tidies (t.setSlot n r) :=
  ⟨h.mem, fun o => setEntry_pairwise n r (h.order o)⟩

theorem freeSlots (h : s.Tidies t) (ns : List Nat) : s.Tidies (t.freeSlots ns) := ⟨h.mem, fun o => (h.order o).filter _⟩

theorem writeSlot (h : s.Tidies t) (n o : Nat) (bs : List Byte) : s.Tidies (t.writeSlot n o bs) := by
  refine ⟨fun m => State.writeSlot_wf n o bs (h.mem m), fun k => ?_⟩
  have slots : (t.writeSlot n o bs).sb.slots = t.sb.slots := by unfold State.writeSlot; split <;> rfl
  simpa only [State.inOrder, slots] using h.order k

theorem stampSlot (h : s.Tidies t) (n k : Nat) (final : Bool) : s.Tidies (t.stampSlot n k final) :=
  same ((h.setSlot n _).writeSlot n 0 _)

theorem formTrailer (h : s.Tidies t) (c : ClipRecord) (n : Nat) : s.Tidies (t.formTrailer c n) :=
  same ((((h.same : s.Tidies (t.powerQuarter n)).setSlot n _).writeSlot n 0 _).writeSlot n 64 _)

theorem trailerTest (h : s.Tidies t) : s.Tidies t.trailerTest := by
  unfold State.trailerTest; split
  · exact h.formTrailer _ _
  · exact h

end State.Tidies

/-! ### Moves -/

namespace State.Runs

variable {G : Prop} {L : Ledger} {s t u : State} {g f : Option Nat} {held rest : List Nat}

/-- The event begins. -/
theorem start (G : Prop) (s : State) : s.Runs G (s.ledger s.flight []) s s.flight [] :=
  ⟨.refl s, fun _ _ => .refl⟩

theorem placed (h : s.Runs G L t g held) (slotted : s.slotted) (p : L.Placed) : (t.ledger g held).Placed :=
  (h.path slotted p).placed p

/-- The next operation makes moves. -/
theorem then_path (h : s.Runs G L t g held) (tidies : t.Tidies u)
    (path : s.slotted → (t.ledger g held).Placed → Ledger.Path G (t.ledger g held) (u.ledger f rest)) :
    s.Runs G L u f rest :=
  ⟨h.toTidies.trans tidies, fun slotted p => (h.path slotted p).trans (path slotted (h.placed slotted p))⟩

/-- The next operation makes one move. -/
theorem then_move (h : s.Runs G L t g held) (tidies : t.Tidies u)
    (move : (t.ledger g held).Placed → Ledger.Move G (t.ledger g held) (u.ledger f rest)) : s.Runs G L u f rest :=
  h.then_path tidies fun _ p => .single (move p)

/-- The next operation makes one move, to a ledger in a form of its own. -/
theorem move_to (h : s.Runs G L t g held) (tidies : t.Tidies u) {M : Ledger} (ledger : u.ledger f rest = M)
    (move : (t.ledger g held).Placed → Ledger.Move G (t.ledger g held) M) : s.Runs G L u f rest :=
  h.then_move tidies fun p => ledger.symm ▸ move p

/-- The next operation leaves the ledger as it is. -/
theorem same (h : s.Runs G L t g held) (ledger : u.ledger g held = t.ledger g held) (tidies : t.Tidies u) :
    s.Runs G L u g held :=
  h.then_path tidies fun _ _ => by rw [ledger]; exact .refl

/-- The next operation changes neither the buffer nor the recorder. -/
theorem other (h : s.Runs G L t g held) (sb : u.sb = t.sb := by simp) (clc : u.clc = t.clc := by simp) :
    s.Runs G L u g held :=
  h.same (State.ledger_eq t g held sb clc) (State.Tidies.same (.refl t) (by rw [sb]) (by rw [sb]))

/-- The trailer test (R132). -/
theorem trailerTest (h : s.Runs G L t g held) : s.Runs G L t.trailerTest g held :=
  h.then_move (State.Tidies.trailerTest (.refl t)) fun _ => .test _ _ (t.trailerTest_tested g held)

theorem splitTest (h : s.Runs G L t g held) (b : Bool) : s.Runs G L (t.splitTest b) g held := by
  unfold State.splitTest; split
  · exact h.trailerTest
  · exact h

/-- A clip record changes beside its account. -/
theorem modifyClip (h : s.Runs G L t g held) (n : Nat) {f : ClipRecord → ClipRecord}
    (account : ∀ r, (f r).account = r.account := by exact fun _ => rfl) : s.Runs G L (t.modifyClip n f) g held :=
  h.same (t.ledger_modifyClip_same g held n account) (State.Tidies.same (.refl t))

/-- A clip's gap count rises (R169). -/
theorem addGap (h : s.Runs G L t g held) (n : Nat) : s.Runs G L (t.addGap n) g held :=
  h.same (t.ledger_addGap g held n) (.same (.refl t) (by simp) (by simp))

theorem discardRecord (h : s.Runs G L t g held) : s.Runs G L t.discardRecord g held :=
  h.same (t.ledger_discardRecord g held) (.same (.refl t) (by simp) (by simp))

theorem settleSplit (h : s.Runs G L t g held) (appended : Bool) : s.Runs G L (t.settleSplit appended) g held :=
  h.same (t.ledger_settleSplit g held appended) (.same (.refl t) (by simp) (by simp))

end State.Runs

end Sys2Proof.Machine
end

section
/-!
The path of an operation of the slot buffer in the ledger: closing, the pre-roll ring, opening, appending, and the forced
split (R72 to R85, R131).
-/
set_option Elab.async false

namespace Sys2Proof.Machine

/-! ### What the buffer's operations leave of the recorder -/

section
variable {s t : State}

/-- The recorder mode and the drain. -/
def State.posture (s : State) : Mode × Option Drain := (s.clc.mode, s.clc.drain)

/-- Slots can be FILLING (R72). -/
def State.busy (s : State) : Prop := s.clc.mode ≠ .idle ∨ s.clc.drain ≠ none

theorem State.posture_of_face (face : t.face = s.face) : t.posture = s.posture :=
  Prod.ext (congrArg (·.mode) face) (congrArg (·.drain) face)

theorem State.mode_of_posture (posture : t.posture = s.posture) : t.clc.mode = s.clc.mode := congrArg Prod.fst posture

theorem State.busy_of_posture (busy : s.busy) (posture : t.posture = s.posture) : t.busy := by
  have mode : t.clc.mode = s.clc.mode := congrArg Prod.fst posture
  have drain : t.clc.drain = s.clc.drain := congrArg Prod.snd posture
  simpa only [State.busy, mode, drain] using busy

theorem State.splitClip_posture (s : State) (k : Nat) : (s.splitClip k).posture = s.posture := by
  unfold State.splitClip State.addClip
  split <;> rfl

theorem State.closeFull_posture (s : State) : s.closeFull.posture = s.posture := by
  unfold State.closeFull; split
  · exact (State.splitClip_posture _ _).trans (State.posture_of_face (s.closeSlot_face _ true))
  · exact State.posture_of_face (s.closeSlot_face _ false)

theorem State.closeIfFull_posture (s : State) (n : Nat) : (s.closeIfFull n).posture = s.posture := by
  unfold State.closeIfFull; split
  · exact (State.posture_of_face (State.splitTest_face _ _)).trans s.closeFull_posture
  · rfl

theorem State.appendOpen_posture (s : State) (k : RecordKind) (g : Byte) (y : Bool) (p : List Byte) :
    (s.appendOpen k g y p).1.posture = s.posture := by
  have opened : State.posture (if s.sb.filling.isNone then s.openFilling else s) = s.posture := by
    split
    · exact State.posture_of_face s.openFilling_face
    · rfl
  simp only [State.appendOpen]; split
  · exact (State.posture_of_face (State.overrunStart_face _)).trans opened
  · exact ((State.closeIfFull_posture _ _).trans (State.posture_of_face (State.placeRecord_face _ _ _ _ _ _))).trans opened

theorem State.appendRecord_posture (s : State) (k : RecordKind) (g : Byte) (y : Bool) (p : List Byte) :
    (s.appendRecord k g y p).1.posture = s.posture := by
  unfold State.appendRecord; split
  · exact (State.posture_of_face (State.splitTest_face _ _)).trans
      ((State.appendOpen_posture _ k g y p).trans s.closeFull_posture)
  · exact s.appendOpen_posture k g y p

theorem State.dropMember_filling (s : State) : s.dropMember.sb.filling = s.sb.filling := by
  unfold State.dropMember; split
  · exact (State.trailerTest_places _).1
  · rfl

theorem State.makeRoom_filling (k : Nat) (s : State) : (State.makeRoom k s).sb.filling = s.sb.filling := by
  induction k generalizing s with
  | zero => rfl
  | succ k ih =>
    rw [State.makeRoom]; split
    · exact (ih _).trans s.dropMember_filling
    · rfl

/-- The OPEN clip in the ledger. -/
theorem State.isOpen_ledger {c : ClipRecord} (opened : s.clc.openClip = some c) (g : Option Nat) (held : List Nat) :
    (s.ledger g held).isOpen c.number := by
  obtain ⟨mem, state⟩ := ClipController.openClip_mem opened
  exact ⟨c.account, List.mem_map_of_mem mem, rfl, state⟩

/-- A clip receives slots: the OPEN one while RECORDING, or the draining one (R121). -/
def State.receivesFor (s : State) (k : Nat) : Prop :=
  s.clc.mode = .recording ∧ (∃ c, s.clc.openClip = some c ∧ c.number = k) ∨ ∃ d, s.clc.drain = some d ∧ d.clip = k

theorem State.receivesFor_of_receiving {k : Nat} (receiving : s.clc.receiving = some k) : s.receivesFor k := by
  unfold ClipController.receiving at receiving
  split at receiving
  · cases receiving
  · next mode => exact .inl ⟨mode, Option.map_eq_some_iff.mp receiving⟩
  · exact .inr (Option.map_eq_some_iff.mp receiving)

theorem State.receives_ledger {k : Nat} (receives : s.receivesFor k) (g : Option Nat) (held : List Nat) :
    (s.ledger g held).mode = .recording ∧ (s.ledger g held).isOpen k ∨ (s.ledger g held).drain = some k := by
  rcases receives with ⟨mode, c, opened, rfl⟩ | ⟨d, runs, rfl⟩
  · exact .inl ⟨mode, State.isOpen_ledger opened g held⟩
  · exact .inr (by simp [State.ledger, runs])

/-- A record can be opened or dropped (R123). -/
theorem State.room_ledger (free : s.clc.recordFree = true) (g : Option Nat) (held : List Nat) :
    (s.ledger g held).clips.length < 4 ∨ ∃ r ∈ (s.ledger g held).clips, r.state = .closed ∨ r.state = .aborted := by
  simp only [ClipController.recordFree, Bool.or_eq_true, decide_eq_true_eq, List.any_eq_true] at free
  rcases free with short | ⟨r, mem, ended⟩
  · exact .inl (by simpa [State.ledger] using short)
  · exact .inr ⟨r.account, List.mem_map_of_mem mem, ended⟩

/-- A clip opens (R123). -/
theorem State.ledger_addClip (locked : Bool) (g : Option Nat) (held : List Nat) {k : Nat} (next : s.clc.nextClip = some k) :
    (s.addClip locked).ledger g held = (s.ledger g held).opens k := by
  unfold State.addClip
  rw [next]
  refine Ledger.ext rfl rfl rfl rfl rfl rfl rfl rfl ?_ rfl rfl
  show ((if 4 ≤ s.clc.clips.length then dropOldest s.clc.clips else s.clc.clips) ++ _).map ClipRecord.account =
    Ledger.kept (s.clc.clips.map ClipRecord.account) ++ _
  rw [List.map_append, Ledger.kept, List.length_map]
  congr 1
  split
  · rw [List.eraseP_map]; rfl
  · rfl

/-- The OPEN clip ends by a split, and the next one opens (R130, R131). -/
theorem State.ledger_splitClip (g : Option Nat) (held : List Nat) {k j : Nat} (next : s.clc.nextClip = some j) :
    (s.splitClip k).ledger g held = (s.ledger g held).split k j := by
  have ends := s.ledger_modifyClip g held k (f := fun r => { r with
    state := .closing, endReason := some .split, dataDone := true })
    (fun r => { r with state := .closing, dataDone := true })
  have opened := State.ledger_addClip (s := s.modifyClip k (fun r => { r with
    state := .closing, endReason := some .split, dataDone := true })) false g held (k := j) next
  exact opened.trans (congrArg (Ledger.opens · j) ends)

end

/-! ### Closing (R74 to R78) -/

namespace State.Runs

variable {G : Prop} {L : Ledger} {s t u : State} {g f : Option Nat} {held rest : List Nat} {n k : Nat}

/-- The oldest member leaves the ring (R78, R79). -/
theorem dropMember (h : s.Runs G L t g held) : s.Runs G L t.dropMember g held := by
  unfold State.dropMember; split
  · next o rest members =>
    refine trailerTest (h.then_move (.freeSlots (.same (.refl t)) [o]) fun _ => ?_)
    rw [State.ledger_freeSlots]
    have erased : ({ t.ledger g held with ring := rest } : Ledger).erase [o] =
        { (t.ledger g held).put o none with ring := rest } := by
      simp [Ledger.erase, Ledger.put]
    exact erased ▸ Ledger.Move.drop _ o rest members
  · exact h

/-- A slot held joins the ring (R78). -/
theorem joinRing (h : s.Runs G L t g [n]) (armed : t.clc.mode = .armed) : s.Runs G L (t.joinRing n) g [] := by
  have enters : ∀ u : State, u.clc.mode = .armed → (u.enterRing n).ledger g [] =
      { (u.ledger g [n]).put n (some { (u.ledger g [n]).tag n with state := .preroll }) with
        held := [], ring := u.sb.ring ++ [n] } := fun u mode => by
    rw [State.tag_ledger]
    exact congrArg (fun M : Ledger => { M with ring := M.ring ++ [n] }) (u.ledger_setSlot g [] n _)
  have joins : ∀ u : State, u.clc.mode = .armed → u.sb.ring.length < u.clc.table.prerollDepth →
      Ledger.Move G (u.ledger g [n]) ((u.enterRing n).ledger g []) := fun u mode room => by
    rw [enters u mode]
    exact .join _ n rfl mode room
  have tidies : ∀ u : State, u.Tidies (u.enterRing n) := fun u => State.Tidies.same (.setSlot (.refl u) n _)
  unfold State.joinRing; split
  · next full =>
    have dropped : s.Runs G L t.dropMember g [n] := h.dropMember
    have mode : t.dropMember.clc.mode = .armed :=
      (State.mode_of_posture (State.posture_of_face t.dropMember_face)).trans armed
    refine ⟨dropped.toTidies.trans (tidies _), fun slotted p => (dropped.path slotted p).tail (joins _ mode ?_)⟩
    obtain ⟨fits, room⟩ := (h.placed slotted p).depth armed
    have table : t.dropMember.clc.table = t.clc.table := by
      have := t.dropMember_observed
      simp only [State.observed, Observed.mk.injEq] at this
      exact this.2.2.2.2.2.2.2.2.2.1
    have ring : t.dropMember.sb.ring = t.sb.ring.tail := by
      unfold State.dropMember; split
      · next members => rw [members]; exact (State.trailerTest_places _).2.1
      · next none_there => rw [none_there]; rfl
    rw [table, ring, List.length_tail]
    have fits : t.sb.ring.length ≤ t.clc.table.prerollDepth := fits
    have room : 0 < t.clc.table.prerollDepth := room
    omega
  · next short => exact h.then_move (tidies t) fun _ => joins t armed (Nat.lt_of_not_le short)

/-- The FILLING slot is finished and leaves its place (R74). -/
theorem leaves (n : Nat) (t : State) : State.Tidies t ((t.padSlot n).setBuffer (fun b => { b with filling := none })) ∧
    ((t.padSlot n).setBuffer (fun b => { b with filling := none })).ledger g held =
      { t.ledger g held with filling := none } :=
  ⟨.same (.writeSlot (.refl t) n _ _), congrArg (fun M : Ledger => { M with filling := none }) (t.ledger_writeSlot g held n _ _)⟩

theorem ledger_sizeTest (t : State) (k : Nat) : (t.sizeTest k).ledger g held = t.ledger g held := by
  unfold State.sizeTest; (repeat' split) <;> rfl

theorem tidies_sizeTest (t : State) (k : Nat) : t.Tidies (t.sizeTest k) := by
  unfold State.sizeTest
  (repeat' split) <;> exact .same (.refl t)

/-- The FILLING slot is stamped for a clip and joins the write queue (R75, R77). -/
theorem closeSlot_stamps (filling : t.sb.filling = some n) (unarmed : t.clc.mode ≠ .armed) (k : Nat) (final : Bool) :
    t.Tidies (t.closeSlot (some k) final) ∧
      (t.closeSlot (some k) final).ledger g held = { (t.ledger g held).stamp n k with filling := none } := by
  obtain ⟨tidies, ledger⟩ := leaves (g := g) (held := held) n t
  have closed : t.closeSlot (some k) final =
      (((t.padSlot n).setBuffer (fun b => { b with filling := none })).stampSlot n k final).sizeTest k := by
    simp [State.closeSlot, filling, unarmed]
  rw [closed]
  refine ⟨(tidies.stampSlot n k final).trans (tidies_sizeTest _ k), ?_⟩
  rw [ledger_sizeTest, State.ledger_stampSlot, ledger]
  rfl

/-- A slot that closes leaves the FILLING place (R75). -/
theorem closeSlot_unfilled (t : State) (k : Nat) (final : Bool) : (t.closeSlot (some k) final).sb.filling = none := by
  cases filling : t.sb.filling with
  | none => rwa [State.closeSlot_none filling]
  | some n =>
    by_cases armed : t.clc.mode = .armed
    · have joins : t.closeSlot (some k) final =
          ((t.padSlot n).setBuffer (fun b => { b with filling := none })).joinRing n := by
        simp [State.closeSlot, filling, armed]
      rw [joins, State.joinRing]
      split
      · exact State.dropMember_filling _
      · rfl
    · exact congrArg Ledger.filling (closeSlot_stamps (g := none) (held := []) filling armed k final).2

/-- The FILLING slot closes for a clip that receives slots, or into the ring (R75). -/
theorem closeSlot (h : s.Runs G L t g []) (clip : Option Nat) (final : Bool)
    (receives : ∀ k, clip = some k → t.clc.mode ≠ .armed → t.receivesFor k) : s.Runs G L (t.closeSlot clip final) g [] := by
  cases filling : t.sb.filling with
  | none => rwa [State.closeSlot_none filling]
  | some n =>
    obtain ⟨tidies, -⟩ := leaves (g := g) (held := []) n t
    have hold : s.Runs G L ((t.padSlot n).setBuffer (fun b => { b with filling := none })) g [n] :=
      h.then_move tidies fun _ => (leaves (g := g) (held := [n]) n t).2 ▸ Ledger.Move.hold _ n filling rfl
    by_cases armed : t.clc.mode = .armed
    · have joins : t.closeSlot clip final = ((t.padSlot n).setBuffer (fun b => { b with filling := none })).joinRing n := by
        simp [State.closeSlot, filling, armed]
      exact joins ▸ hold.joinRing (by simp [armed])
    · cases clip with
      | some k =>
        obtain ⟨tidies, ledger⟩ := closeSlot_stamps (g := g) (held := []) filling armed k final
        exact h.then_move tidies fun _ => ledger ▸
          .stamp _ n k filling (State.receives_ledger (receives k rfl armed) g [])
      | none =>
        have frees : t.closeSlot none final =
            ((t.padSlot n).setBuffer (fun b => { b with filling := none })).release [n] := by
          simp [State.closeSlot, filling, armed]
        rw [frees]
        refine trailerTest (hold.then_move (.freeSlots (.refl _) [n]) fun _ => ?_)
        rw [State.ledger_freeSlots]
        exact .free _ [n] [] rfl

/-- The FILLING slot closes FINAL for the OPEN clip, which ends by a split (R130, R131). -/
theorem splitClip (h : s.Runs G L t g []) {c : ClipRecord} {j : Nat} (filling : t.sb.filling = some n)
    (mode : t.clc.mode = .recording) (opened : t.clc.openClip = some c) (next : t.clc.nextClip = some j)
    (room : (t.ledger g []).roomy) : s.Runs G L ((t.closeSlot (some c.number) true).splitClip c.number) g [] := by
  obtain ⟨tidies, ledger⟩ := closeSlot_stamps (g := g) (held := []) filling (by simp [mode]) c.number true
  have after : (t.closeSlot (some c.number) true).clc.nextClip = some j :=
    (congrArg RecorderFace.nextClip (t.closeSlot_face (some c.number) true)).trans next
  have split : ((t.closeSlot (some c.number) true).splitClip c.number).ledger g [] =
      { ((t.ledger g []).stamp n c.number).split c.number j with filling := none } := by
    rw [State.ledger_splitClip g [] after, ledger]
    rfl
  exact h.then_move (tidies.same (by simp) (by simp)) fun _ => split ▸
    .stampSplit _ n c.number j filling mode (State.isOpen_ledger opened g []) next room

/-- The FILLING slot closes as full, with a forced split where one is due (R73, R131). -/
theorem closeFull (h : s.Runs G L t g []) (filling : t.sb.filling = some n) : s.Runs G L t.closeFull g [] := by
  unfold State.closeFull; split
  · next c forced opened =>
    simp only [State.forcesSplit, Bool.and_eq_true, decide_eq_true_eq] at forced
    obtain ⟨⟨⟨mode, -⟩, free⟩, more⟩ := forced
    obtain ⟨j, next⟩ := Option.isSome_iff_exists.mp more
    exact h.splitClip filling mode opened next ((State.room_ledger free g []).imp_right .inl)
  · exact h.closeSlot _ false fun k receiving _ => State.receivesFor_of_receiving receiving

/-! ### Opening and appending (R73, R79, R83) -/

theorem makeRoom (h : s.Runs G L t g held) (k : Nat) : s.Runs G L (State.makeRoom k t) g held := by
  induction k generalizing t with
  | zero => exact h
  | succ k ih =>
    rw [State.makeRoom]; split
    · exact ih h.dropMember
    · exact h

theorem fillLowest (h : s.Runs G L t g []) (unfilled : t.sb.filling = none) (busy : t.busy) :
    s.Runs G L t.fillLowest g [] := by
  unfold State.fillLowest; split
  · next n free =>
    obtain ⟨low, none_there, -⟩ := State.lowestFree_eq_some.mp free
    have filled : (t.fillSlot n).ledger g [] = (t.ledger g []).fill n :=
      congrArg (fun M : Ledger => { M with filling := some n }) (t.ledger_setSlot g [] n { SlotRecord.free with state := .filling })
    refine h.then_move (.same (.setSlot (.refl t) n { SlotRecord.free with state := .filling })) fun _ => filled ▸ ?_
    refine .fill _ n unfilled (by simp [State.ledger, none_there]) low ?_
    simpa [State.busy, State.ledger] using busy
  · exact h

theorem openFilling (h : s.Runs G L t g []) (unfilled : t.sb.filling = none) (busy : t.busy) :
    s.Runs G L t.openFilling g [] := by
  have face : ∀ k, (State.makeRoom k t).face = t.face := fun k => State.makeRoom_face t k
  exact (h.makeRoom _).fillLowest ((State.makeRoom_filling _ t).trans unfilled)
    (State.busy_of_posture busy (State.posture_of_face (face _)))

/-- A change of a listed slot's record that keeps its tag. -/
theorem setSlot (h : s.Runs G L t g held) (n : Nat) {r : SlotRecord} (tag : r.tag = (t.sb.slot n).tag)
    (listed : s.slotted → (t.ledger g held).Placed → n ∈ (t.ledger g held).placed) : s.Runs G L (t.setSlot n r) g held := by
  refine h.then_path (.setSlot (.refl t) n r) fun slotted p => ?_
  have same : (t.setSlot n r).ledger g held = t.ledger g held := by
    rw [State.ledger_setSlot]
    refine Ledger.ext (funext fun m => ?_) rfl rfl rfl rfl rfl rfl rfl rfl rfl rfl
    show (if m = n then some r.tag else (t.sb.slots.lookup m).map SlotRecord.tag) = (t.sb.slots.lookup m).map SlotRecord.tag
    split
    · next e => rw [e, State.listed p (listed slotted p), tag]; rfl
    · rfl
  rw [same]
  exact .refl

theorem placeRecord (h : s.Runs G L t g held) (filling : t.sb.filling = some n) (kind : RecordKind) (flags : Byte) (sync : Bool)
    (payload : List Byte) : s.Runs G L (t.placeRecord n kind flags sync payload) g held := by
  have written : s.Runs G L (t.writeSlot n (t.sb.slot n).fill (recordBytes kind flags t.smn.partTime payload)) g held :=
    h.same (t.ledger_writeSlot g held _ _ _) (.writeSlot (.refl t) _ _ _)
  have places : (t.writeSlot n (t.sb.slot n).fill (recordBytes kind flags t.smn.partTime payload)).sb.slot n = t.sb.slot n ∧
      (t.writeSlot n (t.sb.slot n).fill (recordBytes kind flags t.smn.partTime payload)).sb.filling = t.sb.filling := by
    unfold State.writeSlot; split <;> exact ⟨rfl, rfl⟩
  refine written.setSlot n ?_ fun _ _ => ?_
  · rw [places.1]; rfl
  · simp [Ledger.placed, State.ledger, places.2, filling]

theorem overrunStart (h : s.Runs G L t g held) : s.Runs G L t.overrunStart g held :=
  h.same (by unfold State.overrunStart; split <;> rfl) (by unfold State.overrunStart; split <;> exact .same (.refl t))

theorem appendOpen (h : s.Runs G L t g []) (busy : t.busy) (kind : RecordKind) (flags : Byte) (sync : Bool)
    (payload : List Byte) : s.Runs G L (t.appendOpen kind flags sync payload).1 g [] := by
  have opened : s.Runs G L (if t.sb.filling.isNone then t.openFilling else t) g [] := by
    split
    · next unfilled => exact h.openFilling (Option.isNone_iff_eq_none.mp unfilled) busy
    · exact h
  simp only [State.appendOpen]
  generalize (if t.sb.filling.isNone then t.openFilling else t) = u at opened ⊢
  split
  · exact opened.overrunStart
  · next n filling =>
    have placed := opened.placeRecord filling kind flags sync payload
    have filling : (u.placeRecord n kind flags sync payload).sb.filling = some n := by
      unfold State.placeRecord State.writeSlot; split <;> exact filling
    dsimp only [State.closeIfFull]
    split
    · exact (placed.closeFull filling).splitTest _
    · exact placed

theorem appendRecord (h : s.Runs G L t g []) (busy : t.busy) (kind : RecordKind) (flags : Byte) (sync : Bool)
    (payload : List Byte) : s.Runs G L (t.appendRecord kind flags sync payload).1 g [] := by
  unfold State.appendRecord; split
  · next full =>
    obtain ⟨n, filling⟩ : ∃ n, t.sb.filling = some n := by
      unfold State.needsRoom at full
      split at full
      · next n filling => exact ⟨n, filling⟩
      · cases full
    exact ((h.closeFull filling).appendOpen (State.busy_of_posture busy t.closeFull_posture) kind flags sync payload).splitTest _
  · exact h.appendOpen busy kind flags sync payload

theorem handRecord (h : s.Runs G L t g []) (busy : t.busy) (kind : RecordKind) (payload : List Byte) :
    s.Runs G L (t.handRecord kind payload) g [] := by
  have appended := h.appendRecord busy kind 0 false payload
  simp only [State.handRecord]; split
  · exact appended
  · exact appended.discardRecord

theorem handVideo (h : s.Runs G L t g []) (busy : t.busy) (sync frameEnd last gap : Bool) (payload : List Byte) :
    s.Runs G L (t.handVideo sync frameEnd last gap payload).1 g [] := by
  have appended := fun flags => h.appendRecord busy .video flags sync payload
  simp only [State.handVideo]; split
  · exact h.discardRecord
  · dsimp only; split
    · exact (appended _).same rfl (.same (.refl _))
    · exact (appended _).discardRecord

/-! ### The motion queue (R85) -/

theorem pumpRecords (h : s.Runs G L t g []) (busy : t.busy) (k : Nat) : s.Runs G L (State.pumpRecords k t) g [] := by
  induction k generalizing t with
  | zero => exact h
  | succ k ih =>
    have appended := h.appendRecord busy .motion 0 false (motionPayload (t.me.queue.take 32))
    have posture := t.appendRecord_posture .motion 0 false (motionPayload (t.me.queue.take 32))
    simp only [State.pumpRecords]; split
    · exact h
    · split
      · exact ih appended.other (State.busy_of_posture busy posture)
      · exact appended

theorem pump (h : s.Runs G L t g []) (busy : t.busy) : s.Runs G L t.pump g [] := h.pumpRecords busy _

theorem retryMotion (h : s.Runs G L t g []) : s.Runs G L t.retryMotion g [] := by
  unfold State.retryMotion; split
  · exact h
  · next mode => exact h.pump (.inl mode)

end State.Runs

end Sys2Proof.Machine
end

section
/-!
The path of an operation of the recorder in the ledger: arming, starts, the ends of a clip and CLIP cells (R80, R81, R121 to
R131, R136).
-/
set_option Elab.async false

namespace Sys2Proof.Machine

/-- The trailer test reads nothing of the mode (R132). -/
theorem Ledger.Tested.mode {L M : Ledger} (h : L.Tested M) (m : Mode) : Tested { L with mode := m } { M with mode := m } := by
  cases h with
  | calm due => exact .calm due
  | full taken => exact .full taken
  | formed c n due low free => exact .formed c n due low free

section
variable {s : State} {k : Nat}

/-- The OPEN clip as the face shows it. -/
theorem State.isOpen_of_face {locked : Bool} (shown : (k, .opened, locked) ∈ s.face.clips) (g : Option Nat)
    (held : List Nat) : (s.ledger g held).isOpen k := by
  obtain ⟨r, mem, number, state, -⟩ := State.mem_face shown
  exact ⟨r.account, List.mem_map_of_mem mem, number, state⟩

@[simp] theorem State.ledger_lockPartial (s : State) (g : Option Nat) (held : List Nat) :
    (s.lockPartial k).ledger g held = s.ledger g held := by
  unfold State.lockPartial; split
  · split
    · rfl
    · exact s.ledger_modifyClip_same g held k
  · rfl

@[simp] theorem State.ledger_addLock (s : State) (f n : Nat) (g : Option Nat) (held : List Nat) :
    (s.addLock k f n).ledger g held = s.ledger g held := by
  unfold State.addLock; split
  · exact s.ledger_lockPartial g held
  · split
    · rfl
    · exact s.ledger_lockPartial g held

theorem State.ledger_addLocks (s : State) (l : List (Nat × Nat)) (g : Option Nat) (held : List Nat) :
    (s.addLocks k l).ledger g held = s.ledger g held := by
  induction l generalizing s with
  | nil => rfl
  | cons r rest ih => rw [State.addLocks, ih, State.ledger_addLock]

end

namespace State.Runs

variable {G : Prop} {L : Ledger} {s t u : State} {g f : Option Nat} {held rest : List Nat} {n k : Nat}

/-- The operation changes the recorder beside what the ledger reads. -/
theorem setRecorder (h : s.Runs G L t g held) (f : ClipController → ClipController)
    (same : (t.setRecorder f).ledger g held = t.ledger g held := by rfl) : s.Runs G L (t.setRecorder f) g held :=
  h.same same (.same (.refl t))

/-! ### ARM and DISARM (R80, R124, R125) -/

theorem disarmNow (h : s.Runs G L t g []) (armed : t.clc.mode = .armed) : s.Runs G L t.disarmNow g [] := by
  have tidies : t.Tidies t.disarmNow :=
    (State.Tidies.trailerTest (.freeSlots (.same (.refl t)) (t.sb.ring ++ t.sb.filling.toList)) :
      t.Tidies (t.prerollDropped.freeSlots (t.sb.ring ++ t.sb.filling.toList)).trailerTest).same
  have freed : (t.prerollDropped.freeSlots (t.sb.ring ++ t.sb.filling.toList)).ledger g [] =
      { (t.ledger g []).erase (t.sb.ring ++ t.sb.filling.toList) with ring := [], filling := none } := by
    rw [State.ledger_freeSlots]; rfl
  have tested := ((t.prerollDropped.freeSlots (t.sb.ring ++ t.sb.filling.toList)).trailerTest_tested g []).mode .idle
  rw [freed] at tested
  exact h.then_path tidies fun _ _ => (Relation.ReflTransGen.single (.disarm _ armed rfl)).tail (.test _ _ tested)

theorem disarm (h : s.Runs G L t g []) : s.Runs G L t.disarm.1 g [] := by
  unfold State.disarm; split
  · next armed => exact h.disarmNow armed
  · exact h
  · exact h

theorem arm (h : s.Runs G L t g []) : s.Runs G L t.arm.1 g [] := by
  unfold State.arm; split
  · exact h
  · next free =>
    rw [State.armAnswer_eq] at free
    split_ifs at free with standby recording armed ending depth low
    have mode : t.clc.mode = .idle := by cases mode : t.clc.mode <;> simp_all
    have drain : t.clc.drain = none := not_not.mp fun runs => ending (.inl runs)
    exact h.then_move (.same (.refl t)) fun _ => .arm _ mode (by simp [State.ledger, drain]) (Nat.pos_of_ne_zero depth)

/-! ### Starts (R81, R126) -/

/-- The slots held, from the ring, become the clip's first slots (R81). -/
theorem stampAll {locked : Bool} (ns : List Nat) (h : s.Runs G L t g ns) (mode : t.clc.mode = .recording)
    (shown : (k, .opened, locked) ∈ t.face.clips) : s.Runs G L (t.stampAll k ns) g [] := by
  induction ns generalizing t with
  | nil => exact h
  | cons n ns ih =>
    have face := t.stampSlot_face n k false
    have stamps : s.Runs G L (t.stampSlot n k false) g ns :=
      h.then_move (.stampSlot (.refl t) n k false) fun _ => by
        have stamped : (t.stampSlot n k false).ledger g ns = { (t.ledger g (n :: ns)).stamp n k with held := ns } := by
          rw [State.ledger_stampSlot]; rfl
        exact stamped ▸ .stampHeld _ n k ns rfl mode (State.isOpen_of_face shown g _)
    exact ih stamps ((congrArg RecorderFace.mode face).trans mode) (face ▸ shown)

/-- The pre-roll becomes the clip's first slots: the ring is held, the older slots are given back, and the others are
stamped (R81). -/
theorem takePreroll {locked : Bool} {ring : List Nat} (members : t.sb.ring = ring)
    (h : s.Runs G L (t.setBuffer fun b => { b with ring := [] }) g ring) (mode : t.clc.mode = .recording)
    (shown : (k, .opened, locked) ∈ t.face.clips) : s.Runs G L (t.takePreroll k) g [] := by
  subst members
  have parts := List.takeWhile_append_dropWhile (p := fun n => (t.sb.slot n).firstSync.isNone) (l := t.sb.ring)
  have frees : s.Runs G L ((t.setBuffer fun b => { b with ring := [] }).freeSlots
      (t.sb.ring.takeWhile fun n => (t.sb.slot n).firstSync.isNone)) g
      (t.sb.ring.dropWhile fun n => (t.sb.slot n).firstSync.isNone) :=
    h.then_move (.freeSlots (.refl _) _) fun _ => by
      rw [State.ledger_freeSlots]
      exact .free _ _ _ parts.symm
  have stamps : s.Runs G L (t.prerollToClip k) g [] :=
    frees.trailerTest.stampAll (locked := locked) _ ((congrArg RecorderFace.mode (State.trailerTest_face _)).trans mode)
      ((State.trailerTest_face _).symm ▸ shown)
  unfold State.takePreroll; split
  · exact stamps
  · exact stamps.retryMotion

/-- A recording start that nothing prevents (R126). -/
theorem startClip (h : s.Runs G L t g []) (mode : t.clc.mode ≠ .recording) (free : t.startBlocked = none) (locked : Bool) :
    s.Runs G L (t.startClip locked) g [] := by
  unfold State.startBlocked at free
  split_ifs at free with ending critical exhausted full
  have drain : t.clc.drain = none := by
    simp only [ClipController.ending, Bool.or_eq_true, not_or, Option.not_isSome_iff_eq_none] at ending
    exact ending.1
  obtain ⟨k, next⟩ := Option.ne_none_iff_exists'.mp (mt Option.isNone_iff_eq_none.mpr exhausted)
  have room := State.room_ledger (by simpa using full) g ([] : List Nat)
  have move := Ledger.Move.start (G := G) (t.ledger g []) k mode (by simp [State.ledger, drain]) next rfl room
  obtain ⟨u, opens⟩ : ∃ u, u = (t.addClip locked).setRecorder (fun c => { c with
    mode := .recording, splitDue := false, forcedSplitDue := false }) := ⟨_, rfl⟩
  have started : t.startClip locked = if t.clc.mode = .armed then u.takePreroll k else u := by
    simp only [State.startClip, next, opens]
  have sb : u.sb = t.sb := by simp [opens]
  have ledger : ∀ ns, u.ledger g ns = { (t.ledger g ns).opens k with mode := .recording } := fun ns => by
    rw [opens]
    exact congrArg (fun M : Ledger => { M with mode := .recording }) (State.ledger_addClip (s := t) locked g ns next)
  have shown : (k, .opened, locked) ∈ u.face.clips := by
    simp only [opens, State.addClip, next]
    exact List.mem_map.mpr ⟨_, List.mem_append_right _ (List.mem_singleton_self _), rfl⟩
  rw [started]; split
  · refine takePreroll (locked := locked) rfl (h.move_to (.same (.refl t) ?_ ?_) ?_ fun _ => move) (by rw [opens]; rfl) shown
    · exact congrArg (·.mem) sb
    · exact congrArg (·.slots) sb
    · rw [sb]
      exact congrArg (fun M : Ledger => { M with ring := [] }) (ledger t.sb.ring)
  · next unarmed =>
    refine h.then_move (.same (.refl t) (congrArg (·.mem) sb) (congrArg (·.slots) sb)) fun p => ?_
    have empty : t.sb.ring = [] := p.ring unarmed
    rw [show (t.ledger g []).ring = [] from empty] at move
    rw [ledger]
    have same : ({ (t.ledger g []).opens k with mode := .recording } : Ledger) =
        { (t.ledger g []).opens k with mode := .recording, held := [], ring := [] } :=
      Ledger.ext rfl rfl empty rfl rfl rfl rfl rfl rfl rfl rfl
    exact same ▸ move

theorem startRecord (h : s.Runs G L t g []) : s.Runs G L t.startRecord.1 g [] := by
  unfold State.startRecord; split
  · exact h
  · next free =>
    unfold State.startRefusal at free
    split_ifs at free with standby recording
    exact h.startClip recording free false

/-! ### The end of a clip's data (R128, R129, R136) -/

/-- The data of a clip is done, no drain runs, and the trailer test follows (R129). -/
theorem doneData_path (k : Nat) (t : State) (unfilled : t.sb.filling = none) :
    t.Tidies ((((t.modifyClip k (fun r => { r with dataDone := true })).setRecorder (fun c =>
      { c with drain := none })).setBuffer (fun b => { b with overrun := false })).trailerTest) ∧
    Ledger.Path G { t.ledger g [] with drain := some k }
      (((((t.modifyClip k (fun r => { r with dataDone := true })).setRecorder (fun c =>
        { c with drain := none })).setBuffer (fun b => { b with overrun := false })).trailerTest).ledger g []) := by
  obtain ⟨u, done⟩ : ∃ u, u = ((t.modifyClip k (fun r => { r with dataDone := true })).setRecorder (fun c =>
    { c with drain := none })).setBuffer (fun b => { b with overrun := false }) := ⟨_, rfl⟩
  rw [← done]
  have ledger : u.ledger g [] = { (t.ledger g []).edit k (fun r => { r with dataDone := true }) with drain := none } := by
    rw [done]
    exact congrArg (fun M : Ledger => { M with drain := none }) (t.ledger_modifyClip g [] k
      (f := fun r => { r with dataDone := true }) fun r => { r with dataDone := true })
  have tested := u.trailerTest_tested g []
  rw [ledger] at tested
  refine ⟨.trailerTest (.same (.refl t) (by rw [done]; rfl) (by rw [done]; rfl)), .single ?_⟩
  exact .finish { t.ledger g [] with drain := some k } _ k rfl unfilled rfl tested

/-- The end of a running drain (R129). -/
theorem endDrain (h : s.Runs G L t g []) : s.Runs G L t.endDrain g [] := by
  unfold State.endDrain; split
  · next d drain =>
    have closed := h.closeSlot (some d.clip) true fun k same _ => .inr ⟨d, drain, Option.some.inj same⟩
    have unfilled := closeSlot_unfilled t d.clip true
    have runs : (t.closeSlot (some d.clip) true).clc.drain = some d :=
      (congrArg RecorderFace.drain (t.closeSlot_face (some d.clip) true)).trans drain
    obtain ⟨tidies, path⟩ := doneData_path (G := G) (g := g) d.clip (t.closeSlot (some d.clip) true) unfilled
    have same : ({ (t.closeSlot (some d.clip) true).ledger g [] with drain := some d.clip } : Ledger) =
        (t.closeSlot (some d.clip) true).ledger g [] :=
      Ledger.ext rfl rfl rfl rfl rfl rfl rfl rfl rfl rfl (by simp [State.ledger, runs])
    exact closed.then_path tidies fun _ _ => same ▸ path
  · exact h

/-- The OPEN clip becomes CLOSING and the mode IDLE (R128, R136). -/
theorem endRecording_ledger (t : State) (k : Nat) (reason : EndReason) : (t.endRecording k reason).ledger g held =
    { (t.ledger g held).edit k (fun r => { r with state := .closing }) with mode := .idle } :=
  congrArg (fun M : Ledger => { M with mode := .idle }) (t.ledger_modifyClip g held k
    (f := fun r => { r with state := .closing, endReason := some reason }) fun r => { r with state := .closing })

/-- A recording ends with a drain (R128). -/
theorem startDrain (h : s.Runs G L t g []) {c : ClipRecord} (mode : t.clc.mode = .recording)
    (opened : t.clc.openClip = some c) (reason : EndReason) :
    s.Runs G L ((t.endRecording c.number reason).startDrain c.number) g [] := by
  have runs : s.Runs G L ((t.endRecording c.number reason).setRecorder fun r =>
      { r with drain := some ⟨c.number, (t.endRecording c.number reason).deadlineIn (1000 * r.table.drainTime)⟩ }) g [] :=
    h.move_to (.same (.refl t))
      (congrArg (fun M : Ledger => { M with drain := some c.number }) (endRecording_ledger t c.number reason))
      fun _ => .stop _ c.number mode (State.isOpen_ledger opened g [])
  simp only [State.startDrain]; split
  · exact runs.endDrain
  · exact runs

theorem stopRecord (h : s.Runs G L t g []) : s.Runs G L t.stopRecord.1 g [] := by
  unfold State.stopRecord; split
  · exact h
  · split
    · next mode =>
      split
      · next c opened => exact h.startDrain mode opened .stop
      · exact h
    · exact h

/-- The end of a clip's data outside ARMED (R129). -/
theorem finishClip_path (t : State) (unarmed : t.clc.mode ≠ .armed) (k : Nat) : t.Tidies (t.finishClip k) ∧
    Ledger.Path G { t.ledger g [] with drain := some k } ((t.finishClip k).ledger g []) := by
  obtain ⟨tidies, path⟩ := doneData_path (G := G) (g := g) k (t.closeSlot (some k) true) (closeSlot_unfilled t k true)
  cases filling : t.sb.filling with
  | none =>
    unfold State.finishClip
    rw [State.closeSlot_none filling] at tidies path ⊢
    exact ⟨tidies, path⟩
  | some n =>
    obtain ⟨close_tidies, stamped⟩ := closeSlot_stamps (g := g) (held := []) filling unarmed k true
    have closed : ({ (t.closeSlot (some k) true).ledger g [] with drain := some k } : Ledger) =
        { ({ t.ledger g [] with drain := some k } : Ledger).stamp n k with filling := none } :=
      congrArg (fun M : Ledger => { M with drain := some k }) stamped
    rw [closed] at path
    exact ⟨close_tidies.trans tidies, .head (.stamp _ n k filling (.inr rfl)) path⟩

/-- A power close ends a recording without a drain (R136). -/
theorem closeForPower (h : s.Runs G L t g []) (reason : PowerReason) : s.Runs G L (t.closeForPower reason) g [] := by
  unfold State.closeForPower; split
  · next mode =>
    split
    · next c opened =>
      obtain ⟨tidies, path⟩ := finishClip_path (G := G) (g := g) (t.endRecording c.number reason.endReason) nofun c.number
      have ended : ({ (t.endRecording c.number reason.endReason).ledger g [] with drain := some c.number } : Ledger) =
          { (t.ledger g []).edit c.number (fun r => { r with state := .closing }) with
            mode := .idle, drain := some c.number } :=
        congrArg (fun M : Ledger => { M with drain := some c.number }) (endRecording_ledger t c.number reason.endReason)
      rw [ended] at path
      exact h.then_path (.trans (.same (.refl t)) tidies) fun _ _ =>
        .head (.stop _ c.number mode (State.isOpen_ledger opened g [])) path
    · exact h
  · next armed => exact h.disarmNow armed
  · exact h

theorem startPowerClose (h : s.Runs G L t g []) (reason : PowerReason) : s.Runs G L (t.startPowerClose reason) g [] := by
  unfold State.startPowerClose; split
  · exact h
  · exact (h.closeForPower reason).setRecorder _

theorem closeIfActive (h : s.Runs G L t g []) (reason : PowerReason) : s.Runs G L (t.closeIfActive reason) g [] := by
  unfold State.closeIfActive; split
  · exact h.startPowerClose reason
  · exact h

theorem powerCloseTest (h : s.Runs G L t g []) : s.Runs G L t.powerCloseTest g [] := by
  unfold State.powerCloseTest; split
  · exact h.startPowerClose .power
  · split
    · exact h.startPowerClose .heat
    · exact h

/-! ### CLIP cells (R121, R130) -/

/-- The record of a CLIP cell opens a slot or finds none; it leaves room in the slot (R73, R83). -/
theorem appendOpen_opens (t : State) (kind : RecordKind) (flags : Byte) (sync : Bool) {payload : List Byte}
    (unfilled : t.sb.filling = none) (ring : t.sb.ring = []) (short : payload.length ≤ 4096) :
    (t.appendOpen kind flags sync payload).1.ledger g [] = t.ledger g [] ∨
      ∃ n, n < 1024 ∧ (t.ledger g []).slots n = none ∧
        (t.appendOpen kind flags sync payload).1.ledger g [] = (t.ledger g []).fill n := by
  have room : t.openFilling = t.fillLowest := by simp [State.openFilling, ring, State.makeRoom]
  unfold State.fillLowest at room
  simp only [State.appendOpen, unfilled, Option.isNone_none, if_true, room]
  cases free : t.sb.lowestFree with
  | none =>
    simp only [unfilled]
    exact .inl (by unfold State.overrunStart; split <;> rfl)
  | some n =>
    obtain ⟨low, none_there, -⟩ := State.lowestFree_eq_some.mp free
    have filling : (t.fillSlot n).sb.filling = some n := rfl
    simp only [filling]
    have slot : (t.fillSlot n).sb.slot n = { SlotRecord.free with state := .filling } :=
      (t.slot_setSlot n n { SlotRecord.free with state := .filling }).trans (if_pos rfl)
    have stays : ((t.fillSlot n).placeRecord n kind flags sync payload).closeIfFull n =
        (t.fillSlot n).placeRecord n kind flags sync payload := by
      have fill : (((t.fillSlot n).placeRecord n kind flags sync payload).sb.slot n).fill = 64 + (payload.length + 8) := by
        rw [State.placeRecord, State.slot_setSlot, if_pos rfl, slot]
        rfl
      rw [State.closeIfFull, fill, if_neg (by simp only [Config.slotBytes]; omega)]
    rw [stays]
    refine .inr ⟨n, low, by simp [State.ledger, none_there], ?_⟩
    have filled : (t.fillSlot n).ledger g [] = (t.ledger g []).fill n :=
      congrArg (fun M : Ledger => { M with filling := some n }) (t.ledger_setSlot g [] n { SlotRecord.free with state := .filling })
    rw [State.placeRecord, State.ledger_setSlot, State.ledger_writeSlot, filled, slot]
    refine Ledger.ext (funext fun m => ?_) rfl rfl rfl rfl rfl rfl rfl rfl rfl rfl
    show (if m = n then _ else if m = n then _ else _) = if m = n then _ else _
    split
    · rfl
    · rfl

/-- What the record of a CLIP cell does where no slot is FILLING and the ring is empty (R73, R83). -/
theorem handVideo_opens (t : State) (frameEnd last gap : Bool) {payload : List Byte}
    (unfilled : t.sb.filling = none) (ring : t.sb.ring = []) (short : payload.length ≤ 4096) :
    (t.handVideo true frameEnd last gap payload).1.ledger g [] = t.ledger g [] ∨
      ∃ n, n < 1024 ∧ (t.ledger g []).slots n = none ∧
        (t.handVideo true frameEnd last gap payload).1.ledger g [] = (t.ledger g []).fill n := by
  have ledger := appendOpen_opens (g := g) t .video
    (videoFlags true frameEnd last (gap || t.sb.overrun)) true unfilled ring short
  have appended : t.appendRecord .video (videoFlags true frameEnd last (gap || t.sb.overrun)) true payload =
      t.appendOpen .video (videoFlags true frameEnd last (gap || t.sb.overrun)) true payload := by
    simp [State.appendRecord, State.needsRoom, unfilled]
  simp only [State.handVideo, Bool.not_true, Bool.and_false, Bool.false_eq_true, if_false, appended]
  split
  · exact ledger
  · rwa [State.ledger_discardRecord]

/-- A split at a CLIP cell with SYNC (R130). -/
theorem splitAtCell (h : s.Runs G L t g []) {c : ClipRecord} (splits : t.splitsAt true = true)
    (opened : t.clc.openClip = some c) (gap : Nat) (frameEnd last : Bool) {payload : List Byte}
    (short : payload.length ≤ 4096) : s.Runs G L (t.splitAtCell c.number gap frameEnd last payload) g [] := by
  simp only [State.splitsAt, Bool.true_and, Bool.and_eq_true, decide_eq_true_eq, List.all_eq_true] at splits
  obtain ⟨⟨⟨-, mode⟩, more⟩, closing⟩ := splits
  obtain ⟨j, next⟩ := Option.isSome_iff_exists.mp more
  have closing : ∀ r ∈ (t.ledger g []).clips, r.state ≠ .closing := forall_account.mpr closing
  obtain ⟨u, parts⟩ : ∃ u, u = ((t.closeSlot (some c.number) true).splitClip c.number).addGap gap := ⟨_, rfl⟩
  have busy : u.busy := by
    refine State.busy_of_posture (s := t) (.inl (by simp [mode])) ?_
    rw [parts]
    exact ((State.posture_of_face (State.addGap_face _ _)).trans (State.splitClip_posture _ _)).trans
      (State.posture_of_face (State.closeSlot_face _ _ _))
  have split : t.splitAtCell c.number gap frameEnd last payload =
      ((u.handVideo true frameEnd last (decide (0 < gap)) payload).1.settleSplit
        (u.handVideo true frameEnd last (decide (0 < gap)) payload).2).trailerTest := by
    rw [parts]; rfl
  rw [split]
  cases filling : t.sb.filling with
  | some n =>
    have parted := (h.splitClip filling mode opened next (.inr (.inr closing))).addGap gap
    rw [← parts] at parted
    exact ((parted.handVideo busy true frameEnd last _ payload).settleSplit _).trailerTest
  | none =>
    rw [State.closeSlot_none filling] at parts
    have ledger : u.ledger g [] = (t.ledger g []).split c.number j := by
      rw [parts, State.ledger_addGap, State.ledger_splitClip g [] next]
    have sb : u.sb = t.sb := by simp [parts]
    have tidies : t.Tidies u := .same (.refl t) (by rw [sb]) (by rw [sb])
    have rest : u.Tidies _ := (((start True u).handVideo busy true frameEnd last (decide (0 < gap)) payload).settleSplit
      (u.handVideo true frameEnd last (decide (0 < gap)) payload).2).trailerTest.toTidies
    refine h.then_move (tidies.trans rest) fun p => ?_
    have ring : u.sb.ring = [] := sb ▸ p.ring (show t.clc.mode ≠ .armed by simp [mode])
    have first := handVideo_opens (g := g) u frameEnd last (decide (0 < gap)) (sb ▸ filling) ring short
    rw [ledger] at first
    refine .split (t.ledger g []) _ _ c.number j filling rfl mode (State.isOpen_ledger opened g []) next closing first ?_
    rw [← State.ledger_settleSplit _ g [] (u.handVideo true frameEnd last (decide (0 < gap)) payload).2]
    exact State.trailerTest_tested _ g []

theorem recordCell (h : s.Runs G L t g []) (mode : t.clc.mode = .recording) (gap : Nat) (sync frameEnd last : Bool)
    {payload : List Byte} (short : payload.length ≤ 4096) :
    s.Runs G L (t.recordCell gap sync frameEnd last payload) g [] := by
  unfold State.recordCell; split
  · next c splits opened =>
    have sync : sync = true := by
      simp only [State.splitsAt, Bool.and_eq_true] at splits
      exact splits.1.1.1.1
    subst sync
    exact h.splitAtCell splits opened gap frameEnd last short
  · refine (h.addGap gap).handVideo ?_ sync frameEnd last _ payload
    exact State.busy_of_posture (s := t) (.inl (by simp [mode])) (State.posture_of_face (State.addGap_face _ _))

/-- A CLIP cell goes where the mode and the drain send it (R121). -/
theorem placeCell (h : s.Runs G L t g []) (gap : Nat) (sync frameEnd last : Bool) {payload : List Byte}
    (short : payload.length ≤ 4096) : s.Runs G L (t.placeCell gap sync frameEnd last payload) g [] := by
  unfold State.placeCell; split
  · next mode => exact h.recordCell mode gap sync frameEnd last short
  · next mode => exact h.handVideo (.inl (by simp [mode])) sync frameEnd last _ payload
  · split
    · next drain =>
      have busy : (t.addGap gap).busy := State.busy_of_posture (s := t) (.inr (Option.isSome_iff_ne_none.mp drain))
        (State.posture_of_face (State.addGap_face _ _))
      have placed := (h.addGap gap).handVideo busy sync frameEnd last (decide (0 < gap)) payload
      dsimp only; split
      · exact placed.endDrain
      · exact placed
    · exact h.other

theorem takeClipCell (h : s.Runs G L t g []) (flags : Byte) (sequence : BitVec 16) (payload : List Byte) :
    s.Runs G L (t.takeClipCell flags sequence payload) g [] := by
  unfold State.takeClipCell; split
  · next fits =>
    simp only [clipLengthOk, decide_eq_true_eq] at fits
    exact (h.other : s.Runs G L (t.sequenceTest sequence) g []).placeCell _ _ _ _ fits.2
  · exact h.other

/-! ### Samples, SHOCKs and frames (R53, R61 to R65, R85) -/

theorem lockClip (h : s.Runs G L t g held) (r : ClipRecord) : s.Runs G L (t.lockClip r) g held := by
  refine h.same ?_ (.same (.refl t) (by simp) (by simp))
  rw [State.lockClip, State.ledger_addLocks]
  exact t.ledger_modifyClip_same g held r.number

theorem shockAction (h : s.Runs G L t g []) : s.Runs G L t.shockAction.1 g [] := by
  unfold State.shockAction; split
  · exact h
  · next armed =>
    split
    · split
      · exact h
      · next free => exact h.startClip (by simp [armed]) free true
    · exact h
  · split
    · split
      · exact h
      · exact h.lockClip _
    · exact h

theorem handleShock (h : s.Runs G L t g []) (peak count : Nat) : s.Runs G L (t.handleShock peak count) g [] := by
  have held : s.Runs G L ((t.count .shocks).holdAxes) g [] := h.other
  have marked : s.Runs G L (((t.count .shocks).holdAxes).markShock peak count) g [] := by
    unfold State.markShock; split
    · exact held
    · next mode => exact held.handRecord (.inl mode) .mark _
  exact marked.shockAction.other rfl rfl

theorem testShock (h : s.Runs G L t g []) (x : Sample) : s.Runs G L (t.testShock x) g [] := by
  simp only [State.testShock]; split
  · exact State.Runs.handleShock h.other _ _
  · exact h.other

theorem queueSample (h : s.Runs G L t g []) (x : Sample) (b : Bool) : s.Runs G L (t.queueSample x b) g [] := by
  unfold State.queueSample; split
  · exact h
  · next mode => exact State.Runs.pump h.other (.inl mode)

theorem goodEvent (h : s.Runs G L t g []) (x : Sample) : s.Runs G L (t.goodEvent x) g [] :=
  ((h.other : s.Runs G L (t.goodSample x) g []).queueSample x false).testShock x

theorem substituteEvent (h : s.Runs G L t g []) (x : Sample) : s.Runs G L (t.substituteEvent x) g [] :=
  (h.other : s.Runs G L (t.substituteSample x) g []).queueSample x true

theorem takeSample (h : s.Runs G L t g []) (b : Burst) : s.Runs G L (t.takeSample b) g [] := by
  unfold State.takeSample; split
  · exact h
  · exact State.Runs.goodEvent h.other _

theorem takeGap (h : s.Runs G L t g []) : s.Runs G L t.takeGap g [] := by
  unfold State.takeGap; split
  · exact h
  · exact State.Runs.substituteEvent h.other _

theorem handFrame (h : s.Runs G L t g []) (r : FrameRecord) : s.Runs G L (t.handFrame r) g [] := by
  unfold State.handFrame; split
  · exact h
  · next mode => exact h.handRecord (.inl mode) .frame _

theorem closeFrame (h : s.Runs G L t g []) (forced : Bool) : s.Runs G L (t.closeFrame forced) g [] := by
  unfold State.closeFrame; split
  · exact h
  · next r frame =>
    have placed : s.Runs G L ((t.countShort (forced || decide (r.linesSeen < t.wu.window.elim 0 (·.hin)))).placeFrameEnd
      (.frameEnd r.number r.linesSent r.linesDropped (forced || decide (r.linesSeen < t.wu.window.elim 0 (·.hin))))) g [] :=
      h.other
    exact (placed.handFrame r).other rfl rfl

theorem endFrame (h : s.Runs G L t g []) (forced : Bool) : s.Runs G L (t.endFrame forced) g [] :=
  State.Runs.closeFrame h.other forced

theorem takeFrameStart (h : s.Runs G L t g []) : s.Runs G L t.takeFrameStart g [] := by
  unfold State.takeFrameStart; split
  · have ended : s.Runs G L (if t.sp.frameOpen then t.endFrame true else t) g [] := by
      split
      · exact h.endFrame true
      · exact h
    exact ended.other
  · exact h

theorem takeFrameEnd (h : s.Runs G L t g []) : s.Runs G L t.takeFrameEnd g [] := by
  unfold State.takeFrameEnd; split
  · exact h.endFrame false
  · exact h

/-- A RECORDER table is taken in IDLE, where the ring is empty (R138). -/
theorem loadRecorder (h : s.Runs G L t g []) (fields : List Byte) : s.Runs G L (t.loadRecorder fields).1 g [] := by
  unfold State.loadRecorder; split
  · exact h
  · next table parsed =>
    split
    · next idle =>
      have resized : s.Runs G L (t.setRecorder (fun c => { c with table := table })) g [] :=
        h.then_move (.same (.refl t)) fun _ => .resize _ table.prerollDepth idle
      exact resized.other
    · exact h

end State.Runs
end Sys2Proof.Machine
end

section
/-!
The path of an operation of the Card Port in the ledger: a slot taken, given back or written, and the ends of clips that come
with them (R77, R110 to R117, R127, R134, R135), with the power close and standby entry (R137, R164).
-/
set_option Elab.async false

namespace Sys2Proof.Machine

/-- An operation of an event that began in s leads to t, for the slot of the write in flight in t. -/
def State.RunsTo (G : Prop) (L : Ledger) (s t : State) : Prop := s.Runs G L t t.flight []

theorem State.beginAttempt_flight (t : State) (w : SlotWrite) (ecc : EccRead) : (t.beginAttempt w ecc).flight = w.slot := by
  simp only [State.flight, State.beginAttempt, State.readBlock_frame]
  rfl

namespace State

variable {G : Prop} {L : Ledger} {s t u : State} {g f : Option Nat} {held rest : List Nat} {n k : Nat}

/-- The write in flight of the state reached. -/
theorem Runs.arrives (h : s.Runs G L t g []) (flight : t.flight = g := by simp [State.flight]) : s.RunsTo G L t := by
  unfold State.RunsTo
  rwa [flight]

/-- The next operation changes neither the buffer nor the recorder, and leaves this write in flight. -/
theorem Runs.other_to (h : s.Runs G L t g []) (flight : u.flight = g) (sb : u.sb = t.sb := by rfl)
    (clc : u.clc = t.clc := by rfl) : s.RunsTo G L u := (h.other sb clc).arrives flight

/-- The slot of the write in flight is given up; the card laws say that there is none, or no clip waits for it. -/
theorem Runs.lose (h : s.Runs G L t g []) (without : G → g = none ∨ ∀ r ∈ (t.ledger g []).clips, ¬r.live) :
    s.Runs G L t none [] :=
  h.then_move (.refl t) fun _ => .lose (t.ledger g []) without

/-! ### Reading and taking a slot (R86, R87, R110 to R112) -/

theorem Runs.markDamaged (h : s.Runs G L t g held) (listed : s.slotted → (t.ledger g held).Placed → n ∈ (t.ledger g held).placed) :
    s.Runs G L (t.markDamaged n) g held := by
  unfold State.markDamaged; split
  · exact h
  · have marked : s.Runs G L (t.setSlot n { t.sb.slot n with damaged := true }) g held := h.setSlot n rfl listed
    have counted : s.Runs G L ((t.setSlot n { t.sb.slot n with damaged := true }).count .slotsDamaged) g held := marked.other
    exact counted.modifyClip _

theorem Runs.readBlock (h : s.Runs G L t g held) (ecc : EccRead)
    (listed : s.slotted → (t.ledger g held).Placed → n ∈ (t.ledger g held).placed) :
    s.Runs G L (t.readBlock n ecc) g held := by
  have counted : s.Runs G L (t.countBy .eccCorrected ecc.corrected) g held := h.other
  simp only [State.readBlock]; split
  · exact counted.markDamaged listed
  · exact counted

theorem Runs.beginAttempt {w : SlotWrite} (h : s.Runs G L t w.slot []) (slot : s.slotted → w.slot ≠ none) (ecc : EccRead) :
    s.RunsTo G L (t.beginAttempt w ecc) := by
  have sent : s.Runs G L ((t.setCard (fun c => { c with
      card := .writing, writer := .sending, write := some { w with blocksAnswered := 0 } })).sendCard
        (.writeBlocks w.position Config.slotBlocks) .block t.busyTime) w.slot [] := h.other
  refine (sent.readBlock ecc fun slotted _ => ?_).arrives (t.beginAttempt_flight w ecc)
  obtain ⟨n, own⟩ := Option.ne_none_iff_exists'.mp (slot slotted)
  simp [own, Ledger.placed, State.ledger]

theorem Runs.takeSlot (h : s.Runs G L t none []) (w : SlotWrite) (ecc : EccRead) : s.RunsTo G L (t.takeSlot w ecc) := by
  unfold State.takeSlot; split
  · exact h.other_to rfl
  · next n rest queue =>
    have taken : s.Runs G L ((t.setSlot n { t.sb.slot n with state := .writing }).setBuffer (fun b => { b with queue := rest }))
        (some n) [] := by
      refine h.move_to (.same (.setSlot (.refl t) n { t.sb.slot n with state := .writing })) ?_ fun _ =>
        .take (t.ledger none []) n rest rfl queue
      rw [State.tag_ledger]
      exact congrArg (fun M : Ledger => { M with flight := some n, queue := rest }) (t.ledger_setSlot none [] n _)
    exact Runs.beginAttempt (w := { w with slot := some n }) taken nofun ecc

theorem RunsTo.startWrite (h : s.RunsTo G L t) (free : G → t.flight = none) (ecc : EccRead) : s.RunsTo G L (t.startWrite ecc) := by
  have without : s.Runs G L t none [] := h.lose fun own => .inl (free own)
  simp only [State.startWrite]; split
  · exact without.other_to rfl
  · split
    · exact Runs.takeSlot (without.other rfl rfl) _ ecc
    · exact without.other_to rfl

/-! ### A slot given back (R77, R115 to R117) -/

theorem Runs.giveBack (h : s.Runs G L t g []) (slot : s.slotted → g = some n) : s.Runs G L (t.giveBack n) none [] := by
  refine h.then_path (.same (.setSlot (.refl t) n { t.sb.slot n with state := .queued })) fun slotted _ => ?_
  cases slot slotted
  have back := Ledger.Move.back (G := G) (t.ledger (some n) []) n rfl
  rw [State.tag_ledger] at back
  have given : (t.giveBack n).ledger none [] = { (t.ledger (some n) []).put n
      (some { (t.sb.slot n).tag with state := .queued }) with flight := none, queue := n :: (t.ledger (some n) []).queue } :=
    congrArg (fun M : Ledger => { M with queue := n :: M.queue, flight := none })
      (t.ledger_setSlot (some n) [] n { t.sb.slot n with state := .queued })
  rw [given]
  exact .single back

theorem RunsTo.declareFailed (h : s.RunsTo G L t) : s.RunsTo G L t.declareFailed := by
  have failed : s.Runs G L (t.setCard (fun c => { c with card := .failed, gradeInUse := none, wait := none })) t.flight [] :=
    h.other rfl rfl
  simp only [State.declareFailed]
  cases slot : t.cp.write.bind (·.slot) with
  | some n =>
    have given := failed.giveBack fun _ => slot
    have consumed : s.Runs G L (((t.setCard (fun c => { c with card := .failed, gradeInUse := none, wait := none })).giveBack
      n).consume) none [] := given.other
    exact consumed.other_to rfl
  | none =>
    have failed : s.Runs G L _ none [] := (show t.flight = none from slot) ▸ failed
    exact failed.other_to rfl

theorem Runs.skipPosition {w : SlotWrite} (h : s.Runs G L t w.slot []) (slot : s.slotted → w.slot ≠ none) (ecc : EccRead) :
    s.RunsTo G L (t.skipPosition w ecc) := by
  have consumed : s.Runs G L t.consume w.slot [] := h.other
  have noted : s.Runs G L (t.consume.modifyClip ((t.sb.slot (w.slot.getD 0)).clip.getD 0) (fun r =>
      { r with skippedRanges := raise lim32 r.skippedRanges 1 })) w.slot [] := consumed.modifyClip _
  have skipped : s.Runs G L ((t.consume.modifyClip ((t.sb.slot (w.slot.getD 0)).clip.getD 0) (fun r =>
      { r with skippedRanges := raise lim32 r.skippedRanges 1 })).count .cardSkips) w.slot [] := noted.other
  simp only [State.skipPosition]; split
  · next p cursor =>
    exact Runs.beginAttempt (w := { w with position := p, positionCount := 2, attempts := 0 }) skipped slot ecc
  · have given := skipped.giveBack (n := w.slot.getD 0) fun slotted => by
      obtain ⟨n, own⟩ := Option.ne_none_iff_exists'.mp (slot slotted)
      rw [own]
      rfl
    exact given.other_to rfl

/-- The next step after a failed attempt (R114). -/
theorem RunsTo.afterStop {w : SlotWrite} (h : s.RunsTo G L t) (write : t.cp.write = some w) (slot : s.slotted → w.slot ≠ none)
    (ecc : EccRead) : s.RunsTo G L (t.afterStop w ecc) := by
  have flight : t.flight = w.slot := by simp [State.flight, write]
  have ready : s.Runs G L (t.setCard (fun c => { c with card := .ready, wait := none })) w.slot [] :=
    (flight ▸ h : s.Runs G L t w.slot []).other
  simp only [State.afterStop]; split
  · exact Runs.beginAttempt (w := { w with attempts := 1 }) ready slot ecc
  · split
    · exact ready.skipPosition slot ecc
    · exact RunsTo.declareFailed (ready.arrives flight)

theorem RunsTo.blockAccepted {w : SlotWrite} (h : s.RunsTo G L t) (write : t.cp.write = some w) (slot : s.slotted → w.slot ≠ none)
    (ecc : EccRead) : s.RunsTo G L (t.blockAccepted w ecc) := by
  have flight : t.flight = w.slot := by simp [State.flight, write]
  have h : s.Runs G L t w.slot [] := flight ▸ h
  simp only [State.blockAccepted]; split
  · have sent : s.Runs G L ((t.setCard (fun c => { c with write := some { w with blocksAnswered := w.blocksAnswered + 1 } })).sendCard
        (.block (w.blocksAnswered + 1)) .block t.busyTime) w.slot [] := h.other
    refine (sent.readBlock ecc fun slotted _ => ?_).arrives ?_
    · obtain ⟨n, own⟩ := Option.ne_none_iff_exists'.mp (slot slotted)
      simp [own, Ledger.placed, State.ledger]
    · simp only [State.flight, State.readBlock_frame]
      rfl
  · exact h.other_to rfl

/-- A card is removed: without a write it was attaching or had none, and a slot that was taken returns (R107, R117). -/
theorem RunsTo.removeCard (h : s.RunsTo G L t) (attaching : G → t.cp.card = .attaching → t.flight = none) :
    s.RunsTo G L t.removeCard := by
  unfold State.removeCard; split
  · next card =>
    exact (h.lose fun own => .inl (attaching own card)).other_to (by simp [State.flight, CardPort.removed]) (by simp) (by simp)
  · have given : s.Runs G L t.giveBackWrite none [] := by
      unfold State.giveBackWrite
      cases slot : t.cp.write.bind (·.slot) with
      | some n => exact Runs.giveBack h fun _ => slot
      | none =>
        have slotless : t.flight = none := slot
        unfold State.RunsTo at h
        rwa [slotless] at h
    exact given.other_to (by simp [State.flight, CardPort.removed]) (by simp) (by simp)

end State
end Sys2Proof.Machine
end

section
/-!
The path of an event in which a clip ends by its trailer or an abort, and of standby entry, the power close, a wake and
RESTART (R127, R132, R134 to R137, R139, R162 to R166, R177).
-/
set_option Elab.async false

namespace Sys2Proof.Machine

namespace State

variable {G : Prop} {L : Ledger} {s t u : State} {g f : Option Nat} {held rest : List Nat} {n k : Nat}

/-! ### Standby entry and the power close (R137, R162, R164) -/

/-- Nothing is left to close (R137). -/
theorem Runs.allEnded_iff (t : State) : t.clc.allEnded = true ↔ t.clc.drain = none ∧ ∀ r ∈ t.clc.clips, ¬r.live := by
  simp only [ClipController.allEnded, Bool.and_eq_true, Option.isNone_iff_eq_none, List.all_eq_true, decide_eq_true_eq,
    ClipRecord.live]
  refine and_congr_right fun _ => forall₂_congr fun r _ => ?_
  cases r.state <;> simp

/-- Standby entry, with no slot in flight or with no clip left to close (R164). -/
theorem Runs.enterStandby (h : s.Runs G L t g []) (reason : StandbyReason)
    (without : (G → g = none) ∨ t.clc.drain = none ∧ ∀ r ∈ t.clc.clips, ¬r.live) :
    s.RunsTo G L (t.enterStandby reason) := by
  obtain ⟨u, enters⟩ : ∃ u, u = t.setSupply (fun m => { m with standby := .standby, reason := some reason }) := ⟨_, rfl⟩
  have entering : s.Runs G L u g [] := h.other (by rw [enters]; rfl) (by rw [enters]; rfl)
  have ended : s.Runs G L u.endDrain none [] := by
    refine entering.endDrain.lose fun own => ?_
    rcases without with free | ⟨drain, dead⟩
    · exact .inl (free own)
    · have none_drained : u.endDrain = u := by
        have : u.clc.drain = none := by rw [enters]; exact drain
        simp [State.endDrain, this]
      rw [none_drained, enters]
      exact .inr (forall_account.mpr dead)
  have parked : s.Runs G L u.endDrain.parkBlocks none [] :=
    ended.same rfl ⟨fun m => eraseQuarters_wf _ m, id⟩
  unfold State.enterStandby
  rw [← enters]
  exact parked.arrives rfl

theorem RunsTo.endPowerClose (h : s.RunsTo G L t) : s.RunsTo G L t.endPowerClose := by
  unfold State.endPowerClose; split
  · exact h
  · next r close =>
    split
    · next ended =>
      have absent : s.Runs G L (t.setRecorder (fun c => { c with powerClose := none })) t.flight [] :=
        Runs.setRecorder h _
      dsimp only; split
      · exact absent.enterStandby _ (.inr ((Runs.allEnded_iff t).mp ended))
      · exact absent
    · exact h

theorem RunsTo.checkPowerClose (h : s.RunsTo G L t) (old : State) : s.RunsTo G L (t.checkPowerClose old) := by
  unfold State.checkPowerClose; split
  · exact h.endPowerClose
  · exact h

theorem RunsTo.standbyCommand (h : s.RunsTo G L t) (idle : G → t.cp.writing = false → t.flight = none) :
    s.RunsTo G L t.standbyCommand.1 := by
  unfold State.standbyCommand; split
  · split
    · next can =>
      simp only [State.canPark, Bool.and_eq_true, Bool.not_eq_true'] at can
      exact (Runs.enterStandby h .command (.inl fun own => idle own can.2)).endPowerClose
    · exact h
  · exact h
  · exact h

/-- The quarters are powered (R90, R166). -/
theorem Runs.startWake (h : s.Runs G L t g held) : s.Runs G L t.startWake g held := h.same rfl (.same (.refl t))

theorem RunsTo.wakeCommand (h : s.RunsTo G L t) : s.RunsTo G L t.wakeCommand.1 := by
  unfold State.wakeCommand; split
  · exact h
  · split
    · exact h
    · exact Runs.startWake h
  · exact h

theorem wakeCard_write (t : State) : t.wakeCard.cp.write = t.cp.write := by
  rw [State.wakeCard_eq]
  dsimp only
  split <;> rfl

theorem RunsTo.wakeExpires (h : s.RunsTo G L t) : s.RunsTo G L t.wakeExpires := by
  unfold State.wakeExpires; split
  · next d deadline =>
    refine RunsTo.checkPowerClose ?_ t
    have woken : s.Runs G L (((t.reach d).setSupply SupplyMonitor.awake).wakeCard.runStreams) t.flight [] :=
      Runs.other h
    refine woken.powerCloseTest.arrives ?_
    simp [State.flight, State.wakeCard_write]
  · exact h

/-! ### A sweep (R142, R160) -/

theorem Runs.inputArrives (h : s.Runs G L t g held) : s.Runs G L t.inputArrives g held := by
  unfold State.inputArrives; split
  · exact h.startWake
  · exact h

theorem Runs.qualifySweep (h : s.Runs G L t g held) (r : Readings) : s.Runs G L (t.qualifySweep r) g held := by
  have counted : s.Runs G L (t.setCharge (fun c => { c with qualifyCount := raise 200 c.qualifyCount 1 })) g held := h.other
  simp only [State.qualifySweep]; split
  · unfold State.admitInput
    exact Runs.inputArrives (counted.other (by simp) (by simp))
  · exact counted

theorem Runs.openInput (h : s.Runs G L t g held) (r : Readings) : s.Runs G L (t.openInput r) g held := by
  unfold State.openInput; split
  · split
    · exact h.other (by simp) (by simp)
    · exact h
  · split
    · exact h.other (by simp) (by simp)
    · exact h.qualifySweep r
  · exact h

theorem Runs.testInput (h : s.Runs G L t g held) (r : Readings) : s.Runs G L (t.testInput r) g held := by
  unfold State.testInput; split
  · split
    · exact h
    · exact h.other
  · split
    · split
      · exact h.other
      · exact h
    · exact h.openInput r

theorem Runs.classifyBattery (h : s.Runs G L t g []) (r : Readings) : s.Runs G L (t.classifyBattery r) g [] := by
  obtain ⟨u, classed⟩ : ∃ u, u = t.setSupply (fun m => { m with
    battery := batteryAfter t.smn.battery (criticalCountAfter t.smn t.chg r.vBat) t.chg.table r.vBat
    criticalCount := if batteryAfter t.smn.battery (criticalCountAfter t.smn t.chg r.vBat) t.chg.table r.vBat = .critical then 0
      else criticalCountAfter t.smn t.chg r.vBat }) := ⟨_, rfl⟩
  have counted : s.Runs G L u g [] := h.other (by rw [classed]; rfl) (by rw [classed]; rfl)
  have posted : ∀ v, s.Runs G L ((u.post .batteryCritical v).closeIfActive .power) g [] := fun v =>
    (counted.other : s.Runs G L (u.post .batteryCritical v) g []).closeIfActive .power
  have moved : t.classifyBattery r = u.batteryMoved t.smn.battery r.vBat := by rw [classed]; rfl
  rw [moved]
  unfold State.batteryMoved; split
  · exact counted.other
  · exact posted _
  · exact posted _
  · exact counted

theorem Runs.classifyDie (h : s.Runs G L t g []) (r : Readings) : s.Runs G L (t.classifyDie r) g [] := by
  have classed : s.Runs G L (t.setSupply (fun m => { m with die := dieAfter m.die r.tDie })) g [] := h.other
  unfold State.classifyDie State.dieMoved; split
  · exact classed
  · split
    · have posted : s.Runs G L (State.post _ .heat _) g [] :=
        classed.other (u := (t.setSupply (fun m => { m with die := dieAfter m.die r.tDie })).post .heat
          (.die (t.setSupply (fun m => { m with die := dieAfter m.die r.tDie })).smn.die))
      exact posted.closeIfActive .heat
    · exact classed.other

/-- A sweep, but for cutoff (R142, R160). -/
theorem RunsTo.takeSweep (h : s.RunsTo G L t) (r : Readings) : s.RunsTo G L (t.takeSweep r) ∨
    ∃ u : State, t.takeSweep r = u.goDark := by
  obtain ⟨w, swept⟩ : ∃ w, w = ((((t.sweepHead (clampReadings r)).chargeStep (clampReadings r)).setTarget
    (clampReadings r)).tickTimers) := ⟨_, rfl⟩
  have begun : s.Runs G L ((t.beginSweep (clampReadings r)).takeProfile) t.flight [] := Runs.other h
  have formed : s.Runs G L ((((t.beginSweep (clampReadings r)).takeProfile).testInput (clampReadings r)).formAvail
      (clampReadings r)) t.flight [] := (begun.testInput (clampReadings r)).other
  have head : s.Runs G L (t.sweepHead (clampReadings r)) t.flight [] := (formed.classifyBattery _).classifyDie _
  have timed : s.Runs G L w t.flight [] := by
    rw [swept]
    exact head.other (by simp) (by simp)
  have taken : t.takeSweep r = w.endSweep t (clampReadings r) := by rw [swept]; rfl
  rw [taken, State.endSweep]; split
  · exact .inr ⟨w, rfl⟩
  · refine .inl (RunsTo.checkPowerClose (timed.arrives ?_) t)
    rw [swept]
    simp [State.flight]

theorem RunsTo.takeSweepIf (h : s.RunsTo G L t) (happens : Bool) (r : Readings) : s.RunsTo G L (t.takeSweepIf happens r) ∨
    ∃ u : State, t.takeSweepIf happens r = u.goDark := by
  unfold State.takeSweepIf; split
  · exact h.takeSweep r
  · exact .inl h

/-! ### Completed writes (R127, R132, R134) -/

/-- The slot of a completed write is claimed for a trailer that is due, or becomes FREE and a waiting record may take it
(R85, R132). -/
theorem completionTest_lands (t : State) (n : Nat) (g : Option Nat) : ∃ v : State, t.Tidies v ∧ v.cp = t.cp ∧
    Ledger.Landed (t.ledger g []) n (v.ledger g []) ∧ (t.completionTest n = v ∨ t.completionTest n = v.retryMotion) := by
  have due := t.due_ledger (g := g) (held := [])
  unfold State.completionTest
  cases own : t.clc.trailerDue with
  | some c =>
    rw [own] at due
    refine ⟨_, .formTrailer (.refl t) c n, by simp, ?_, .inl rfl⟩
    rw [State.ledger_formTrailer]
    exact .claimed c.account due
  | none =>
    rw [own] at due
    refine ⟨_, .freeSlots (.refl t) [n], rfl, ?_, .inr rfl⟩
    have freed : (t.ledger g []).erase [n] = (t.ledger g []).put n none := by simp [Ledger.erase, Ledger.put]
    rw [State.ledger_freeSlots, freed]
    exact .freed due

@[simp] theorem ledger_lockWritten (t : State) (r : ClipRecord) (f : Nat) (g : Option Nat) (held : List Nat) :
    (t.lockWritten r f).ledger g held = t.ledger g held := by
  unfold State.lockWritten State.updateLock
  split
  · split
    · rfl
    · rfl
    · rfl
    · exact t.ledger_addLock ..
  · rfl

@[simp] theorem ledger_forceSplitTest (t : State) (r : ClipRecord) (f : Nat) (g : Option Nat) (held : List Nat) :
    (t.forceSplitTest r f).ledger g held = t.ledger g held := by
  unfold State.forceSplitTest; split <;> rfl

/-- A clip's account changes where the clip is held. -/
theorem edit_absent {L : Ledger} (absent : ∀ r ∈ L.clips, r.number ≠ k) (F : Account → Account) : L.edit k F = L := by
  refine Ledger.ext rfl rfl rfl rfl rfl rfl rfl rfl ?_ rfl rfl
  refine (List.map_congr_left fun r mem => ?_).trans (List.map_id _)
  simp [absent r mem]

theorem edit_edit (L : Ledger) {F : Account → Account} (number : ∀ r, (F r).number = r.number) (F' : Account → Account) :
    (L.edit k F).edit k F' = L.edit k (fun r => F' (F r)) := by
  refine Ledger.ext rfl rfl rfl rfl rfl rfl rfl rfl ?_ rfl rfl
  refine (List.map_map ..).trans (List.map_congr_left fun r _ => ?_)
  show (if (if r.number = k then F r else r).number = k then F' (if r.number = k then F r else r) else
    (if r.number = k then F r else r)) = if r.number = k then F' (F r) else r
  split
  · next same => rw [number, if_pos same]
  · rfl

/-- A completed write up to the test of its slot: the clip counts one more slot written, or becomes CLOSED with the trailer's
position (R127, R134). -/
theorem completeWrite_tests (t : State) (n f : Nat) : ∃ u : State, t.Tidies u ∧ u.cp = t.cp ∧
    t.completeWrite n f = u.completionTest n ∧
    u.ledger none [] = { (t.ledger t.flight []).edit ((t.ledger t.flight []).clipOf n)
      (if (t.sb.slot n).trailer then fun r => { r with position := some f, state := .closed } else Ledger.writtenOne) with
        flight := none } := by
  have clip : (t.ledger t.flight []).clipOf n = (t.sb.slot n).clip.getD 0 := by
    simp only [Ledger.clipOf, State.tag_ledger]; rfl
  rw [clip]
  cases held : t.clc.clip ((t.sb.slot n).clip.getD 0) with
  | none =>
    refine ⟨t, .refl t, rfl, by rw [State.completeWrite, held], ?_⟩
    rw [edit_absent (forall_account.mpr (ClipController.clip_eq_none.mp held))]
    rfl
  | some r =>
    have number : r.number = (t.sb.slot n).clip.getD 0 := by simpa using List.find?_some held
    cases trailer : (t.sb.slot n).trailer with
    | true =>
      refine ⟨((((t.modifyClip r.number (fun c => { c with trailerPosition := some f })).lockWritten r f).modifyClip r.number
        (fun c => { c with state := .closed })).post .clipClosed (.number r.number)), .same (.refl t) (by simp) (by simp),
        by simp, by rw [State.completeWrite, held]; simp only [trailer]; rfl, ?_⟩
      have closed := State.ledger_modifyClip ((t.modifyClip r.number (fun c => { c with trailerPosition := some f })).lockWritten
        r f) none [] r.number (f := fun c => { c with state := .closed }) (fun c => { c with state := .closed })
      rw [ledger_lockWritten, State.ledger_modifyClip t none [] r.number (f := fun c => { c with trailerPosition := some f })
        (fun c => { c with position := some f }),
        edit_edit _ (F := fun c => { c with position := some f }) fun _ => rfl] at closed
      rw [← number]
      exact closed
    | false =>
      refine ⟨((t.modifyClip r.number (fun c => c.completed f)).forceSplitTest r f).lockWritten r f,
        .same (.refl t) (by simp) (by simp), by simp, by rw [State.completeWrite, held]; simp only [trailer]; rfl, ?_⟩
      rw [ledger_lockWritten, ledger_forceSplitTest, State.ledger_modifyClip t none [] r.number Ledger.writtenOne fun q => by
        unfold ClipRecord.completed; split <;> rfl]
      rw [number]
      rfl

end State
end Sys2Proof.Machine
end

section
/-!
The path of each command and event in the ledger (R70, R110, R132, R168 to R177).
-/
set_option Elab.async false

namespace Sys2Proof.Machine

/-- What an event that leads from s to t does in the ledger: a Start, then a Path of moves. -/
structure State.Works (s t : State) : Prop extends s.Tidies t where
  path : s.slotted → (s.ledger s.flight []).Placed →
    ∃ M, Ledger.Start (s.ledger s.flight []) M ∧ Ledger.Path s.flightOk M (t.ledger t.flight [])

namespace State

variable {G : Prop} {L : Ledger} {s t u : State} {g f : Option Nat} {held rest : List Nat} {n k : Nat}

/-- An event that ends no clip by its trailer or an abort. -/
theorem Works.of_runs (h : s.RunsTo s.flightOk (s.ledger s.flight []) t) : s.Works t :=
  ⟨h.toTidies, fun slotted p => ⟨_, .same _, h.path slotted p⟩⟩

/-- An event that first ends a clip. -/
theorem Works.of_start (h : s.RunsTo s.flightOk L t)
    (start : s.slotted → (s.ledger s.flight []).Placed → Ledger.Start (s.ledger s.flight []) L) : s.Works t :=
  ⟨h.toTidies, fun slotted p => ⟨L, start slotted p, h.path slotted ((start slotted p).placed p)⟩⟩

theorem RunsTo.begin (G : Prop) (s : State) : s.RunsTo G (s.ledger s.flight []) s := Runs.start G s

theorem Works.other (h : s.Works t) (sb : u.sb = t.sb := by simp) (clc : u.clc = t.clc := by simp)
    (write : u.cp.write = t.cp.write := by simp) : s.Works u := by
  have flight : u.flight = t.flight := by simp [State.flight, write]
  refine ⟨h.toTidies.same (by rw [sb]) (by rw [sb]), fun slotted p => ?_⟩
  rw [flight, State.ledger_eq t t.flight [] sb clc]
  exact h.path slotted p

theorem Works.refl (s : State) : s.Works s := .of_runs (.begin _ s)

/-- The frame of a command (R170, R172). -/
theorem Works.control {tag code : BitVec 8} {ok query : Bool} {body : State → State × CommandResult}
    (works : s.Works (body s).1) : s.Works (s.control tag code ok query body) := by
  rcases s.control_cases tag code ok query body with ⟨-, e⟩ | ⟨-, -, e⟩ | ⟨-, -, -, -, e⟩ | ⟨-, -, -, e⟩
  · rw [e]; exact (Works.refl s).other
  · rw [e]; exact (Works.refl s).other
  · rw [e]; exact (Works.refl s).other
  · rw [e]; exact works.other

theorem Works.arbitrate (h : s.Works t) : s.Works t.arbitrate := h.other rfl rfl rfl

/-- An event that the part takes when it has supply (R160). -/
theorem Works.take {effect : State → State} (works : s.Works (effect s)) (h : s.take effect = .next t) : s.Works t := by
  rcases s.take_cases effect with ⟨-, e⟩ | ⟨-, e⟩
  · cases e.symm.trans h; exact works.arbitrate
  · cases e.symm.trans h; exact .refl s

/-! ### The events of the Card Port (R105 to R117, R127, R134) -/

/-- A write that was taken: the slot of the write in flight lands (R113, R127, R134). -/
theorem finishWrite_works {w : SlotWrite} (write : s.cp.write = some w) (slot : s.slotted → w.slot ≠ none) :
    s.Works (s.finishWrite w) := by
  obtain ⟨n, of_slot⟩ : ∃ n, n = w.slot.getD 0 := ⟨_, rfl⟩
  have flight : s.flight = w.slot := by simp [State.flight, write]
  have slot : s.slotted → s.flight = some n := fun slotted => by
    obtain ⟨m, own⟩ := Option.ne_none_iff_exists'.mp (slot slotted)
    rw [flight, of_slot, own]
    rfl
  have c_flight : s.consume.flight = s.flight := by simp [State.flight]
  have c_ledger : s.consume.ledger s.flight [] = s.ledger s.flight [] := State.ledger_eq s s.flight []
  obtain ⟨u, u_tidies, u_cp, tested, u_ledger⟩ := completeWrite_tests s.consume n w.position
  obtain ⟨v, v_tidies, v_cp, landed, which⟩ := completionTest_lands u n none
  rw [c_flight, c_ledger, show (s.consume.sb.slot n) = s.sb.slot n by simp] at u_ledger
  rw [u_ledger] at landed
  have tidies : s.Tidies v := .trans (.trans (.same (.refl s) (by simp) (by simp)) u_tidies) v_tidies
  have lands : ∀ L, s.Runs s.flightOk L v none [] → s.RunsTo s.flightOk L (s.writeSucceeds w) := fun L h => by
    have done : s.Runs s.flightOk L (s.consume.completeWrite n w.position) none [] := by
      rw [tested]
      rcases which with e | e
      · rw [e]; exact h
      · rw [e]; exact h.retryMotion
    rw [of_slot] at done
    exact done.other_to rfl
  unfold State.finishWrite
  rw [← of_slot]
  cases trailer : (s.sb.slot n).trailer with
  | true =>
    rw [trailer] at landed
    refine .of_start (lands (v.ledger none []) ⟨tidies, fun _ _ => .refl⟩).endPowerClose fun slotted _ => ?_
    refine .close _ _ n w.position (slot slotted) ?_ rfl landed
    rw [State.tag_ledger]
    exact trailer
  | false =>
    rw [trailer] at landed
    refine .of_runs (lands _ ((Runs.start _ s).then_path tidies fun slotted _ => .single ?_))
    refine .land _ _ n (slot slotted) ?_ rfl landed
    rw [State.tag_ledger]
    exact trailer

/-- The slot of a write whose blocks are awaited (R112 to R114). -/
theorem slot_of_awaits {w : SlotWrite} (write : s.cp.write = some w)
    (awaits : s.cp.awaits .block = true ∨ s.cp.awaits .settled = true ∨ s.cp.awaits .stopped = true) :
    s.slotted → w.slot ≠ none := fun slotted => slotted w write awaits

theorem takeReady_works (moment : ReportMoment) (ecc : EccRead) : s.Works (s.takeReady moment ecc) := by
  unfold State.takeReady; split
  · next w write =>
    split
    · next settled => exact finishWrite_works write (slot_of_awaits write (.inr (.inl settled)))
    · split
      · next stopped =>
        exact .of_runs ((RunsTo.begin _ s).afterStop write (slot_of_awaits write (.inr (.inr stopped.1))) ecc)
      · exact .refl s
  · exact .refl s

theorem takeBlockAnswer_works (result : BlockResult) (ecc : EccRead) : s.Works (s.takeBlockAnswer result ecc) := by
  unfold State.takeBlockAnswer; split
  · next w awaits write =>
    split
    · exact .of_runs ((RunsTo.begin _ s).blockAccepted write (slot_of_awaits write (.inl awaits)) ecc)
    · exact (Works.refl s).other (by simp) (by simp) rfl
    · exact (Works.refl s).other (by simp) (by simp) rfl
  · exact .refl s

/-- With no write in flight the card laws leave no slot (R110 to R114). -/
theorem flight_of_flightOk (law : s.flightOk) (none_taken : ∀ w, s.cp.write = some w → s.cp.writing = true →
    (s.cp.card = .ready ∨ s.cp.card = .writing ∨ s.cp.card = .settling) →
    (s.cp.awaits .writeGrade = true ∧ w.slot = none ∨
      (s.cp.awaits .block = true ∨ s.cp.awaits .settled = true ∨ s.cp.awaits .stopped = true) ∧ w.slot ≠ none) →
    w.slot = none) : s.flight = none := by
  unfold State.flight
  cases write : s.cp.write with
  | none => rfl
  | some w =>
    obtain ⟨writing, card, awaits⟩ := law w write
    exact none_taken w write writing card awaits

theorem writeStarts_works (ecc : EccRead) : s.Works (s.writeStarts ecc) := by
  unfold State.writeStarts; split
  · next can =>
    refine .of_runs ((RunsTo.begin _ s).startWrite (fun law => flight_of_flightOk law fun w _ writing _ _ => ?_) ecc)
    simp only [State.writeCanStart, Bool.and_eq_true, decide_eq_true_eq] at can
    simp [CardPort.writing, can.1.2] at writing
  · exact .refl s

theorem takeGradeAnswer_works (ecc : EccRead) : s.Works (s.takeGradeAnswer ecc) := by
  unfold State.takeGradeAnswer State.gradeSet; split
  · exact (Works.refl s).other (by simp) (by simp) rfl
  · split
    · next awaits =>
      split
      · next w write =>
        have without : s.Runs s.flightOk (s.ledger s.flight []) s none [] :=
          (Runs.start _ s).lose fun law => .inl (flight_of_flightOk law fun w _ _ _ which => ?_)
        · have set : s.Runs s.flightOk (s.ledger s.flight []) (s.setCard (fun c => { c with gradeInUse := some w.grade }))
            none [] := without.other
          exact .of_runs (set.takeSlot w ecc)
        · rcases which with ⟨-, none_taken⟩ | ⟨others, -⟩
          · exact none_taken
          · simp only [CardPort.awaits, Option.any_eq_true, decide_eq_true_eq] at awaits others
            grind
      · exact .refl s
    · exact .refl s

theorem releaseDetect_works : s.Works s.detectReleases := by
  unfold State.detectReleases; split
  · next d settle =>
    split
    · unfold State.releaseDetect
      dsimp only
      split
      · exact (Works.refl s).other
      · have released : s.RunsTo s.flightOk (s.ledger s.flight [])
            ((s.reach d).setCard (fun c => { c with detect := false, settle := none })) := (Runs.start _ s).other_to rfl
        refine .of_runs (released.removeCard fun law card => flight_of_flightOk law fun w _ _ ready _ => ?_)
        have card : s.cp.card = .attaching := card
        simp [card] at ready
    · exact .refl s
  · exact .refl s

theorem gradeExpires_works : s.Works s.gradeExpires := by
  unfold State.gradeExpires; split
  · exact (Works.refl s).other (by simp) (by simp) rfl
  · split
    · have reached : s.RunsTo s.flightOk (s.ledger s.flight []) (s.reach s.cardDeadline) := (Runs.start _ s).other_to rfl
      exact .of_runs reached.declareFailed
    · exact .refl s

theorem stopExpires_works : s.Works s.stopExpires := by
  unfold State.stopExpires; split
  · have reached : s.RunsTo s.flightOk (s.ledger s.flight []) (s.reach s.cardDeadline) := (Runs.start _ s).other_to rfl
    exact .of_runs reached.declareFailed
  · exact .refl s

/-! ### ABORT CLIP and RESTART (R135, R139, R177) -/

theorem abortedSlots_ledger (s : State) (k : Nat) (g : Option Nat) :
    (s.ledger g []).gone (s.clc.drain.any fun d => d.clip == k) k = s.abortedSlots k := by
  simp only [Ledger.gone, State.abortedSlots, State.tag_ledger]
  rfl

/-- An abort before its trailer test (R135). -/
theorem ledger_aborted (s : State) (k : Nat) (g : Option Nat) :
    State.ledger ((((s.abandonDrain k).setBuffer (fun b => { b with
      queue := b.queue.filter (fun n => !(s.abortedSlots k).contains n) })).freeSlots (s.abortedSlots k)).modifyClip k
        (fun r => { r with state := .aborted, endReason := some .abort })) g [] =
      (s.ledger g []).aborted (s.clc.drain.any fun d => d.clip == k) k := by
  rw [State.ledger_modifyClip _ g [] k fun r => { r with state := .aborted }, State.ledger_freeSlots, Ledger.aborted,
    abortedSlots_ledger]
  unfold State.abandonDrain
  cases s.clc.drain.any (fun d => d.clip == k) <;> rfl

theorem abortClip_works (k : Nat) : s.Works (s.abortClip k).1 := by
  unfold State.abortClip; split
  · exact .refl s
  · next r held =>
    split
    · exact .refl s
    · exact .refl s
    · exact .refl s
    · next closing =>
      split
      · exact .refl s
      · next unwritten =>
        obtain ⟨u, aborts⟩ : ∃ u, u = (((s.abandonDrain k).setBuffer (fun b => { b with
          queue := b.queue.filter (fun n => !(s.abortedSlots k).contains n) })).freeSlots (s.abortedSlots k)).modifyClip k
            (fun r => { r with state := .aborted, endReason := some .abort }) := ⟨_, rfl⟩
        obtain ⟨v, posts⟩ : ∃ v, v = (u.post .clipAborted (.number k)).trailerTest := ⟨_, rfl⟩
        have drains : (s.clc.drain.any fun d => d.clip == k) = true ↔ (s.ledger s.flight []).drain = some k := by
          simp [State.ledger, Option.any_eq_true]
        have writing : ∀ n t, (s.ledger s.flight []).slots n = some t → t.state = .writing → t.clip ≠ some k := by
          rintro n t tagged state clip
          obtain ⟨q, found, rfl⟩ := Option.map_eq_some_iff.mp tagged
          refine unwritten (List.any_eq_true.mpr ⟨_, mem_of_lookup found, ?_⟩)
          exact decide_eq_true ⟨state, clip⟩
        have number : r.number = k := by simpa using List.find?_some held
        have tested := (u.post .clipAborted (.number k)).trailerTest_tested s.flight []
        rw [show (u.post .clipAborted (.number k)).ledger s.flight [] = u.ledger s.flight [] from rfl, aborts, ledger_aborted,
          ← aborts, ← posts] at tested
        have tidies : s.Tidies v := by
          have abandoned : s.Tidies (s.abandonDrain k) := by
            unfold State.abandonDrain; split <;> exact .same (.refl s)
          have freed : s.Tidies u := by
            rw [aborts]
            exact (abandoned.same.freeSlots (s.abortedSlots k)).same
          rw [posts]
          exact .trailerTest (freed.same rfl rfl)
        have aborted : s.Runs s.flightOk (v.ledger s.flight []) v s.flight [] := ⟨tidies, fun _ _ => .refl⟩
        have now : s.Runs s.flightOk (v.ledger s.flight []) (s.abortNow k) s.flight [] := by
          have whole : s.abortNow k = if (s.abortedSlots k).isEmpty then v else v.retryMotion := by rw [posts, aborts]; rfl
          rw [whole]; split
          · exact aborted
          · exact aborted.retryMotion
        refine .of_start (now.arrives ?_).endPowerClose fun _ _ =>
          .abort _ _ k _ rfl ⟨r.account, List.mem_map_of_mem (List.mem_of_find?_eq_some held), number, closing⟩ writing drains
            tested
        simp [State.flight]

theorem restartNow_ledger (s : State) : s.restartNow.ledger none [] =
    ⟨fun _ => none, none, [], [], none, [], .idle, s.clc.table.prerollDepth, [], s.clc.nextClip, none⟩ := by
  have sb : s.restartNow.sb = SlotBuffer.powerOn := by
    unfold State.restartNow State.restartBlocks
    rw [State.restartCard_eq]
    rfl
  have clc : s.restartNow.clc = s.clc.restarted := by
    unfold State.restartNow State.restartBlocks
    rw [State.restartCard_eq]
    rfl
  simp only [State.ledger, sb, clc]
  rfl

/-- RESTART is the first change of its step (R177). -/
theorem restartNow_starts {u : State} (sb : u.sb = s.restartNow.sb) (clc : u.clc = s.restartNow.clc) :
    s.Runs s.flightOk (u.ledger none []) u none [] ∧ Ledger.Start (s.ledger s.flight []) (u.ledger none []) := by
  have ledger : u.ledger none [] = _ := (State.ledger_eq s.restartNow none [] sb clc).trans (restartNow_ledger s)
  have buffer : s.restartNow.sb = SlotBuffer.powerOn := by
    unfold State.restartNow State.restartBlocks
    rw [State.restartCard_eq]
    rfl
  refine ⟨⟨⟨fun _ => ?_, fun _ => ?_⟩, fun _ _ => .refl⟩, ?_⟩
  · rw [State.memoryOk, sb, buffer]
    decide
  · rw [State.inOrder, sb, buffer]
    exact List.Pairwise.nil
  · rw [ledger]
    exact .blank _

theorem restartNow_write (s : State) : s.restartNow.cp.write = none := by
  unfold State.restartNow State.restartBlocks
  rw [State.restartCard_eq]
  exact (CardPort.restarted_spec _ _).2.2.2.2.2.1

theorem takeRestart_works (tag : BitVec 8) (params : List (BitVec 8)) : s.Works (s.takeRestart tag params) := by
  simp only [State.takeRestart]
  cases accepted : s.restartAccepted params with
  | false =>
    rw [if_neg (by simp)]
    refine .control ?_
    unfold State.restart; split
    · exact .refl s
    · obtain ⟨runs, start⟩ := restartNow_starts (s := s) (u := s.restartNow) rfl rfl
      exact .of_start (runs.arrives (by simp [State.flight, restartNow_write])) fun _ _ => start
  | true =>
    simp only [State.restartAccepted, Bool.and_eq_true, decide_eq_true_eq, Bool.not_eq_true'] at accepted
    obtain ⟨⟨room, empty⟩, active⟩ := accepted
    have now : s.restart.1 = s.restartNow := by simp [State.restart, active]
    rw [if_pos rfl]
    rcases s.control_cases tag 0x13 (decide (params.length = 0)) false State.restart with
      ⟨full, -⟩ | ⟨-, bad, -⟩ | ⟨-, -, waking, -⟩ | ⟨-, -, -, e⟩
    · omega
    · simp [empty] at bad
    · simp [State.inStandby, waking] at active
    · rw [e]
      obtain ⟨runs, start⟩ := restartNow_starts (s := s) (u := (s.restart.1.reply tag 0x13 s.restart.2).postAborted
        s.clc.unfinished) (by simp [now]) (by simp [now])
      exact .of_start (runs.powerCloseTest.arrives (by simp [State.flight, restartNow_write, now])).endPowerClose
        fun _ _ => start

end State
end Sys2Proof.Machine
end

section
/-!
The laws of the card and of standby that the tenth law rests on (R105 to R120, R162 to R166): which events keep them.
-/
set_option Elab.async false

namespace Sys2Proof.Machine

/-- What the card laws read. -/
structure CardFace where
  write : Option (Option Nat)
  wait : Option CardWait
  writing : Bool
  card : CardState
  supply : Bool
  standby : StandbyState
  reason : Bool
  waking : Bool

/-- The card and standby of a state. -/
def State.cardFace (s : State) : CardFace where
  write := s.cp.write.map (·.slot)
  wait := s.cp.wait.map (·.what)
  writing := s.cp.writing
  card := s.cp.card
  supply := s.cp.supplyOn
  standby := s.smn.standby
  reason := s.smn.reason.isSome
  waking := s.smn.wakeDeadline.isSome

/-- What the card laws read of the Supply Monitor. -/
def State.awake (s : State) : StandbyState × Bool × Bool :=
  (s.smn.standby, s.smn.reason.isSome, s.smn.wakeDeadline.isSome)

namespace CardFace

/-- A write whose blocks are awaited has its slot (R112 to R114). -/
def slotted (c : CardFace) : Prop :=
  ∀ slot, c.write = some slot → c.wait = some .block ∨ c.wait = some .settled ∨ c.wait = some .stopped → slot ≠ none

/-- In standby the card bus is quiet, the standby reason and the wake timer are there as R164 and R166 say, and a write in
flight is at its stage (R110 to R114). -/
structure Ok (c : CardFace) : Prop where
  parked : c.standby ≠ .active → c.write = none ∧ c.wait = none ∧ (c.card = .absent ∨ c.card = .off) ∧ c.supply = false
  reason : c.reason = true ↔ c.standby ≠ .active
  waking : c.waking = true ↔ c.standby = .waking
  flight : ∀ slot, c.write = some slot → c.writing = true ∧
    (c.card = .ready ∨ c.card = .writing ∨ c.card = .settling) ∧
    (c.wait = some .writeGrade ∧ slot = none ∨
      (c.wait = some .block ∨ c.wait = some .settled ∨ c.wait = some .stopped) ∧ slot ≠ none)

end CardFace

section
variable {s : State}

theorem CardPort.awaits_iff {c : CardPort} {what : CardWait} : c.awaits what = true ↔ c.wait.map (·.what) = some what := by
  simp [CardPort.awaits, Option.any_eq_true]

theorem State.slotted_iff : s.slotted ↔ s.cardFace.slotted := by
  simp only [State.slotted, CardFace.slotted, State.cardFace, CardPort.awaits_iff, Option.map_eq_some_iff]
  constructor
  · rintro slotted slot ⟨w, write, rfl⟩
    exact slotted w write
  · exact fun slotted w write => slotted w.slot ⟨w, write, rfl⟩

theorem State.cardOk_iff : s.flightOk ∧ s.parkedOk ∧ s.reasonOk ↔ s.cardFace.Ok := by
  have write : ∀ p : Option Nat → Prop, (∀ w, s.cp.write = some w → p w.slot) ↔
      ∀ slot, s.cardFace.write = some slot → p slot := fun p => by
    simp [State.cardFace]
  constructor
  · rintro ⟨flight, parked, reason, waking⟩
    refine ⟨fun out => ?_, reason, waking, (write _).mp fun w own => ?_⟩
    · obtain ⟨none_flies, none_awaited, card, supply⟩ := parked out
      exact ⟨by simp [State.cardFace, none_flies], by simp [State.cardFace, none_awaited], card, supply⟩
    · have stage := flight w own
      simp only [CardPort.awaits_iff] at stage
      exact stage
  · rintro ⟨parked, reason, waking, flight⟩
    refine ⟨fun w own => ?_, fun out => ?_, reason, waking⟩
    · have stage := (write _).mpr flight w own
      simp only [CardPort.awaits_iff]
      exact stage
    · simpa [State.cardFace] using parked out

end

/-! ### What an event does to the card (R105 to R120) -/

/-- An event that leads from s to t keeps the card laws. -/
structure State.Cards (s t : State) : Prop where
  slotted : s.cardFace.slotted → t.cardFace.slotted
  ok : s.cardFace.Ok → t.cardFace.Ok

namespace State

variable {s t u : State}

theorem Cards.refl (s : State) : s.Cards s := ⟨id, id⟩

/-- An operation that leaves what the card laws read. -/
theorem Cards.same (h : s.Cards t) (face : u.cardFace = t.cardFace) : s.Cards u :=
  ⟨fun k => by rw [face]; exact h.slotted k, fun k => by rw [face]; exact h.ok k⟩

/-- An operation of another block. -/
theorem Cards.aside (h : s.Cards t) (cp : u.cp = t.cp := by simp) (smn : u.smn = t.smn := by simp) : s.Cards u :=
  h.same (by simp only [State.cardFace, cp, smn])

/-- An operation after which no write is in flight. -/
theorem Cards.without (h : s.Cards t) (write : u.cp.write = none)
    (ok : t.cardFace.Ok → (u.smn.standby ≠ .active → u.cp.wait = none ∧ (u.cp.card = .absent ∨ u.cp.card = .off) ∧
      u.cp.supplyOn = false) ∧ (u.smn.reason.isSome = true ↔ u.smn.standby ≠ .active) ∧
      (u.smn.wakeDeadline.isSome = true ↔ u.smn.standby = .waking)) : s.Cards u := by
  have none_flies : u.cardFace.write = none := by simp [State.cardFace, write]
  refine ⟨fun _ slot own => ?_, fun k => ?_⟩
  · cases none_flies.symm.trans own
  · obtain ⟨parked, reason, waking⟩ := ok (h.ok k)
    refine ⟨fun out => ?_, reason, waking, fun slot own => ?_⟩
    · obtain ⟨wait, card, supply⟩ := parked out
      exact ⟨none_flies, by simp [State.cardFace, wait], card, supply⟩
    · cases none_flies.symm.trans own

/-- While ACTIVE, an operation after which no write is in flight. -/
theorem Cards.ends (h : s.Cards t) (write : u.cp.write = none) (ok : t.cardFace.Ok → t.smn.standby = .active)
    (awake : u.awake = t.awake := by rfl) : s.Cards u := by
  obtain ⟨standby, reason, timer⟩ : u.smn.standby = t.smn.standby ∧
      u.smn.reason.isSome = t.smn.reason.isSome ∧ u.smn.wakeDeadline.isSome = t.smn.wakeDeadline.isSome := by
    simpa only [State.awake, Prod.mk.injEq] using awake
  refine h.without write fun k => ⟨fun out => absurd (standby.trans (ok k)) out, ?_, ?_⟩
  · rw [reason, standby]
    exact k.reason
  · rw [timer, standby]
    exact k.waking

/-- A step of an attach: nothing of a slot write is awaited before or after it (R105 to R107). -/
theorem Cards.attaches (h : s.Cards t) (write : u.cp.write = t.cp.write := by rfl)
    (wait : u.cardFace.wait = none ∨ u.cardFace.wait = some .resetDone ∨ u.cardFace.wait = some .identify ∨
      ∃ g, u.cardFace.wait = some (.attachGrade g))
    (ok : t.cardFace.Ok → t.smn.standby = .active ∧ t.cardFace.write = none) (awake : u.awake = t.awake := by rfl) :
    s.Cards u := by
  have same : u.cardFace.write = t.cardFace.write := by simp [State.cardFace, write]
  refine ⟨fun _ slot _ awaits => ?_, fun k => ?_⟩
  · rcases wait with e | e | e | ⟨g, e⟩ <;> simp [e] at awaits
  · obtain ⟨active, none_flies⟩ := ok (h.ok k)
    obtain ⟨-, reason, waking, -⟩ := h.ok k
    obtain ⟨standby, same_reason, same_timer⟩ : u.smn.standby = t.smn.standby ∧
        u.smn.reason.isSome = t.smn.reason.isSome ∧ u.smn.wakeDeadline.isSome = t.smn.wakeDeadline.isSome := by
      simpa only [State.awake, Prod.mk.injEq] using awake
    have active : u.smn.standby = .active := standby.trans active
    refine ⟨fun out => absurd active out, ?_, ?_, fun slot own => ?_⟩
    · simpa only [State.cardFace, standby, same_reason] using reason
    · simpa only [State.cardFace, standby, same_timer] using waking
    · cases (same.trans none_flies).symm.trans own

/-- A slot write goes on with its slot (R110 to R114). -/
theorem Cards.writes (h : s.Cards t) {n : Option Nat} (write : u.cardFace.write = some n) (writing : u.cp.writing = true)
    (card : u.cp.card = .ready ∨ u.cp.card = .writing ∨ u.cp.card = .settling)
    (wait : u.cardFace.wait = some .block ∨ u.cardFace.wait = some .settled ∨ u.cardFace.wait = some .stopped)
    (slot : t.cardFace.slotted → n ≠ none) (ok : t.cardFace.Ok → t.smn.standby = .active ∧ n ≠ none)
    (awake : u.awake = t.awake := by rfl) : s.Cards u := by
  refine ⟨fun k m own _ => ?_, fun k => ?_⟩
  · cases write.symm.trans own
    exact slot (h.slotted k)
  · obtain ⟨active, taken⟩ := ok (h.ok k)
    obtain ⟨-, reason, waking, -⟩ := h.ok k
    obtain ⟨standby, same_reason, same_timer⟩ : u.smn.standby = t.smn.standby ∧
        u.smn.reason.isSome = t.smn.reason.isSome ∧ u.smn.wakeDeadline.isSome = t.smn.wakeDeadline.isSome := by
      simpa only [State.awake, Prod.mk.injEq] using awake
    have active : u.smn.standby = .active := standby.trans active
    refine ⟨fun out => absurd active out, ?_, ?_, fun m own => ?_⟩
    · simpa only [State.cardFace, standby, same_reason] using reason
    · simpa only [State.cardFace, standby, same_timer] using waking
    · cases write.symm.trans own
      exact ⟨writing, card, .inr ⟨wait, taken⟩⟩

/-- A standby is entered from ACTIVE (R164). -/
theorem Cards.enterStandby (h : s.Cards t) (active : t.smn.standby = .active) (reason : StandbyReason) :
    s.Cards (t.enterStandby reason) := by
  have cp : (t.enterStandby reason).cp = t.cp.standby := by simp [State.enterStandby, State.parkBlocks]
  have smn : (t.enterStandby reason).smn = { t.smn with standby := .standby, reason := some reason } := by
    simp [State.enterStandby]
  refine h.without (by rw [cp]; rfl) fun k => ?_
  have asleep : t.smn.wakeDeadline.isSome = false := by
    have := k.waking
    simp only [State.cardFace, active] at this
    simpa using this
  rw [cp, smn]
  refine ⟨fun _ => ⟨rfl, ?_, rfl⟩, by simp, by simp [asleep]⟩
  cases card : t.cp.card <;> simp [CardPort.standby, CardState.atStandby, card]

theorem Cards.endPowerClose (h : s.Cards t) : s.Cards t.endPowerClose := by
  unfold State.endPowerClose; split
  · exact h
  · split
    · dsimp only; split
      · next active =>
        have absent : s.Cards (t.setRecorder (fun c => { c with powerClose := none })) := h.aside
        exact absent.enterStandby active _
      · exact h.aside rfl rfl
    · exact h

theorem Cards.checkPowerClose (h : s.Cards t) (old : State) : s.Cards (t.checkPowerClose old) := by
  unfold State.checkPowerClose; split
  · exact h.endPowerClose
  · exact h

end State

/-! ### What is awaited tells the stage (R106 to R114) -/

namespace CardFace

variable {c : CardFace}

theorem Ok.active_of_wait (ok : c.Ok) {what : CardWait} (wait : c.wait = some what) : c.standby = .active := by
  by_contra out
  obtain ⟨-, none_awaited, -⟩ := ok.parked out
  cases none_awaited.symm.trans wait

theorem Ok.active_of_card (ok : c.Ok) (card : c.card = .ready ∨ c.card = .writing ∨ c.card = .settling) :
    c.standby = .active := by
  by_contra out
  obtain ⟨-, -, gone, -⟩ := ok.parked out
  grind

/-- Where the card answers an attach, no write is in flight (R106, R107). -/
theorem Ok.without_of_wait (ok : c.Ok) (wait : c.wait = some .resetDone ∨ c.wait = some .identify ∨
    ∃ g, c.wait = some (.attachGrade g)) : c.write = none := by
  cases write : c.write with
  | none => rfl
  | some slot =>
    obtain ⟨-, -, stage⟩ := ok.flight slot write
    grind

theorem Ok.without_of_card (ok : c.Ok) (card : c.card = .absent ∨ c.card = .attaching) : c.write = none := by
  cases write : c.write with
  | none => rfl
  | some slot =>
    obtain ⟨-, stage, -⟩ := ok.flight slot write
    grind

/-- A write whose blocks are awaited has its slot. -/
theorem Ok.slot_of_wait (ok : c.Ok) {n : Option Nat} (write : c.write = some n)
    (wait : c.wait = some .block ∨ c.wait = some .settled ∨ c.wait = some .stopped) : n ≠ none := by
  obtain ⟨-, -, stage⟩ := ok.flight n write
  grind

end CardFace

/-! ### The events of the Card Port -/

namespace State

variable {s t u : State} {w : SlotWrite}

theorem awaited (h : s.cp.awaits what = true) : s.cardFace.wait = some what := CardPort.awaits_iff.mp h

theorem Cards.detectAsserts (s : State) : s.Cards s.detectAsserts := by
  simp only [State.detectAsserts, State.assertDetect]; split
  · split
    · split
      · next absent =>
        simp only [State.inStandby, Bool.not_eq_true', decide_eq_false_iff_not, not_not] at absent
        exact (Cards.refl s).attaches rfl (.inr (.inl rfl)) fun ok => ⟨absent.2, ok.without_of_card (.inl absent.1)⟩
      · exact (Cards.refl s).same rfl
    · exact .refl s
  · exact .refl s

theorem Cards.detectReleases (s : State) : s.Cards s.detectReleases := by
  simp only [State.detectReleases, State.releaseDetect]; split
  · split
    · split
      · exact (Cards.refl s).same rfl
      · next d _ _ _ =>
        obtain ⟨r, released⟩ : ∃ r, r = (s.reach d).setCard (fun c => { c with detect := false, settle := none }) := ⟨_, rfl⟩
        have cp : r.removeCard.cp = r.cp.removed := by
          unfold State.removeCard State.giveBackWrite
          (repeat' split) <;> simp [State.giveBack]
        have smn : r.removeCard.smn = r.smn := by simp
        rw [← released]
        refine (Cards.refl s).without (by rw [cp]; rfl) fun ok => ?_
        rw [cp, smn, released]
        exact ⟨fun out => ⟨rfl, .inl rfl, (ok.parked out).2.2.2⟩, ok.reason, ok.waking⟩
    · exact .refl s
  · exact .refl s

theorem Cards.resetWaitEnds (s : State) : s.Cards s.resetWaitEnds := by
  unfold State.resetWaitEnds; split
  · next awaits =>
    exact (Cards.refl s).attaches rfl (.inr (.inr (.inl rfl)))
      fun ok => ⟨ok.active_of_wait (awaited awaits), ok.without_of_wait (.inl (awaited awaits))⟩
  · exact .refl s

theorem Cards.failAttach (t : State) (face : t.cardFace = s.cardFace) (wait : s.cardFace.wait = some .identify ∨
    ∃ g, s.cardFace.wait = some (.attachGrade g)) : s.Cards t.failAttach := by
  refine ((Cards.refl s).same face).attaches rfl (.inl rfl) fun ok => ?_
  rw [face] at ok ⊢
  refine ⟨?_, ok.without_of_wait (.inr wait)⟩
  have active : s.cardFace.standby = .active := by
    rcases wait with e | ⟨g, e⟩ <;> exact ok.active_of_wait e
  exact (congrArg CardFace.standby face).trans active

theorem Cards.takeIdentify (s : State) (a : IdentifyAnswer) : s.Cards (s.takeIdentify a) := by
  unfold State.takeIdentify; split
  · next awaits =>
    split
    · exact (Cards.refl s).attaches rfl (.inr (.inr (.inr ⟨_, rfl⟩)))
        fun ok => ⟨ok.active_of_wait (awaited awaits), ok.without_of_wait (.inr (.inl (awaited awaits)))⟩
    · exact Cards.failAttach s rfl (.inl (awaited awaits))
  · exact .refl s

theorem Cards.identifyExpires (s : State) : s.Cards s.identifyExpires := by
  unfold State.identifyExpires; split
  · next awaits => exact Cards.failAttach (s.reach s.cardDeadline) rfl (.inl (awaited awaits))
  · exact .refl s

theorem attachGrade_wait {g : Grade} (sent : s.cp.attachGrade = some g) : s.cardFace.wait = some (.attachGrade g) := by
  unfold CardPort.attachGrade at sent
  split at sent
  · next wait => cases sent; simp [State.cardFace, wait]
  · cases sent

theorem beginAttempt_cp (t : State) (w : SlotWrite) (ecc : EccRead) : (t.beginAttempt w ecc).cp = { t.cp with
    card := .writing, writer := .sending, write := some { w with blocksAnswered := 0 }
    sent := some (.writeBlocks w.position Config.slotBlocks)
    wait := some ⟨.block, t.deadlineIn t.busyTime⟩ } := by
  simp only [State.beginAttempt, State.readBlock_frame]
  rfl

/-- A write attempt begins with the slot of the write (R112). -/
theorem Cards.beginAttempt (h : s.Cards t) (ecc : EccRead) (slot : t.cardFace.slotted → w.slot ≠ none)
    (ok : t.cardFace.Ok → t.smn.standby = .active ∧ w.slot ≠ none) (awake : u.awake = t.awake := by rfl) :
    s.Cards (u.beginAttempt w ecc) := by
  have cp := u.beginAttempt_cp w ecc
  have awake : (u.beginAttempt w ecc).awake = t.awake := by simpa [State.awake] using awake
  refine h.writes (n := w.slot) ?_ ?_ ?_ ?_ slot ok awake
  · simp [State.cardFace, cp]
  · simp [CardPort.writing, cp]
  · simp [cp]
  · simp [State.cardFace, cp]

theorem Cards.takeSlot (h : s.Cards t) (w : SlotWrite) (ecc : EccRead) (ok : t.cardFace.Ok → t.smn.standby = .active)
    (awake : u.awake = t.awake := by rfl) : s.Cards (u.takeSlot w ecc) := by
  unfold State.takeSlot; split
  · exact h.ends rfl ok awake
  · next n rest queue => exact h.beginAttempt (w := { w with slot := some n }) ecc (fun _ => nofun) (fun k => ⟨ok k, nofun⟩) awake

theorem Cards.takeGradeAnswer (s : State) (ecc : EccRead) : s.Cards (s.takeGradeAnswer ecc) := by
  unfold State.takeGradeAnswer State.gradeSet; split
  · next g sent =>
    have wait := attachGrade_wait sent
    exact (Cards.refl s).attaches rfl (.inl rfl)
      fun ok => ⟨ok.active_of_wait wait, ok.without_of_wait (.inr (.inr ⟨g, wait⟩))⟩
  · split
    · next awaits =>
      split
      · next w write =>
        have set : s.Cards (s.setCard (fun c => { c with gradeInUse := some w.grade })) := (Cards.refl s).same rfl
        exact set.takeSlot w ecc fun ok => ok.active_of_wait (awaited awaits)
      · exact .refl s
    · exact .refl s

/-- A slot write that has no slot yet sends SET GRADE (R111). -/
theorem Cards.asksGrade (h : s.Cards t) {us : Nat} {w : SlotWrite} {item : CardSend} (card : t.cp.card = .ready)
    (active : t.cardFace.Ok → t.smn.standby = .active) (none_taken : w.slot = none := by rfl) :
    s.Cards ((t.setCard (fun c => { c with writer := .mapping, write := some w })).sendCard item .writeGrade us) := by
  refine ⟨fun _ slot _ awaits => ?_, fun k => ?_⟩
  · simp [State.cardFace, State.sendCard] at awaits
  · have active := active (h.ok k)
    obtain ⟨-, reason, waking, -⟩ := h.ok k
    refine ⟨fun out => absurd active out, reason, waking, fun slot own => ?_⟩
    cases (show some w.slot = some slot from own)
    exact ⟨rfl, .inl card, .inl ⟨rfl, none_taken⟩⟩

theorem Cards.writeStarts (s : State) (ecc : EccRead) : s.Cards (s.writeStarts ecc) := by
  unfold State.writeStarts; split
  · next can =>
    simp only [State.writeCanStart, Bool.and_eq_true, decide_eq_true_eq] at can
    obtain ⟨⟨card, idle⟩, -⟩ := can
    have active : s.cardFace.Ok → s.smn.standby = .active := fun ok => ok.active_of_card (.inl card)
    simp only [State.startWrite]; split
    · exact (Cards.refl s).ends rfl active
    · split
      · exact (Cards.refl s).takeSlot _ ecc active
      · exact (Cards.refl s).asksGrade card active
  · exact .refl s

theorem declareFailed_write (t : State) : t.declareFailed.cp.write = none := by
  simp only [State.declareFailed]
  rfl

/-- The card is declared FAILED while it works on a write (R116). -/
theorem Cards.declareFailed (h : s.Cards t) (ok : t.cardFace.Ok → t.smn.standby = .active) : s.Cards t.declareFailed :=
  h.ends t.declareFailed_write ok (by simp [State.awake])

theorem Cards.gradeExpires (s : State) : s.Cards s.gradeExpires := by
  unfold State.gradeExpires; split
  · next g sent => exact Cards.failAttach (s.reach s.cardDeadline) rfl (.inr ⟨g, attachGrade_wait sent⟩)
  · split
    · next awaits =>
      have reached : s.Cards (s.reach s.cardDeadline) := (Cards.refl s).same rfl
      exact reached.declareFailed fun ok => ok.active_of_wait (awaited awaits)
    · exact .refl s

theorem Cards.stopExpires (s : State) : s.Cards s.stopExpires := by
  unfold State.stopExpires; split
  · next awaits =>
    have reached : s.Cards (s.reach s.cardDeadline) := (Cards.refl s).same rfl
    exact reached.declareFailed fun ok => ok.active_of_wait (awaited awaits)
  · exact .refl s

/-- An attempt fails: STOP is sent (R114). -/
theorem Cards.failAttempt (h : s.Cards t) (wait : t.cardFace.wait = some .block ∨ t.cardFace.wait = some .settled) :
    s.Cards t.failAttempt := by
  have wait : t.cardFace.wait = some .block ∨ t.cardFace.wait = some .settled ∨ t.cardFace.wait = some .stopped := by tauto
  have active : t.cardFace.Ok → t.smn.standby = .active := fun ok => by
    rcases wait with e | e | e <;> exact ok.active_of_wait e
  cases write : t.cp.write with
  | none => exact h.ends write active
  | some w =>
    have write : t.cardFace.write = some w.slot := by simp [State.cardFace, write]
    exact h.writes (n := w.slot) write rfl (.inr (.inl rfl)) (.inr (.inr rfl)) (fun slotted => slotted w.slot write wait)
      (fun ok => ⟨active ok, ok.slot_of_wait write wait⟩)

theorem Cards.blockExpires (s : State) : s.Cards s.blockExpires := by
  unfold State.blockExpires; split
  · next awaits => exact Cards.failAttempt (t := s.reach s.cardDeadline) ((Cards.refl s).same rfl) (.inl (awaited awaits))
  · exact .refl s

theorem Cards.busyExpires (s : State) : s.Cards s.busyExpires := by
  unfold State.busyExpires; split
  · next awaits => exact Cards.failAttempt (t := s.reach s.cardDeadline) ((Cards.refl s).same rfl) (.inr (awaited awaits))
  · exact .refl s

theorem Cards.blockAccepted (write : s.cp.write = some w) (awaits : s.cp.awaits .block = true) (ecc : EccRead) :
    s.Cards (s.blockAccepted w ecc) := by
  have wait := awaited awaits
  have own : s.cardFace.write = some w.slot := by simp [State.cardFace, write]
  have slotted : s.cardFace.slotted → w.slot ≠ none := fun slotted => slotted w.slot own (.inl wait)
  have ok : s.cardFace.Ok → s.smn.standby = .active ∧ w.slot ≠ none := fun ok =>
    ⟨ok.active_of_wait wait, ok.slot_of_wait own (.inl wait)⟩
  simp only [State.blockAccepted]; split
  · refine (Cards.refl s).same ?_
    simp only [State.cardFace, State.readBlock_frame, write, Option.map_some]
    rw [show s.cp.wait.map (·.what) = some .block from wait]
    rfl
  · exact (Cards.refl s).writes (n := w.slot) rfl rfl (.inr (.inr rfl)) (.inr (.inl rfl)) slotted ok

theorem Cards.takeBlockAnswer (s : State) (result : BlockResult) (ecc : EccRead) : s.Cards (s.takeBlockAnswer result ecc) := by
  unfold State.takeBlockAnswer; split
  · next w awaits write =>
    split
    · exact Cards.blockAccepted write awaits ecc
    · exact (Cards.refl s).failAttempt (.inl (awaited awaits))
    · exact (Cards.refl s).failAttempt (.inl (awaited awaits))
  · exact .refl s

end State
end Sys2Proof.Machine
end

section
/-!
The card laws over the events of standby, the wake, the sweep and RESTART, and over the end of a slot write (R113, R114, R127,
R142, R160 to R166, R177).
-/
set_option Elab.async false

namespace Sys2Proof.Machine

namespace State

variable {s t u : State} {w : SlotWrite}

/-! ### The end of a slot write (R113 to R116) -/

theorem Cards.skipPosition (h : s.Cards t) (ecc : EccRead) (slot : t.cardFace.slotted → w.slot ≠ none)
    (ok : t.cardFace.Ok → t.smn.standby = .active ∧ w.slot ≠ none) (awake : u.awake = t.awake := by rfl) :
    s.Cards (u.skipPosition w ecc) := by
  have noted : ∀ F : ClipRecord → ClipRecord, ((u.consume.modifyClip ((u.sb.slot (w.slot.getD 0)).clip.getD 0) F).count
      .cardSkips).awake = t.awake := fun F => by simpa [State.awake] using awake
  simp only [State.skipPosition]; split
  · next p cursor =>
    exact h.beginAttempt (w := { w with position := p, positionCount := 2, attempts := 0 }) ecc slot ok (noted _)
  · exact h.ends rfl (fun k => (ok k).1) (by simpa [State.awake, State.noExtent, State.giveBack] using awake)

theorem Cards.afterStop (write : s.cp.write = some w) (awaits : s.cp.awaits .stopped = true) (ecc : EccRead) :
    s.Cards (s.afterStop w ecc) := by
  have wait := awaited awaits
  have own : s.cardFace.write = some w.slot := by simp [State.cardFace, write]
  have slotted : s.cardFace.slotted → w.slot ≠ none := fun slotted => slotted w.slot own (.inr (.inr wait))
  have ok : s.cardFace.Ok → s.smn.standby = .active ∧ w.slot ≠ none := fun ok =>
    ⟨ok.active_of_wait wait, ok.slot_of_wait own (.inr (.inr wait))⟩
  simp only [State.afterStop]; split
  · exact (Cards.refl s).beginAttempt (w := { w with attempts := 1 }) ecc slotted ok
  · split
    · exact (Cards.refl s).skipPosition ecc slotted ok
    · exact (Cards.refl s).ends (declareFailed_write _) (fun k => (ok k).1) (by simp [State.awake])

theorem Cards.finishWrite (awaits : s.cp.awaits .settled = true) (w : SlotWrite) : s.Cards (s.finishWrite w) := by
  have done : s.Cards (s.writeSucceeds w) :=
    (Cards.refl s).ends rfl (fun ok => ok.active_of_wait (awaited awaits)) (by simp [State.awake, State.writeSucceeds])
  unfold State.finishWrite; split
  · exact done.endPowerClose
  · exact done

theorem Cards.takeReady (s : State) (moment : ReportMoment) (ecc : EccRead) : s.Cards (s.takeReady moment ecc) := by
  unfold State.takeReady; split
  · next w write =>
    split
    · next settled => exact Cards.finishWrite settled w
    · split
      · next stopped => exact Cards.afterStop write stopped.1 ecc
      · exact .refl s
  · exact .refl s

/-- An APPEND can end a suspension of the writer (R118). -/
theorem Cards.append (s : State) (f n : Nat) : s.Cards (s.append f n).1 := by
  have same := Cards.refl s
  unfold State.append; split
  · exact same
  · dsimp only; split
    · unfold State.endNoExtent; split
      · next suspended =>
        have suspended : s.cp.writer = .suspended .noExtent := by simpa using suspended
        exact same.same (by simp [State.cardFace, CardPort.writing, suspended])
      · exact same.aside
    · exact same.aside

/-! ### Standby and the wake (R163 to R166) -/

theorem Cards.standbyCommand (s : State) : s.Cards s.standbyCommand.1 := by
  unfold State.standbyCommand; split
  · next active =>
    split
    · exact ((Cards.refl s).enterStandby active .command).endPowerClose
    · exact .refl s
  · exact .refl s
  · exact .refl s

theorem Cards.startWake (h : s.Cards t) (asleep : t.smn.standby = .standby) : s.Cards t.startWake := by
  refine ⟨fun k => h.slotted k, fun k => ?_⟩
  obtain ⟨parked, reason, -, flight⟩ := h.ok k
  have out : t.cardFace.standby ≠ .active := by simp [State.cardFace, asleep]
  exact ⟨fun _ => parked out, ⟨fun _ => nofun, fun _ => reason.mpr out⟩, ⟨fun _ => rfl, fun _ => rfl⟩, flight⟩

theorem Cards.wakeCommand (s : State) : s.Cards s.wakeCommand.1 := by
  unfold State.wakeCommand; split
  · exact .refl s
  · next asleep =>
    split
    · exact .refl s
    · exact (Cards.refl s).startWake asleep
  · exact .refl s

/-- The end of a wake: the card is attached again (R120, R166). -/
theorem Cards.endWake (h : s.Cards t) (timer : t.smn.wakeDeadline.isSome = true) (same : u.cardFace = t.cardFace := by rfl) :
    s.Cards u.endWake := by
  obtain ⟨v, woken⟩ : ∃ v, v = ((u.setSupply SupplyMonitor.awake).wakeCard.runStreams) := ⟨_, rfl⟩
  have fields : v.smn = u.smn.awake ∧ v.cp.write = u.cp.write ∧
      (v.cardFace.wait = some .resetDone ∨ v.cardFace.wait = u.cardFace.wait) := by
    rw [woken]
    unfold State.wakeCard
    dsimp only
    split
    · exact ⟨rfl, rfl, .inl rfl⟩
    · exact ⟨rfl, rfl, .inr rfl⟩
  obtain ⟨smn, write, wait⟩ := fields
  have write : v.cardFace.write = t.cardFace.write := by
    rw [← same]
    simp [State.cardFace, write]
  rw [same] at wait
  have awake : s.Cards v := by
    refine ⟨fun k slot own awaits => ?_, fun k => ?_⟩
    · rcases wait with e | e
      · simp [e] at awaits
      · exact h.slotted k slot (write ▸ own) (e ▸ awaits)
    · have ok := h.ok k
      obtain ⟨none_flies, -⟩ := ok.parked (by rw [ok.waking.mp timer]; exact nofun)
      have standby : v.cardFace.standby = .active := by simp [State.cardFace, smn, SupplyMonitor.awake]
      refine ⟨fun out => absurd standby out, ?_, ?_, fun slot own => ?_⟩
      · simp [State.cardFace, smn, SupplyMonitor.awake]
      · simp [State.cardFace, smn, SupplyMonitor.awake]
      · cases (write.trans none_flies).symm.trans own
  have tested : s.Cards v.powerCloseTest := awake.aside
  rw [woken] at tested
  exact tested

theorem Cards.wakeExpires (s : State) : s.Cards s.wakeExpires := by
  unfold State.wakeExpires; split
  · next d timer => exact ((Cards.refl s).endWake (u := s.reach d) (by rw [timer]; rfl)).checkPowerClose s
  · exact .refl s

/-! ### A sweep (R142) -/

theorem Cards.inputArrives (h : s.Cards t) : s.Cards t.inputArrives := by
  unfold State.inputArrives; split
  · next wakes => exact h.startWake wakes.1
  · exact h

theorem Cards.qualifySweep (h : s.Cards t) (r : Readings) : s.Cards (t.qualifySweep r) := by
  have counted : s.Cards (t.setCharge (fun c => { c with qualifyCount := raise 200 c.qualifyCount 1 })) := h.aside
  simp only [State.qualifySweep]; split
  · unfold State.admitInput
    exact (counted.aside).inputArrives
  · exact counted

theorem Cards.openInput (h : s.Cards t) (r : Readings) : s.Cards (t.openInput r) := by
  unfold State.openInput; split
  · split
    · exact h.aside
    · exact h
  · split
    · exact h.aside
    · exact h.qualifySweep r
  · exact h

theorem Cards.testInput (h : s.Cards t) (r : Readings) : s.Cards (t.testInput r) := by
  unfold State.testInput; split
  · split
    · exact h
    · exact h.aside
  · split
    · split
      · exact h.aside
      · exact h
    · exact h.openInput r

theorem closeIfActive_face (t : State) (reason : PowerReason) : (t.closeIfActive reason).cardFace = t.cardFace := by
  unfold State.closeIfActive; split
  · simp [State.cardFace]
  · rfl

theorem Cards.classifyBattery (h : s.Cards t) (r : Readings) : s.Cards (t.classifyBattery r) := by
  obtain ⟨u, counted⟩ : ∃ u, u = t.setSupply (fun m => { m with
    battery := batteryAfter t.smn.battery (criticalCountAfter t.smn t.chg r.vBat) t.chg.table r.vBat
    criticalCount := if batteryAfter t.smn.battery (criticalCountAfter t.smn t.chg r.vBat) t.chg.table r.vBat = .critical then 0
      else criticalCountAfter t.smn t.chg r.vBat }) := ⟨_, rfl⟩
  have moved : t.classifyBattery r = u.batteryMoved t.smn.battery r.vBat := by rw [counted]; rfl
  have same : u.cardFace = t.cardFace := by rw [counted]; rfl
  refine h.same (Eq.trans ?_ same)
  rw [moved]
  unfold State.batteryMoved; split
  · rfl
  · exact closeIfActive_face _ _
  · exact closeIfActive_face _ _
  · rfl

theorem Cards.classifyDie (h : s.Cards t) (r : Readings) : s.Cards (t.classifyDie r) := by
  refine h.same ?_
  unfold State.classifyDie State.dieMoved; split
  · rfl
  · split
    · exact closeIfActive_face _ _
    · rfl

/-- A sweep, but for cutoff (R142, R160). -/
theorem Cards.takeSweep (s : State) (r : Readings) : s.Cards (s.takeSweep r) ∨ ∃ u : State, s.takeSweep r = u.goDark := by
  have begun : s.Cards (s.beginSweep (clampReadings r)).takeProfile := (Cards.refl s).same
    (by simp only [State.cardFace, State.beginSweep]; split <;> simp [State.advance])
  have input : s.Cards (s.sweepInput (clampReadings r)) := (begun.testInput (clampReadings r)).aside rfl rfl
  have classed := (input.classifyBattery (clampReadings r)).classifyDie (clampReadings r)
  rw [State.takeSweep_eq, State.endSweep]; split
  · exact .inr ⟨_, rfl⟩
  · refine .inl (Cards.checkPowerClose ?_ s)
    exact classed.aside

/-! ### RESTART (R177) -/

theorem Cards.restartNow (active : s.smn.standby = .active) : s.Cards s.restartNow :=
  (Cards.refl s).ends (restartNow_write s) (fun _ => active)
    (by simp [State.awake, State.restartNow, State.restartBlocks, State.restartCard_eq])

/-- The frame of a command (R170, R172). -/
theorem Cards.control {tag code : BitVec 8} {ok query : Bool} {body : State → State × CommandResult}
    (cards : s.Cards (body s).1) : s.Cards (s.control tag code ok query body) := by
  rcases s.control_cases tag code ok query body with ⟨-, e⟩ | ⟨-, -, e⟩ | ⟨-, -, -, -, e⟩ | ⟨-, -, -, e⟩
  · rw [e]; exact (Cards.refl s).aside
  · rw [e]; exact (Cards.refl s).aside
  · rw [e]; exact (Cards.refl s).aside
  · rw [e]; exact cards.aside

theorem Cards.takeRestart (s : State) (tag : BitVec 8) (params : List (BitVec 8)) : s.Cards (s.takeRestart tag params) := by
  have restarts : s.Cards s.restart.1 := by
    unfold State.restart; split
    · exact .refl s
    · next awake => exact Cards.restartNow (by simpa [State.inStandby] using awake)
  have taken := restarts.control (tag := tag) (code := 0x13) (ok := decide (params.length = 0)) (query := false)
  simp only [State.takeRestart]; split
  · have tested : s.Cards (((s.control tag 0x13 (decide (params.length = 0)) false State.restart).postAborted
      s.clc.unfinished).powerCloseTest) := taken.aside
    exact tested.endPowerClose
  · exact taken

end State
end Sys2Proof.Machine
end

section
/-!
Every command and event: its path in the ledger, with the card laws (R168 to R177).
-/
set_option Elab.async false

namespace Sys2Proof.Machine

namespace State

variable {s t u : State}

/-- The blocks that the laws of the buffer read are as at power-on (R167). -/
def fresh (t : State) : Prop := ∃ b q, t.sb = (State.powerOn b q).sb ∧ t.clc = (State.powerOn b q).clc ∧
  t.cp = (State.powerOn b q).cp ∧ t.smn = (State.powerOn b q).smn

/-- An event works on the ledger, or the part starts afresh. -/
def Turns (s t : State) : Prop := s.Works t ∧ s.Cards t ∨ t.fresh

/-- An event that the part takes when it has supply (R160). -/
theorem Cards.take {effect : State → State} (cards : s.Cards (effect s)) (h : s.take effect = .next t) : s.Cards t := by
  rcases s.take_cases effect with ⟨-, e⟩ | ⟨-, e⟩
  · cases e.symm.trans h; exact cards.same rfl
  · cases e.symm.trans h; exact .refl s

theorem Turns.take {effect : State → State} (turns : s.Turns (effect s)) (h : s.take effect = .next t) : s.Turns t := by
  rcases turns with ⟨works, cards⟩ | ⟨b, q, sb, clc, cp, smn⟩
  · exact .inl ⟨works.take h, cards.take h⟩
  · rcases s.take_cases effect with ⟨-, e⟩ | ⟨-, e⟩
    · cases e.symm.trans h
      exact .inr ⟨b, q, sb, clc, cp, smn⟩
    · cases e.symm.trans h
      exact .inl ⟨.refl s, .refl s⟩

/-- An event that works on the ledger from its start. -/
theorem Turns.event {effect : State → State} (h : s.take effect = .next t) (works : s.Works (effect s))
    (cards : s.Cards (effect s) := by exact (Cards.refl _).same (by simp [State.cardFace])) : s.Turns t :=
  Turns.take (.inl ⟨works, cards⟩) h

/-- A command whose block works on the ledger. -/
theorem Turns.command {tag code : BitVec 8} {ok query : Bool} {body : State → State × CommandResult}
    (h : s.take (fun u => u.control tag code ok query body) = .next t) (works : s.Works (body s).1)
    (cards : s.Cards (body s).1 := by exact (Cards.refl _).same (by simp [State.cardFace])) : s.Turns t :=
  Turns.event (effect := fun u => u.control tag code ok query body) h works.control cards.control

/-- A sweep, which can cut the part off (R142, R160). -/
theorem Turns.sweep {effect : State → State} (h : s.take effect = .next t)
    (swept : s.RunsTo s.flightOk (s.ledger s.flight []) (effect s) ∨ ∃ u : State, effect s = u.goDark)
    (cards : s.Cards (effect s) ∨ ∃ u : State, effect s = u.goDark) : s.Turns t := by
  refine Turns.take ?_ h
  rcases swept, cards with ⟨runs | ⟨u, dark⟩, cards | ⟨u, dark⟩⟩
  · exact .inl ⟨.of_runs runs, cards⟩
  all_goals exact .inr ⟨u.cp.rawDetect, u.pending, by rw [dark]; exact ⟨rfl, rfl, rfl, rfl⟩⟩

theorem moveTime_works (now : Time) : s.Works (s.moveTime now) := by
  refine .of_runs (Runs.same (Runs.start _ s) ?_ (.same (.refl s)))
  refine Ledger.ext rfl rfl rfl rfl rfl rfl rfl rfl rfl rfl ?_
  show (s.clc.drain.map _).map _ = s.clc.drain.map _
  rw [Option.map_map]
  rfl

theorem drainExpires_works : s.Works s.drainExpires := by
  unfold State.drainExpires; split
  · next d drain =>
    have reached : s.Runs s.flightOk (s.ledger s.flight []) (s.reach d.deadline) s.flight [] := (Runs.start _ s).other
    exact .of_runs (reached.endDrain.arrives (by simp [State.flight])).endPowerClose
  · exact .refl s

theorem takeUnknown_works (tag code : BitVec 8) (params : List (BitVec 8)) : s.Works (s.takeUnknown tag code params) := by
  unfold State.takeUnknown; split
  · exact (Works.refl s).control
  · split
    · exact (Works.refl s).control
    · split
      · exact (Works.refl s).control
      · exact .refl s

theorem append_write (s : State) (f n : Nat) : (s.append f n).1.cp.write = s.cp.write := by
  unfold State.append State.endNoExtent; split
  · rfl
  · simp only
    (repeat' split) <;> simp

theorem removeProtect_works (i : Nat) : s.Works (s.removeProtect i).1 := by
  unfold State.removeProtect; split
  · split
    · unfold State.removeLock; split
      · split
        · exact .refl s
        · have placed : s.Runs s.flightOk (s.ledger s.flight []) (s.setPlace i none) s.flight [] := (Runs.start _ s).other
          exact .of_runs ((placed.modifyClip _).arrives rfl)
      · exact (Works.refl s).other
    · exact (Works.refl s).other
  · exact .refl s

/-- The events of an attach, and the end of an attempt, leave the write in flight (R105 to R107, R112 to R114). -/
theorem attach_write (s : State) : s.detectAsserts.cp.write = s.cp.write ∧
    s.resetWaitEnds.cp.write = s.cp.write ∧ s.identifyExpires.cp.write = s.cp.write ∧
    s.blockExpires.cp.write = s.cp.write ∧ s.busyExpires.cp.write = s.cp.write := by
  refine ⟨?_, ?_, ?_, ?_, ?_⟩
  · simp only [State.detectAsserts, State.assertDetect]
    (repeat' split) <;> rfl
  · unfold State.resetWaitEnds; split <;> rfl
  · unfold State.identifyExpires; split <;> rfl
  · unfold State.blockExpires; split <;> rfl
  · unfold State.busyExpires; split <;> rfl

theorem takeIdentify_write (s : State) (a : IdentifyAnswer) : (s.takeIdentify a).cp.write = s.cp.write := by
  unfold State.takeIdentify; (repeat' split) <;> rfl

/-! ### The card laws over the events of the other blocks -/

theorem takeGap_cards (s : State) : s.Cards s.takeGap := by
  unfold State.takeGap; split
  · exact .refl s
  · next d deadline =>
    have reached : s.Cards (s.reach d) := (Cards.refl s).same rfl
    exact reached.aside

theorem drainExpires_cards (s : State) : s.Cards s.drainExpires := by
  unfold State.drainExpires; split
  · next d drain =>
    have reached : s.Cards (s.reach d.deadline) := (Cards.refl s).same rfl
    exact (reached.aside (u := (s.reach d.deadline).endDrain)).endPowerClose
  · exact .refl s

theorem moveTime_cards (s : State) (now : Time) : s.Cards (s.moveTime now) :=
  (Cards.refl s).same (by simp [State.cardFace, State.moveTime, Function.comp_def]; rfl)

theorem takeUnknown_cards (s : State) (tag code : BitVec 8) (params : List (BitVec 8)) :
    s.Cards (s.takeUnknown tag code params) := by
  unfold State.takeUnknown; split
  · exact (Cards.refl s).control
  · split
    · exact (Cards.refl s).control
    · split
      · exact (Cards.refl s).control
      · exact .refl s

theorem abortClip_cards (s : State) (k : Nat) : s.Cards (s.abortClip k).1 := by
  unfold State.abortClip; split
  · exact .refl s
  · split
    · exact .refl s
    · exact .refl s
    · exact .refl s
    · split
      · exact .refl s
      · exact ((Cards.refl s).aside (u := s.abortNow k)).endPowerClose

theorem Cards.takeSweepIf (s : State) (happens : Bool) (r : Readings) : s.Cards (s.takeSweepIf happens r) ∨
    ∃ u : State, s.takeSweepIf happens r = u.goDark := by
  unfold State.takeSweepIf; split
  · exact Cards.takeSweep s r
  · exact .inl (.refl s)

/-- Every command and event (R168 to R177). -/
theorem exec_turns (i : Instr) (e : exec i s = .next t) : s.Turns t := by
  have same := Works.refl s
  have runs := Runs.start s.flightOk s
  have cards := Cards.refl s
  obtain ⟨asserts, reset, identify, block, busy⟩ := s.attach_write
  cases i with
  | powerOn b => cases e; exact .inr ⟨b, s.pending, rfl, rfl, rfl, rfl⟩
  | dataReady => exact .event e same.other
  | sampleArrival bytes =>
    exact .event (effect := fun u => u.takeSample bytes) e (.of_runs ((runs.takeSample bytes).arrives (by simp [State.flight])))
  | gapExpiry => exact .event e (.of_runs (runs.takeGap.arrives (by simp [State.flight]))) (takeGap_cards s)
  | frameStart => exact .event e (.of_runs (runs.takeFrameStart.arrives (by simp [State.flight])))
  | line index pixels => exact .event (effect := fun u => u.takeLine index pixels) e same.other (cards.aside (by simp) (by simp))
  | frameEnd => exact .event e (.of_runs (runs.takeFrameEnd.arrives (by simp [State.flight])))
  | cellBadCheck => exact .event (effect := fun u => u.count .cellsBadCheck) e (same.other rfl rfl rfl)
  | clipCell flags sequence payload =>
    exact .event e (.of_runs (RunsTo.checkPowerClose
      ((runs.takeClipCell flags sequence payload).arrives (by simp [State.flight])) s))
      (cards.aside.checkPowerClose s)
  | drainTimeout => exact .event e drainExpires_works (drainExpires_cards s)
  | cellSent => exact .event e (same.other rfl rfl rfl)
  | unknownCommand tag code params =>
    exact .event (effect := fun u => u.takeUnknown tag code params) e (takeUnknown_works tag code params)
      (takeUnknown_cards s tag code params)
  | loadTableMotion tag fields => exact .command e same.other
  | loadTableLens tag fields => exact .command e same.other
  | loadTableWindow tag fields => exact .command e same.other
  | loadTableRecorder tag fields =>
    exact .command e (.of_runs ((runs.loadRecorder fields).arrives (by simp [State.flight])))
  | loadTableProfile tag fields => exact .command e same.other
  | appendExtent tag params => exact .command e (same.other (by simp) (by simp) (append_write s _ _)) (Cards.append s _ _)
  | clearExtents tag params => exact .command e same.other
  | addProtect tag params => exact .command e same.other
  | removeProtect tag params => exact .command e (removeProtect_works _)
  | arm tag params => exact .command e (.of_runs (runs.arm.arrives (by simp [State.flight])))
  | disarm tag params => exact .command e (.of_runs (runs.disarm.arrives (by simp [State.flight])))
  | startRecord tag params => exact .command e (.of_runs (runs.startRecord.arrives (by simp [State.flight])))
  | stopRecord tag params => exact .command e (.of_runs (runs.stopRecord.arrives (by simp [State.flight])))
  | abortClip tag params => exact .command e (abortClip_works _) (abortClip_cards s _)
  | setCardGrade tag params => exact .command e (same.other (by simp) (by simp) rfl) (cards.same rfl)
  | setInputLimit tag params => exact .command e same.other
  | chargeReset tag params => exact .command e same.other
  | setTime tag params => exact .command e (moveTime_works _) (moveTime_cards s _)
  | standby tag params =>
    refine .command e (.of_runs (RunsTo.standbyCommand runs fun law quiet => flight_of_flightOk law fun w _ writing _ _ => ?_))
      (Cards.standbyCommand s)
    simp [quiet] at writing
  | wake tag params => exact .command e (.of_runs (RunsTo.wakeCommand runs)) (Cards.wakeCommand s)
  | queryStatus tag argument => exact .command e same cards
  | queryClip tag argument => exact .command e same cards
  | queryExtents tag argument => exact .command e same cards
  | queryProtect tag argument => exact .command e same cards
  | queryCounters tag argument => exact .command e same cards
  | queryTable tag argument => exact .command e same cards
  | clearCounters tag params => exact .command e same.other
  | restart tag params =>
    exact .event (effect := fun u => u.takeRestart tag params) e (takeRestart_works tag params)
      (Cards.takeRestart s tag params)
  | detectLineChange => exact .event e (same.other rfl rfl rfl) (cards.same rfl)
  | detectAsserted => exact .event e (same.other (write := asserts)) (Cards.detectAsserts s)
  | detectReleased => exact .event e releaseDetect_works (Cards.detectReleases s)
  | resetWaitExpiry => exact .event e (same.other (write := reset)) (Cards.resetWaitEnds s)
  | identifyAnswer answer =>
    exact .event (effect := fun u => u.takeIdentify answer) e (same.other (by simp) (by simp) (s.takeIdentify_write answer))
      (Cards.takeIdentify s answer)
  | identifyTimeout => exact .event e (same.other (write := identify)) (Cards.identifyExpires s)
  | setGradeAnswer ecc =>
    exact .event (effect := fun u => u.takeGradeAnswer ecc) e (takeGradeAnswer_works ecc) (Cards.takeGradeAnswer s ecc)
  | setGradeTimeout => exact .event e gradeExpires_works (Cards.gradeExpires s)
  | slotWriteStart ecc => exact .event e (writeStarts_works ecc) (Cards.writeStarts s ecc)
  | blockAnswer result ecc =>
    exact .event (effect := fun u => u.takeBlockAnswer result ecc) e (takeBlockAnswer_works result ecc)
      (Cards.takeBlockAnswer s result ecc)
  | blockAnswerTimeout => exact .event e (same.other (write := block)) (Cards.blockExpires s)
  | busyTimerExpiry => exact .event e (same.other (write := busy)) (Cards.busyExpires s)
  | readyReport report =>
    exact .event (effect := fun u => u.takeReady report.moment report.ecc) e (takeReady_works _ _) (Cards.takeReady s _ _)
  | stopTimeout => exact .event e stopExpires_works (Cards.stopExpires s)
  | sweep readings =>
    exact .sweep (effect := fun u => u.takeSweep readings) e (RunsTo.takeSweep runs readings)
      (Cards.takeSweep s readings)
  | qualifyEnd readings => exact .sweep e (RunsTo.takeSweepIf runs _ readings) (Cards.takeSweepIf s _ readings)
  | terminationCountReached readings => exact .sweep e (RunsTo.takeSweepIf runs _ readings) (Cards.takeSweepIf s _ readings)
  | safetyTimerExpiry readings => exact .sweep e (RunsTo.takeSweepIf runs _ readings) (Cards.takeSweepIf s _ readings)
  | criticalCountReached readings => exact .sweep e (RunsTo.takeSweepIf runs _ readings) (Cards.takeSweepIf s _ readings)
  | wakeTimerExpiry => exact .event e (.of_runs (RunsTo.wakeExpires runs)) (Cards.wakeExpires s)

/-! ### A step -/

/-- The command that runs is taken off the queue, which no law reads. -/
theorem Turns.popped {rest : List Instr} (h : State.Turns { s with pending := rest } t) : s.Turns t := by
  rcases h with ⟨works, cards⟩ | fresh
  · exact .inl ⟨⟨⟨works.mem, works.order⟩, works.path⟩, ⟨cards.slotted, cards.ok⟩⟩
  · exact .inr fresh

/-- Every step (log entry 2). -/
theorem step_turns (e : step s = .next t) : s.Turns t := by
  unfold step at e
  split at e
  · next c rest _ => exact (exec_turns c e).popped
  · cases e
    refine .inl ?_
    unfold State.idle; split
    · exact ⟨(Works.refl s).other rfl rfl rfl, (Cards.refl s).same rfl⟩
    · exact ⟨.refl s, .refl s⟩

end State
end Sys2Proof.Machine
end

section
/-!
The laws of the slot buffer and of the clips over a step, read off its path in the ledger (O16).
-/
set_option Elab.async false

namespace Sys2Proof.Machine

namespace State

variable {s t : State}

/-- A part that starts afresh meets every law of the buffer, with no slot in use and no clip (R70, R167). -/
theorem fresh_laws (h : t.fresh) : t.memoryOk ∧ t.tenthOk ∧ t.sb.slots = [] ∧ t.clc.clips = [] := by
  obtain ⟨b, q, sb, clc, cp, smn⟩ := h
  obtain ⟨powered, me, wu, sp, lp, sb', xm, cp', clc', chg, smn', pending⟩ := t
  cases sb; cases clc; cases cp; cases smn
  refine ⟨?_, State.powerOn_tenthOk b q, rfl, rfl⟩
  show Memory.wf SlotBuffer.powerOn.mem = true
  decide

/-- The parts of the tenth law and all it rests on, in the two faces of a state. -/
theorem tenthOk_iff : s.tenthOk ↔ s.inOrder ∧ s.cardFace.slotted ∧ s.cardFace.Ok ∧ (s.ledger s.flight []).Placed ∧
    (s.ledger s.flight []).Named ∧ (s.ledger s.flight []).Written ∧ (s.ledger s.flight []).Tenth := by
  constructor
  · intro law
    have tenth := tenth_of law
    obtain ⟨-, -, buffer, states, writing, flight, parked, reason, -⟩ := law
    obtain ⟨order, slotted, placed⟩ := bufferOk_iff.mp buffer
    exact ⟨order, slotted_iff.mp slotted, cardOk_iff.mp ⟨flight, parked, reason⟩, placed, (statesOk_iff order placed).mp states,
      (writingOk_iff order).mp writing, tenth⟩
  · rintro ⟨order, slotted, card, placed, named, written, tenth⟩
    obtain ⟨flight, parked, reason⟩ := cardOk_iff.mpr card
    obtain ⟨recorder, numbers, queue, accounts, ends⟩ := of_tenth tenth
    exact ⟨recorder, numbers, bufferOk_iff.mpr ⟨order, slotted_iff.mpr slotted, placed⟩, (statesOk_iff order placed).mpr named,
      (writingOk_iff order).mpr written, flight, parked, reason, queue, accounts, ends⟩

/-- The canonical form of the stacked DRAM (log entry 8). -/
theorem Turns.memoryOk (h : s.Turns t) (law : s.memoryOk) : t.memoryOk := by
  rcases h with ⟨works, -⟩ | fresh
  · exact works.mem law
  · exact (fresh_laws fresh).1

/-- The third and fourth laws (R70, R72, R78, R79). -/
theorem Turns.bufferOk (h : s.Turns t) (law : s.bufferOk) : t.bufferOk := by
  rcases h with ⟨works, cards⟩ | fresh
  · obtain ⟨order, slotted, placed⟩ := bufferOk_iff.mp law
    obtain ⟨M, start, path⟩ := works.path slotted placed
    exact bufferOk_iff.mpr ⟨works.order order, slotted_iff.mpr (cards.slotted (slotted_iff.mp slotted)),
      path.placed (start.placed placed)⟩
  · obtain ⟨-, ⟨-, -, buffer, -⟩, -⟩ := fresh_laws fresh
    exact buffer

/-- The STATE of every slot names its place (R70). -/
theorem Turns.statesOk (h : s.Turns t) (law : s.bufferOk) (states : s.statesOk) : t.statesOk := by
  have buffer := h.bufferOk law
  rcases h with ⟨works, -⟩ | fresh
  · obtain ⟨order, slotted, placed⟩ := bufferOk_iff.mp law
    obtain ⟨order_t, -, placed_t⟩ := bufferOk_iff.mp buffer
    obtain ⟨M, start, path⟩ := works.path slotted placed
    have named := (statesOk_iff order placed).mp states
    exact (statesOk_iff order_t placed_t).mpr (path.named (start.placed placed) (start.named placed named))
  · obtain ⟨-, ⟨-, -, -, states, -⟩, -⟩ := fresh_laws fresh
    exact states

/-- PREROLL slots exist only while ARMED (R78). -/
theorem preroll_armed (buffer : s.bufferOk) (states : s.statesOk) (mode : s.clc.mode ≠ .armed) :
    ∀ p ∈ s.sb.slots, p.2.state ≠ .preroll := by
  obtain ⟨-, -, -, -, -, ring, -⟩ := buffer
  obtain ⟨-, -, -, -, places⟩ := states
  intro p mem state
  obtain ⟨-, -, own, -⟩ := places p mem
  have listed := own state
  rw [ring mode] at listed
  cases listed

/-- At most one slot is WRITING (third law, R110). -/
theorem writing_unique (order : s.inOrder) (writing : s.writingOk) : ∀ p ∈ s.sb.slots, ∀ q ∈ s.sb.slots,
    p.2.state = .writing → q.2.state = .writing → p = q := by
  intro p mem_p q mem_q writes_p writes_q
  obtain ⟨w, write, taken⟩ := writing p mem_p writes_p
  obtain ⟨v, again, same⟩ := writing q mem_q writes_q
  cases write.symm.trans again
  have key : p.1 = q.1 := Option.some.inj (taken.symm.trans same)
  have found := lookup_of_mem order mem_p
  rw [key, lookup_of_mem order mem_q] at found
  exact Prod.ext key (Option.some.inj found).symm

/-- From a state with the tenth law and all it rests on (R122, R134). -/
theorem Turns.tenthOk (h : s.Turns t) (law : s.tenthOk) : t.inOrder ∧ t.writingOk ∧
    ((∀ r ∈ t.clc.clips, r.slotCount < 4294967295) → t.tenthOk) ∧
    ∀ p ∈ s.clc.clips, ∀ q ∈ t.clc.clips, p.state = .closed → q.state = .closed →
      (∀ r ∈ s.clc.clips, r.number = q.number → r.state ≠ .closed) → p.number < q.number := by
  rcases h with ⟨works, cards⟩ | fresh
  · obtain ⟨order, slotted, card, placed, named, written, tenth⟩ := tenthOk_iff.mp law
    obtain ⟨guard, -, -⟩ := cardOk_iff.mpr card
    obtain ⟨M, start, path⟩ := works.path (slotted_iff.mpr slotted) placed
    have order_t := works.order order
    obtain ⟨placed_t, named_t, written_t, tenth_t⟩ :=
      path.sound guard (start.sound ⟨placed, named, written, .inl tenth⟩ tenth)
    refine ⟨order_t, (writingOk_iff order_t).mpr written_t, fun room => ?_, fun p mem_p q mem_q closed_p closed_q new => ?_⟩
    · refine tenthOk_iff.mpr ⟨order_t, cards.slotted slotted, cards.ok card, placed_t, named_t, written_t,
        tenth_t.resolve_right ?_⟩
      rintro ⟨r, mem, -, full⟩
      obtain ⟨c, own, rfl⟩ := List.mem_map.mp mem
      exact absurd (room c own) (Nat.not_lt_of_ge full)
    · obtain ⟨r, mem_r, same, closed_r⟩ := path.noneCloses q.account (List.mem_map_of_mem mem_q) closed_q
      rcases start.closes tenth r mem_r closed_r with ⟨c, mem_c, number, closed_c⟩ | higher
      · obtain ⟨c, own, rfl⟩ := List.mem_map.mp mem_c
        exact absurd closed_c (new c own (number.trans same))
      · exact (higher p.account (List.mem_map_of_mem mem_p) closed_p).trans_eq same
  · obtain ⟨-, laws, -, clips⟩ := fresh_laws fresh
    obtain ⟨order, -, -, -, -, written, -⟩ := tenthOk_iff.mp laws
    refine ⟨order, (writingOk_iff order).mpr written, fun _ => laws, fun p _ q mem => ?_⟩
    rw [clips] at mem
    cases mem

end State
end Sys2Proof.Machine

open Sys2Proof.Machine

/-- Settles O16: every step is a Start and then a path of moves in the ledger, and each of them keeps the laws. -/
theorem bufferKeepsItsOrder : Obligations.BufferKeepsItsOrder := by
  refine fun s t => ⟨fun law e => (State.step_turns e).memoryOk law, fun law e => (State.step_turns e).bufferOk law,
    fun law states e => ?_, fun law e => ?_⟩
  · have buffer := (State.step_turns e).bufferOk law
    have states := (State.step_turns e).statesOk law states
    exact ⟨states, State.preroll_armed buffer states⟩
  · obtain ⟨order, writing, tenth, closed⟩ := (State.step_turns e).tenthOk law
    exact ⟨writing, State.writing_unique order writing, tenth, closed⟩
end
